-- ==== Sys2Proof/Word.lean ====
section
/-! DEFINITION. The word and byte types and their plainest arithmetic (R5, R6, R10, R22). -/

namespace Sys2Proof

/-- One register of the part (R10). -/
abbrev Word := BitVec 32

/-- One byte of memory. -/
abbrev Byte := BitVec 8

/-- A power of two. -/
abbrev pow2 (n : Nat) : Nat := 2 ^ n

/-- Clamp an integer to the signed `n`-bit range: `sat()` of R22. -/
def satS (n : Nat) (x : Int) : Int :=
  let hi : Int := 2 ^ (n - 1)
  if x < -hi then -hi else if x ≥ hi then hi - 1 else x

/-- Clamp a natural number to the unsigned `n`-bit range. -/
def satU (n : Nat) (x : Nat) : Nat := if x < 2 ^ n then x else 2 ^ n - 1

/-- Wrap an integer to the signed `n`-bit range (R22). -/
def wrapS (n : Nat) (x : Int) : Int :=
  let m : Int := 2 ^ n
  let r := x % m
  if r ≥ m / 2 then r - m else r

/-- Arithmetic shift right: `>>` of R22 on signed values (floor). -/
def asr (x : Int) (k : Nat) : Int := x.fdiv (2 ^ k)

/-- Division of R22, truncating toward zero. -/
def divT (x y : Int) : Int := x.tdiv y

/-- The bits [hi:lo] of a natural number. -/
def bitsOf (x hi lo : Nat) : Nat := x / 2 ^ lo % 2 ^ (hi + 1 - lo)

/-- Bit `k` of a natural number. -/
def bitOf (x k : Nat) : Bool := x / 2 ^ k % 2 == 1

/-- A Boolean as a bit. -/
def b2n (b : Bool) : Nat := if b then 1 else 0

/-- The low `n` bits of `x` read as a signed value. -/
def toS (n : Nat) (x : Nat) : Int := wrapS n (x : Int)

/-- The `n`-bit two's-complement code of an integer. -/
def ofS (n : Nat) (x : Int) : Nat := (x % (2 ^ n : Int)).toNat

/-- The bytes of a natural number, least significant first (R5). -/
def toBytes (k : Nat) (x : Nat) : List Byte :=
  (List.range k).map (fun j => BitVec.ofNat 8 (x / 2 ^ (8 * j)))

/-- The natural number that a list of bytes spells, least significant first (R5). -/
def ofBytes : List Byte → Nat
  | [] => 0
  | b :: r => b.toNat + 256 * ofBytes r

/-- The absolute value of an integer as a natural number. -/
def absI (x : Int) : Nat := x.natAbs

/-- An integer clamped into [lo, hi]. -/
def clampI (lo hi x : Int) : Int := if x < lo then lo else if hi < x then hi else x

end Sys2Proof
end

