-- ==== Sys2Proof/Syntax.lean ====
section
/-! DEFINITION. The commands: one constructor per row of spec/opcode_table.json, with the row's operands.
Every constructor's first operand `t` is the Global Time Counter value, in ns, at which its step takes place (log 1). -/

namespace Sys2Proof

/-- Who stands behind a register access (R12, R25, R357, R382): the access rights depend on it. -/
inductive Initiator where
  /-- the Control Core, running Wounser -/
  | cc
  /-- an application core, running drive firmware -/
  | app (core : Fin 4)
  /-- the management core -/
  | mgmt
  /-- the host behind port A, through BAR2 -/
  | hostA
  /-- the host behind port B, through BAR2 -/
  | hostB
  /-- the peer's Wounser, through Rope (R357) -/
  | peer
deriving DecidableEq, Repr

/-- A host port (R211). -/
inductive Port where
  | a
  | b
deriving DecidableEq, Repr

/-- The two dies: the two ends of Passage. -/
inductive Die where
  | h
  | m
deriving DecidableEq, Repr

/-- Where a completion record goes (R63, R243). -/
inductive CplDest where
  | data
  | motion
  | sched
deriving DecidableEq, Repr

/-- The access of an application core that reaches the Map Cache (R296). -/
inductive CoreOp where
  /-- a load of that many bytes -/
  | load (nbytes : Nat)
  /-- a store of these bytes -/
  | store (bytes : List Byte)
  /-- an atomic operation: it returns the old bytes and leaves these -/
  | atomic (bytes : List Byte)
deriving DecidableEq, Repr

/-- One logical block that the data mover receives from the host: 4,096 bytes of data, then its metadata as the data mover
leaves it in HMD (R229, R241, R249). -/
structure HostBlock where
  bytes : List Byte
deriving DecidableEq, Repr

/-- One MCTP packet on the management port (R376, R377). -/
structure MctpPacket where
  bytes : List Byte
deriving DecidableEq, Repr

/-- What the recorder's background check finds (R419). -/
inductive FlowCheck where
  /-- nothing to correct -/
  | clean
  /-- a correctable word -/
  | corrected
  /-- an uncorrectable word in memory `mem` at word `word` -/
  | uncorrectable (mem : Fin 4) (word : Nat)
deriving DecidableEq, Repr

/-- A JTAG instruction (R465, R509): the public ones, and the private ones by their gate (0 Control Core debug, 1 application core
debug, 2 management core debug, 3 SCANTEST). -/
inductive JtagInstr where
  | idcode
  | bypass
  | samplePreload
  | extest
  | clamp
  | gated (gate : Fin 4)
deriving DecidableEq, Repr

/-- What a peer presents while pairing (R476): whether its EN is 1, its device ID, life-cycle state and Wounser major version. -/
structure PeerId where
  en : Bool
  devid : Nat
  lc : Nat
  major : Nat
deriving DecidableEq, Repr

/-- The commands of the block. -/
inductive Instr where
  /-- REGISTER_WRITE (R12): A write to a register with no row of its own sets, ignores or discards fields by access code, with the narrow-write, reserved-encoding and RWG/RWL checks. -/
  | registerWrite (t : Nat) (i : Initiator) (addr nbytes : Nat) (data : BitVec 32)
  /-- REGISTER_READ_CLEAR (R12): A read of an RC register returns the field and then clears it. -/
  | registerReadClear (t : Nat) (i : Initiator) (addr nbytes : Nat)
  /-- LO_READ (R15): A read of a LO register latches the upper half into HI for the reader. -/
  | loRead (t : Nat) (i : Initiator) (addr : Nat)
  /-- UNALIGNED_ACCESS (R10): An access that straddles an aligned word is not performed, and a PROTOCOL fault message is sent. -/
  | unalignedAccess (t : Nat) (i : Initiator) (addr nbytes : Nat) (isWrite : Bool)
  /-- PASSAGE_FLIT_RECEIVE (R28): A Passage receiver decodes a flit, accepts or corrects it, or discards it and requests a replay. -/
  | passageFlitReceive (t : Nat) (side : Die) (flit : BitVec 144)
  /-- PASSAGE_LANE_LOCK_LOSS (R29): A Passage lane loses lock, and the link goes down. -/
  | passageLaneLockLoss (t : Nat) (side : Die) (lane : Fin 4)
  /-- PASSAGE_LINK_UP (R538): Retraining completes; held fault messages and completion records are sent again, and event loads are accepted. -/
  | passageLinkUp (t : Nat)
  /-- PASSAGE_ISOLATION (R33): The link stays down for 1 ms, and the M-die enters the safe state. -/
  | passageIsolation (t : Nat)
  /-- RETRAIN (R36): A write of PASSH_CTRL.RETRAIN takes the link down and retrains it without LINK_UE. -/
  | retrain (t : Nat) (i : Initiator)
  /-- PASSAGE_WRITE_DELIVER (R31): A posted H-die write takes effect on the M-die in initiator order. -/
  | passageWriteDeliver (t : Nat) (i : Initiator)
  /-- PASSAGE_READ_RESPONSE (R31): The response of a split read across Passage arrives. -/
  | passageReadResponse (t : Nat) (i : Initiator)
  /-- SPLIT_READ_TIMEOUT (R31): No read response arrives within 10 µs; the read returns 0, and a TIMEOUT fault message is sent. -/
  | splitReadTimeout (t : Nat) (i : Initiator)
  /-- EVENT_COMMIT (R54): A write to ATB_EVT_W3 commits the staged entry of the initiator. -/
  | eventCommit (t : Nat) (i : Initiator) (n : Fin 4) (w3 : BitVec 32)
  /-- EVENT_INSERT (R57): The entry reaches the M-die and is checked at insertion, then accepted (LATE or not) or discarded. -/
  | eventInsert (t : Nat) (n : Fin 4) (ang : Nat)
  /-- ATB_CANCEL (R62): A write to ATB_CANCEL removes the matching entries with status CANCELLED. -/
  | atbCancel (t : Nat) (i : Initiator) (n : Fin 4) (w : BitVec 32)
  /-- MARKER (R56): A MARKER event reaches its angle and writes a completion record. -/
  | marker (t : Nat) (n : Fin 4)
  /-- RD_ON (R112): An RD_ON event opens the read gate for one fragment, subject to descriptor, ledge lock and gate-conflict checks. -/
  | rdOn (t : Nat) (n : Fin 4)
  /-- RD_OFF (R112): An RD_OFF event closes the read gate or cuts the fragment. -/
  | rdOff (t : Nat) (n : Fin 4)
  /-- WR_ON (R121): A WR_ON event asserts the write gate and starts write data when every check and write permit pass. -/
  | wrOn (t : Nat) (n : Fin 4)
  /-- WR_OFF (R112): A WR_OFF event deasserts the write gate or cuts the write. -/
  | wrOff (t : Nat) (n : Fin 4)
  /-- FMARK (R110): An FMARK event opens the mark search window on a read or writes the mark on a write. -/
  | fmark (t : Nat) (n : Fin 4)
  /-- SERVO_WIN (R80): A SERVO_WIN event opens the wedge detector window. -/
  | servoWin (t : Nat) (n : Fin 4)
  /-- ASSIST (R120): An ASSIST event sends its level-code frame to the preamp. -/
  | assist (t : Nat) (n : Fin 4)
  /-- SNAPSHOT (R56): A SNAPSHOT event fires a Flowstone trigger and latches the angle and the GTC. -/
  | snapshot (t : Nat) (n : Fin 4)
  /-- HEAD_SW (R52): A HEAD_SW event selects a head, steps the angle, leaves LEDGE and starts the head-select frame. -/
  | headSw (t : Nat) (n : Fin 4)
  /-- SETPOINT (R162): A SETPOINT event loads a new target into the profile generator. -/
  | setpoint (t : Nat) (n : Fin 4)
  /-- LOOP_MODE (R149): A LOOP_MODE event changes the loop unit's mode and region. -/
  | loopMode (t : Nat) (n : Fin 4)
  /-- MICROJOG (R170): A MICROJOG event sets the section's position offset. -/
  | microjog (t : Nat) (n : Fin 4)
  /-- COMPLETION_RECORD_DELIVER (R63): A completion record held for ring space or the link leaves the hold for its destination. -/
  | completionRecordDeliver (t : Nat) (n : Fin 4) (dest : CplDest)
  /-- ATB_HEAD_OFS_WRITE (R51): A write of ATB_HEAD_OFSh; in MASTER for the selected head it steps the angle at once. -/
  | atbHeadOfsWrite (t : Nat) (i : Initiator) (n : Fin 4) (h : Fin 8) (data : BitVec 32)
  /-- WEDGE_RESULT (R81): The wedge detector delivers its window result; the ATB may take a sync, step, change state, recompute the period and write its angle report. -/
  | wedgeResult (t : Nat) (n : Fin 4) (ang : Nat) (samf : Bool) (word : BitVec 12) (gray : BitVec 24) (bursts : BitVec 32)
  /-- LEDGE_LOCK (R49): After 64 consecutive tone cycles within tolerance, the ATB declares ledge lock and enters LEDGE. -/
  | ledgeLock (t : Nat) (n : Fin 4)
  /-- HOLDOVER_TIMEOUT (R49): Two wedge intervals pass in HOLDOVER without lock, and the ATB moves to WEDGE. -/
  | holdoverTimeout (t : Nat) (n : Fin 4)
  /-- POSITION_SAMPLE (R73): Every 80 ns the ledge demodulator delivers a position sample, and the write permit is judged. -/
  | positionSample (t : Nat) (n : Fin 4) (ang : Nat) (a b : BitVec 12)
  /-- CODEWORD_ARRIVE (R106): The last body column of a codeword arrives; the pool is credited and decoding starts, or the oldest buffered codeword is abandoned. -/
  | codewordArrive (t : Nat) (n : Fin 4) (scores : List (Int × Nat))
  /-- DECODER_ITERATION (R105): One decoder iteration ends; the codeword converges and is delivered, continues, or ends UNCONV. -/
  | decoderIteration (t : Nat) (n : Fin 4) (conv : Bool) (info : List (BitVec 8))
  /-- FRAGMENT_END (R112): The end pad of a fragment is reached, and the gate closes. -/
  | fragmentEnd (t : Nat) (n : Fin 4) (scores : List (Int × Nat))
  /-- WRITE_MARK_TIMEOUT (R118): No FMARK for the SID fires within 64 positions of WR_ON; the gate drops and the result is WR_CUT. -/
  | writeMarkTimeout (t : Nat) (n : Fin 4)
  /-- WRITE_BLOCK_ARRIVE (R117): The media DMA delivers an information block into a place of the channel's write buffer. -/
  | writeBlockArrive (t : Nat) (n : Fin 4)
  /-- REC_START (R122): A write of CH_REC_CMD starts the recovery sequencer on a slot, or ends it at once with BADSLOT. -/
  | recStart (t : Nat) (i : Initiator) (n : Fin 4) (w : BitVec 32)
  /-- REC_MEDIA_READ (R125): An REC-inserted read fires or fails to fire in a later revolution, and REC takes its outcome. -/
  | recMediaRead (t : Nat) (n : Fin 4) (status : BitVec 4) (scores0 scores1 : List (Int × Nat))
  /-- REC_DECODE_DONE (R123): An REC re-decode ends; REC recovers the sector or moves to the next step. -/
  | recDecodeDone (t : Nat) (n : Fin 4) (conv : Bool) (iters : Nat) (info : List (BitVec 8))
  /-- SBUF_RELEASE (R129): A write to CH_SBUF_REL releases sample slots. -/
  | sbufRelease (t : Nat) (i : Initiator) (n : Fin 4) (w : BitVec 32)
  /-- SBUF_DATA_READ (R132): A read of CH_SBUF_DATA returns three samples and advances the internal position. -/
  | sbufDataRead (t : Nat) (i : Initiator) (n : Fin 4)
  /-- LOOP_SAMPLE (R137): Each LE_PERIOD the loop units measure, compute, take the budget, apply the commands and predict. -/
  | loopSample (t : Nat) (miss uncorr : BitVec 4)
  /-- CPL_COMMIT (R153): A write of LE_CTRL.CPL_COMMIT makes the staged coupling matrix take effect at the next sample. -/
  | cplCommit (t : Nat) (i : Initiator)
  /-- VCM_PWM_PERIOD (R172): Each 2 µs VCM PWM period senses the coil current and drives the bridge from its selected source, with the overcurrent limit. -/
  | vcmPwmPeriod (t : Nat) (n : Fin 4) (isns va vb : Int)
  /-- PARK (R182): A write of ACT_CTRL.PARK starts the retract machine. -/
  | park (t : Nat) (i : Initiator) (n : Fin 4)
  /-- RETRACT_PARK_CURRENT (R182): RT_T1 expires, and the retract machine applies constant park current. -/
  | retractParkCurrent (t : Nat) (n : Fin 4)
  /-- RETRACT_END (R182): RT_T1 + RT_T2 expires; gates deassert, PARKED sets and the ATB enters MASTER. -/
  | retractEnd (t : Nat) (n : Fin 4)
  /-- OC_CLR (R174): A write of ACT_CTRL.OC_CLR clears the latched overcurrent. -/
  | ocClr (t : Nat) (i : Initiator) (n : Fin 4)
  /-- HALT (R165): A write of ACT_CTRL.HALT brings the generator to a stop, and it arrives at its present position. -/
  | halt (t : Nat) (i : Initiator) (n : Fin 4)
  /-- PRE_CMD (R176): A write of PRE_CMD queues a preamp frame, or is discarded when four are queued. -/
  | preCmd (t : Nat) (i : Initiator) (n : Fin 4) (w : BitVec 32)
  /-- PREAMP_FRAME_END (R176): A preamp port frame ends; read data is latched and the next queued frame starts. -/
  | preampFrameEnd (t : Nat) (n : Fin 4) (data : BitVec 16)
  /-- PREAMP_FAULT (R177): An assertion of ACTn_PFLT_N sets PRE_FAULT, raises write inhibit and sends PREAMP_FAULT. -/
  | preampFault (t : Nat) (n : Fin 4)
  /-- SHOCK (R183): The shock signal crosses its threshold; write inhibit stands and a SHOCK fault message is sent. -/
  | shock (t : Nat) (n : Fin 4) (mv : Int)
  /-- SHOCK_HOLD_END (R183): SHK_CFG.HOLD passes after the last exceedance, and the shock input clears. -/
  | shockHoldEnd (t : Nat) (n : Fin 4)
  /-- SPIN_CONTROL_CYCLE (R192): At each sampling valley SPIN samples the shunts and VBUS, runs FOC and sets the next duties. -/
  | spinControlCycle (t : Nat) (cu cv cw : Int) (vbus : Nat)
  /-- ENCODER_EDGE (R195): A quadrature edge advances the Master Angle and the speed measurement. -/
  | encoderEdge (t : Nat) (a b : Bool)
  /-- ENC_IDX (R195): An index pulse sets the Master Angle to SP_IDX_OFS, sets ABS and checks the count per revolution. -/
  | encIdx (t : Nat)
  /-- ENCODER_TIMEOUT (R197): No encoder edge arrives for SP_ENC.TMO; SPIN faults, or ZVBRAKE ends at OFF. -/
  | encoderTimeout (t : Nat)
  /-- START (R200): SP_CMD OP START moves SPIN into ASSESS. -/
  | start (t : Nat) (i : Initiator)
  /-- STOP (R201): SP_CMD OP STOP moves SPIN to DECEL, ZVBRAKE or OFF. -/
  | stop (t : Nat) (i : Initiator)
  /-- COAST (R201): SP_CMD OP COAST moves SPIN to OFF. -/
  | coast (t : Nat) (i : Initiator)
  /-- ASSESS_PROBE (R200): Every 1 ms in ASSESS, SPIN applies a zero-vector probe and samples the shunts. -/
  | assessProbe (t : Nat) (cu cv cw : Int)
  /-- ASSESS_END (R200): After 10 ms of ASSESS, SPIN decides between catch, brake, ALIGN and FAULT. -/
  | assessEnd (t : Nat)
  /-- ALIGN_END (R199): ALIGN_T expires; θe is preset to 0 and SPIN enters SPEED. -/
  | alignEnd (t : Nat)
  /-- SP_TGT_WRITE (R198): A write of SP_TGT clears LOCKED and sets the new speed and source. -/
  | spTgtWrite (t : Nat) (i : Initiator) (w : BitVec 32)
  /-- VBUS_THRESHOLD (R205): VBUS crosses CHOP_ON, CHOP_OFF or VBUS_ABS; the chopper switches, or the bridge coasts and VBUS_OV is sent. -/
  | vbusThreshold (t : Nat) (vbus : Nat)
  /-- CHOPPER_FAULT (R206): SP_CHOP_FB disagrees with SP_CHOP for longer than FBT, and regenerative braking is inhibited. -/
  | chopperFault (t : Nat)
  /-- CHOP_CLR (R206): A write of SP_CTRL.CHOP_CLR clears CHOPF and REGEN_INH when the feedback agrees. -/
  | chopClr (t : Nat) (i : Initiator) (fb : Bool)
  /-- PL_DONE (R207): A write of SP_CTRL.PL_DONE ends GEN when every section is parked. -/
  | plDone (t : Nat) (i : Initiator)
  /-- FAULT_CLR (R199): A write of SP_CTRL.FAULT_CLR moves SPIN from FAULT to OFF and clears PL. -/
  | faultClr (t : Nat) (i : Initiator)
  /-- POWER_LOSS (R207): MAON decides power loss; write inhibit, die alert, retracts, GEN or ZVBRAKE, and the dump are started. -/
  | powerLoss (t : Nat)
  /-- PL_TMAX_EXPIRY (R207): PL_TMAX passes after the power-loss decision, and GEN ends at ZVBRAKE. -/
  | plTmaxExpiry (t : Nat)
  /-- CONVENTIONAL_RESET (R233): PERST#, hot reset or link down resets a port, discarding its fetched uncommitted commands. -/
  | conventionalReset (t : Nat) (p : Port)
  /-- FUNCTION_LEVEL_RESET (R233): An FLR resets the port's function and queues as a controller reset. -/
  | functionLevelReset (t : Nat) (p : Port)
  /-- CONTROLLER_ENABLE (R217): CC.EN 0→1 creates the port's admin queues. -/
  | controllerEnable (t : Nat) (p : Port) (cc aqa : BitVec 32) (asq acq : BitVec 64)
  /-- CONTROLLER_RESET (R233): CC.EN 1→0 stops fetch, discards uncommitted commands and deletes the port's queues. -/
  | controllerReset (t : Nat) (p : Port)
  /-- NVM_SUBSYSTEM_RESET (R233): NSSR written with the key resets both ports and sets CSTS.NSSRO. -/
  | nvmSubsystemReset (t : Nat) (p : Port) (w : BitVec 32)
  /-- SHUTDOWN_NOTIFICATION (R233): A write of CC.SHN sets SHN_x while fetch continues. -/
  | shutdownNotification (t : Nat) (p : Port) (shn : BitVec 2)
  /-- DOORBELL_WRITE (R218): A doorbell write updates an SQ tail or CQ head, or is recorded in QENG_DBERR. -/
  | doorbellWrite (t : Nat) (p : Port) (off nbytes : Nat) (w : BitVec 32)
  /-- QUEUE_CREATE (R217): QENG_QCMD CREATE creates an I/O queue from the context registers, or refuses it. -/
  | queueCreate (t : Nat) (i : Initiator)
  /-- QUEUE_DELETE (R232): QENG_QCMD DELETE stops fetch and completes the queue's uncommitted commands with SQ deletion status. -/
  | queueDelete (t : Nat) (i : Initiator)
  /-- QUEUE_READ (R217): QENG_QCMD READ loads the queue context registers. -/
  | queueRead (t : Nat) (i : Initiator)
  /-- FETCH_DECISION (R220): A port's arbitration picks an SQ and a count of entries to fetch. -/
  | fetchDecision (t : Nat) (p : Port)
  /-- SQ_FETCH_COMPLETE (R223): The SQ entry read returns; commands take slots and dispatch records are queued, or the fetch error is set. -/
  | sqFetchComplete (t : Nat) (p : Port) (ok : Bool) (entries : List (List (BitVec 32)))
  /-- DISPATCH_RECORD (R223): A dispatch or notice record is written to an application core's ring when it has room. -/
  | dispatchRecord (t : Nat) (c : Fin 4)
  /-- COMPLETION_POST (R224): A write of QENG_CPL_W3 hands a completion to QENG, or drops it. -/
  | completionPost (t : Nat) (i : Initiator) (w3 : BitVec 32)
  /-- COMPLETION_COMMIT (R225): A posted completion commits at its CQ tail once there is room and ordering allows. -/
  | completionCommit (t : Nat) (slot : Nat)
  /-- INTERRUPT_COALESCING_TIMEOUT (R227): TIME × 100 µs passes since the first uncoalesced entry, and the MSI-X message is sent. -/
  | interruptCoalescingTimeout (t : Nat) (p : Port) (v : Nat)
  /-- MSIX_UNMASK (R227): An MSI-X vector is unmasked, and its pending message is sent. -/
  | msixUnmask (t : Nat) (p : Port) (v : Nat)
  /-- ABORT_LOOKUP (R230): A write of QENG_ABORT1 looks up the command and aborts it if uncommitted. -/
  | abortLookup (t : Nat) (i : Initiator) (w : BitVec 32)
  /-- SLOT_RELEASE (R221): A write of QENG_SLOT_REL frees a command slot. -/
  | slotRelease (t : Nat) (i : Initiator) (w : BitVec 32)
  /-- PAUSE (R234): A write of QENG_CTRL.PAUSE_x stops or resumes fetch on a port. -/
  | pause (t : Nat) (i : Initiator) (p : Port) (on : Bool)
  /-- FETCH_QUIESCED (R234): No SQ read is outstanding during PAUSE, and PP_x and CSTS.PP set. -/
  | fetchQuiesced (t : Nat) (p : Port)
  /-- HOLD (R235): A write of QENG_PS_CTRL.HOLD holds or releases dispatch records of KIND 0. -/
  | hold (t : Nat) (i : Initiator) (on : Bool)
  /-- QENG_DBERR_POP (R218): A read of QENG_DBERR pops the doorbell error FIFO. -/
  | qengDberrPop (t : Nat) (i : Initiator)
  /-- TRANSFER_SUBMIT (R249): A write of MSCH_XQ_PROD submits transfer descriptors to the data mover. -/
  | transferSubmit (t : Nat) (i : Initiator) (c : Fin 4) (w : BitVec 32)
  /-- TRANSFER_COMPLETE (R249): The data mover finishes a transfer and writes its completion. -/
  | transferComplete (t : Nat) (c : Fin 4) (status : BitVec 4) (bad : Nat) (blocks : List HostBlock)
  /-- OP_SUBMIT (R239): A write of MSCH_SQ_PROD submits media operation descriptors. -/
  | opSubmit (t : Nat) (i : Initiator) (n : Fin 4) (w : BitVec 32)
  /-- OP_TAKE (R240): The scheduler takes and checks a descriptor when it has room, or completes it BADDESC. -/
  | opTake (t : Nat) (n : Fin 4)
  /-- OP_SELECT (R246): The scheduler picks the next operation by age, urgency and cost. -/
  | opSelect (t : Nat) (n : Fin 4) (ang : Nat)
  /-- POSITIONING_TIMEOUT (R245): No SETTLED arrives within PTMO, and the operation completes POSFAIL. -/
  | positioningTimeout (t : Nat) (n : Fin 4)
  /-- SCHEDULER_EVENT_LOAD (R244): The scheduler loads the events of its operation within its loading window. -/
  | schedulerEventLoad (t : Nat) (n : Fin 4) (ang : Nat)
  /-- SCHEDULER_RECORD (R243): A completion record of a scheduler TAG reaches the scheduler, which may schedule a retry. -/
  | schedulerRecord (t : Nat) (n : Fin 4)
  /-- OP_COMPLETE (R248): An operation completes, and its record is written when the completion ring has room. -/
  | opComplete (t : Nat) (n : Fin 4)
  /-- MSCH_CANCEL (R259): A write of MSCH_CANCEL cancels an operation's unloaded and read events. -/
  | mschCancel (t : Nat) (i : Initiator) (n : Fin 4) (w : BitVec 32)
  /-- QUIET (R256): Under PAUSE every loaded event has resolved, and MSCH_STATUS.QUIET sets. -/
  | quiet (t : Nat) (n : Fin 4)
  /-- SCHEDULER_LINK_RECOVER (R258): After the held records are delivered, the scheduler treats its unrecorded entries as LINK or HELD. -/
  | schedulerLinkRecover (t : Nat) (n : Fin 4)
  /-- MEDIA_DMA_READ_BLOCK (R39): The media DMA receives a read block and checks CRC, LBA, FMT and KTAG. -/
  | mediaDmaReadBlock (t : Nat) (n : Fin 4)
  /-- MEDIA_DMA_WRITE_BLOCK (R91): The media DMA builds an information block from the segment and descriptor. -/
  | mediaDmaWriteBlock (t : Nat) (n : Fin 4)
  /-- MERGE_WRITE (R278): A partial-word write reads, merges and rewrites the word in the merge buffer. -/
  | mergeWrite (t : Nat) (i : Initiator) (addr : Nat) (bytes : List (BitVec 8))
  /-- CE_WRITE_BACK (R274): A corrected word is written back through the merge buffer, or dropped. -/
  | ceWriteBack (t : Nat)
  /-- FILL_GO (R277): BUF_FILL_CTRL GO starts the fill engine, or is refused. -/
  | fillGo (t : Nat) (i : Initiator) (w : BitVec 32)
  /-- FILL_ABORT (R277): BUF_FILL_CTRL ABORT stops the fill engine after the word in progress. -/
  | fillAbort (t : Nat) (i : Initiator)
  /-- FILL_DONE (R277): The fill engine completes or stops, and FILL_DONE sets. -/
  | fillDone (t : Nat)
  /-- SCRUB_READ (R279): The scrub engine reads the next word, correcting a CE or poisoning a UE. -/
  | scrubRead (t : Nat)
  /-- INIT_SET (R275): A write of 1 to a bit of BUF_INITn sets a region's INIT flag. -/
  | initSet (t : Nat) (i : Initiator) (k : Nat) (w : BitVec 32)
  /-- INIT_CLR (R275): A write of BUF_INIT_CLR clears one region's INIT flag. -/
  | initClr (t : Nat) (i : Initiator) (w : BitVec 32)
  /-- DT_MARK (R283): A write of BUF_DT_MARK marks a dirty-table entry, or refuses the mark. -/
  | dtMark (t : Nat) (i : Initiator) (w : BitVec 32)
  /-- DT_CLEAN (R283): A write of BUF_DT_CLEAN unmarks a dirty-table entry. -/
  | dtClean (t : Nat) (i : Initiator) (w : BitVec 32)
  /-- DUMP_ARM (R284): A write of BUF_DUMP_CTRL.EN 1 arms the dump, or is refused for an oversized area. -/
  | dumpArm (t : Nat) (i : Initiator)
  /-- DUMP_DISARM (R284): A write of BUF_DUMP_CTRL.EN 0 returns STATE to 0 and ends DUMPING. -/
  | dumpDisarm (t : Nat) (i : Initiator)
  /-- TEST (R284): A write of BUF_DUMP_CTRL.TEST starts a test dump while EN is 1. -/
  | test (t : Nat) (i : Initiator)
  /-- DUMP_START (R284): The dump engine starts after the power-loss decision or BUF's return from retention, and takes the marked set. -/
  | dumpStart (t : Nat)
  /-- DUMP_DONE (R284): The dump writes its commit record, and DUMP_DONE sets. -/
  | dumpDone (t : Nat)
  /-- DUMP_ERROR (R286): A Safe Store error or a 10 ms write timeout stops the dump with STATE 3. -/
  | dumpError (t : Nat)
  /-- MAPC_ACCESS (R296): A core access in a cached window hits, recalls from Pocket or misses. -/
  | mapcAccess (t : Nat) (c : Fin 4) (addr : Nat) (op : CoreOp)
  /-- MAPC_FILL_COMPLETE (R299): A miss fill completes and installs the line, or fails and faults the core. -/
  | mapcFillComplete (t : Nat)
  /-- CLEAN (R302): MAPC_OP_CMD CLEAN writes back the dirty lines of a range. -/
  | clean (t : Nat) (i : Initiator)
  /-- INVAL (R302): MAPC_OP_CMD INVAL writes back and invalidates the lines of a range. -/
  | inval (t : Nat) (i : Initiator)
  /-- DISCARD (R302): MAPC_OP_CMD DISCARD invalidates the lines of a range without write-back, except in locked ways. -/
  | discard (t : Nat) (i : Initiator)
  /-- FLUSH_ALL (R302): MAPC_OP_CMD FLUSH_ALL writes back and invalidates every line. -/
  | flushAll (t : Nat) (i : Initiator)
  /-- PRELOAD (R300): MAPC_OP_CMD PRELOAD fills a way with a range and locks it. -/
  | preload (t : Nat) (i : Initiator) (way : BitVec 3)
  /-- MAPC_OP_DONE (R302): A range operation or preload ends, and its result is reported. -/
  | mapcOpDone (t : Nat)
  /-- MAPC_LOCK (R301): A write of MAPC_LOCK locks or unlocks ways. -/
  | mapcLock (t : Nat) (i : Initiator) (w : BitVec 32)
  /-- MAPC_DISABLE (R304): A write of MAPC_CTRL.EN 0 starts write-back of every dirty line before the disable. -/
  | mapcDisable (t : Nat) (i : Initiator)
  /-- MAPC_DISABLE_DONE (R304): The disable write-backs finish; lines, locks and holes clear, and ENABLED reads 0. -/
  | mapcDisableDone (t : Nat)
  /-- MAPC_ENABLE (R304): A write of MAPC_CTRL.EN 1 enables the cache empty. -/
  | mapcEnable (t : Nat) (i : Initiator)
  /-- POCKET_DISABLE (R298): A write of POCKET_EN from 1 to 0 writes back and invalidates Pocket. -/
  | pocketDisable (t : Nat) (i : Initiator)
  /-- SQZ_JOB_START (R322): A Squeeze context falls free and takes the next job from an enabled ring. -/
  | sqzJobStart (t : Nat) (c : Fin 8)
  /-- SQZ_JOB_END (R323): A Squeeze job ends OK, OUT_FULL, NO_GAIN, with a decoder error, MEM_ERR or FENCED. -/
  | sqzJobEnd (t : Nat) (c : Fin 8)
  /-- SQZ_COMPLETION_RECORD (R323): A Squeeze completion record is written when the completion ring has room. -/
  | sqzCompletionRecord (t : Nat) (c : Fin 8)
  /-- SQZ_RING_STOPPED (R334): A disabled ring's last running job finishes, and STOPPED reads 1. -/
  | sqzRingStopped (t : Nat) (r : Fin 64)
  /-- LOAD (R338): CRYP_KS_CMD LOAD unwraps a blob into a key slot. -/
  | ksLoad (t : Nat) (i : Initiator) (wk : BitVec 2)
  /-- ERASE (R338): CRYP_KS_CMD ERASE zeroes a key slot and increments its KEPOCH. -/
  | ksErase (t : Nat) (i : Initiator)
  /-- ERASE_GROUP (R338): CRYP_KS_CMD ERASE_GROUP erases every valid slot of a group. -/
  | eraseGroup (t : Nat) (i : Initiator)
  /-- SET_OWNER (R338): CRYP_KS_CMD SET_OWNER sets a valid slot's OWNER. -/
  | setOwner (t : Nat) (i : Initiator)
  /-- AES_JOB_START (R341): An AES engine takes the next job from an AES ring. -/
  | aesJobStart (t : Nat) (e : Fin 2)
  /-- AES_JOB_END (R342): An AES job ends OK, KEY_STALE, MEM_ERR, BAD_DESC or FENCED. -/
  | aesJobEnd (t : Nat) (e : Fin 2)
  /-- METER_CHARGE (R345): A write of MTR_CHG_AMT charges a meter, or is refused. -/
  | meterCharge (t : Nat) (i : Initiator) (w : BitVec 32)
  /-- EPOCH_BOUNDARY (R346): At an epoch boundary the meters switch banks, and the closed bank is logged and cleared. -/
  | epochBoundary (t : Nat)
  /-- MTR_ORIGIN_WRITE (R347): A write of MTR_ORIGIN_LO commits a new origin and closes the bank PARTIAL. -/
  | mtrOriginWrite (t : Nat) (i : Initiator) (w : BitVec 32)
  /-- METER_ENABLE (R347): A write of MTR_CTRL.EN starts metering, or closes the bank PARTIAL on 0. -/
  | meterEnable (t : Nat) (i : Initiator) (on : Bool)
  /-- CAP_REFILL (R349): Every 1 ms each enabled bucket level gains RATE thousandths. -/
  | capRefill (t : Nat)
  /-- BV_ENABLE (R351): A write of BV_CTRL.EN starts or stops the background verify engine. -/
  | bvEnable (t : Nat) (i : Initiator) (n : Fin 4) (on : Bool)
  /-- RESTART (R351): BV_CTRL.RESTART returns the verify walk to its start. -/
  | bvRestart (t : Nat) (i : Initiator) (n : Fin 4)
  /-- BV_SUBMIT (R352): After BV_CFG.IDLE ms of scheduler idle, the verify engine submits a VERIFY operation. -/
  | bvSubmit (t : Nat) (n : Fin 4)
  /-- MAILBOX_RING (R359): A write of MB_DB.RING presents the request to Wounser, replays a kept response, or is discarded. -/
  | mailboxRing (t : Nat) (i : Initiator) (ch : Fin 16)
  /-- MAILBOX_COMPLETE (R359): Wounser writes the response of a command that took time, sets DONE and clears RUN. -/
  | mailboxComplete (t : Nat) (ch : Fin 16)
  /-- MAILBOX_TIMEOUT (R361): A channel stays BUSY for MB_CFG.TMO, and the hardware writes a TIMEOUT response. -/
  | mailboxTimeout (t : Nat) (ch : Fin 16)
  /-- INFO (R364): The INFO command returns the version, revision, state, heads and device ID. -/
  | info (t : Nat) (ch : Fin 16)
  /-- STATUS (R364): The STATUS command returns spindle, section, grant and safety status. -/
  | status (t : Nat) (ch : Fin 16)
  /-- SPIN_START (R364): The SPIN_START command starts the spindle, or changes speed when it already runs. -/
  | spinStart (t : Nat) (ch : Fin 16)
  /-- SPIN_STOP (R364): The SPIN_STOP command stops the spindle when every section is parked. -/
  | spinStop (t : Nat) (ch : Fin 16)
  /-- SPIN_COAST (R364): The SPIN_COAST command coasts the spindle when every section is parked. -/
  | spinCoast (t : Nat) (ch : Fin 16)
  /-- SPIN_SPEED (R364): The SPIN_SPEED command writes SP_TGT. -/
  | spinSpeed (t : Nat) (ch : Fin 16)
  /-- SPIN_CFG (R364): The SPIN_CFG command loads the SPIN configuration and its MAON copies. -/
  | spinCfg (t : Nat) (ch : Fin 16)
  /-- ACT_LOAD (R181): The ACT_LOAD command runs the load sequence of a section. -/
  | actLoad (t : Nat) (ch : Fin 16)
  /-- LOAD_HANDOFF (R181): After 8 consecutive good wedges, Wounser hands the load from velocity mode to the loop. -/
  | loadHandoff (t : Nat) (n : Fin 4)
  /-- LOAD_TIMEOUT (R181): A load has not left MASTER by 100 ms, and Wounser parks and fails it. -/
  | loadTimeout (t : Nat) (n : Fin 4)
  /-- ACT_UNLOAD (R364): The ACT_UNLOAD command seeks to PARK_TRACK and parks. -/
  | actUnload (t : Nat) (ch : Fin 16)
  /-- ACT_SEEK (R364): The ACT_SEEK command seeks a section to a track. -/
  | actSeek (t : Nat) (ch : Fin 16)
  /-- ACT_MJOG (R364): The ACT_MJOG command loads a MICROJOG. -/
  | actMjog (t : Nat) (ch : Fin 16)
  /-- ACT_OC_CLR (R364): The ACT_OC_CLR command writes ACT_CTRL.OC_CLR. -/
  | actOcClr (t : Nat) (ch : Fin 16)
  /-- ACT_PARAMS (R364): The ACT_PARAMS command sets the default PSET, park track and retract timing. -/
  | actParams (t : Nat) (ch : Fin 16)
  /-- LD_LEDGE (R76): The LD_LEDGE command loads ledge calibration records. -/
  | ldLedge (t : Nat) (ch : Fin 16)
  /-- LD_ZONE (R87): The LD_ZONE command checks and loads a zone table. -/
  | ldZone (t : Nat) (ch : Fin 16)
  /-- LD_CHCAL (R371): The LD_CHCAL command checks and loads a channel calibration table. -/
  | ldChcal (t : Nat) (ch : Fin 16)
  /-- LD_LOOP (R364): The LD_LOOP command loads a loop region table and banks. -/
  | ldLoop (t : Nat) (ch : Fin 16)
  /-- SET_PSET (R163): The SET_PSET command checks and writes a profile set. -/
  | setPset (t : Nat) (ch : Fin 16)
  /-- SET_BUDGET (R364): The SET_BUDGET command writes the current budget values. -/
  | setBudget (t : Nat) (ch : Fin 16)
  /-- LD_CPL (R364): The LD_CPL command stages and commits the coupling matrix. -/
  | ldCpl (t : Nat) (ch : Fin 16)
  /-- SET_PERIOD (R364): The SET_PERIOD command writes LE_PERIOD and resets every profile set to JMAX 0. -/
  | setPeriod (t : Nat) (ch : Fin 16)
  /-- SAVE_CAL (R446): The SAVE_CAL command writes the tables in force to a calibration slot. -/
  | saveCal (t : Nat) (ch : Fin 16) (ok : Bool)
  /-- GR_CHAL (R368): The GR_CHAL command issues a nonce for the channel. -/
  | grChal (t : Nat) (ch : Fin 16)
  /-- GR_TOKEN (R368): The GR_TOKEN command stages token bytes on the channel. -/
  | grToken (t : Nat) (ch : Fin 16)
  /-- GR_REQ (R368): The GR_REQ command grants an Expert unit, or refuses it. -/
  | grReq (t : Nat) (ch : Fin 16)
  /-- GR_REL (R369): The GR_REL command releases a grant, which then restores. -/
  | grRel (t : Nat) (ch : Fin 16)
  /-- GR_QUERY (R364): The GR_QUERY command returns a grant entry and its expiry. -/
  | grQuery (t : Nat) (ch : Fin 16)
  /-- XRW (R366): The XRW command reads or writes an RWG field under a grant held by Wounser. -/
  | xrw (t : Nat) (ch : Fin 16)
  /-- SAFE_ENTER (R399): The SAFE_ENTER command orders the safe state through Sump. -/
  | safeEnter (t : Nat) (ch : Fin 16)
  /-- SAFE_EXIT (R400): The SAFE_EXIT command ends the safe state when no cause stands. -/
  | safeExit (t : Nat) (ch : Fin 16)
  /-- FENCE (R403): The FENCE command fences a unit. -/
  | fence (t : Nat) (ch : Fin 16)
  /-- UNFENCE (R403): The UNFENCE command resets a fenced unit and returns it to service. -/
  | unfence (t : Nat) (ch : Fin 16)
  /-- LC_GET (R364): The LC_GET command returns the life-cycle state and refurbishments used. -/
  | lcGet (t : Nat) (ch : Fin 16)
  /-- LC_MOVE (R457): The LC_MOVE command checks a transition token and starts the transition. -/
  | lcMove (t : Nat) (ch : Fin 16)
  /-- LC_FUSE_PROGRAM (R457): Once grants end and sections park, LCS programs and verifies the transition fuse. -/
  | lcFuseProgram (t : Nat) (ok : Bool)
  /-- LC_RESET (R457): 1 ms after the transition response, Wounser orders a chip reset. -/
  | lcReset (t : Nat)
  /-- IMG_LOAD (R445): The IMG_LOAD command verifies and installs an image. -/
  | imgLoad (t : Nat) (ch : Fin 16) (ok : Bool)
  /-- OWN_GET (R364): The OWN_GET command returns the ownership mask. -/
  | ownGet (t : Nat) (ch : Fin 16)
  /-- OWN_TAKE (R479): The OWN_TAKE command takes units from the peer. -/
  | ownTake (t : Nat) (ch : Fin 16)
  /-- OWN_TAKE_TIMEOUT (R479): 25 ms pass, and OWN_TAKE completes with the units granted so far. -/
  | ownTakeTimeout (t : Nat) (ch : Fin 16)
  /-- OWN_GIVE (R479): The OWN_GIVE command hands units to the peer. -/
  | ownGive (t : Nat) (ch : Fin 16)
  /-- PL_REPORT (R483): The PL_REPORT command records the peer's park and dump report. -/
  | plReport (t : Nat) (ch : Fin 16)
  /-- GRANT_EXPIRY (R369): A grant's expiry passes on the GTC, and the unit restores. -/
  | grantExpiry (t : Nat) (g : Fin 31)
  /-- GRANT_EXPIRY_WARN (R370): 10 s before expiry, Wounser posts a GRANT_EXPIRY_WARN notice. -/
  | grantExpiryWarn (t : Nat) (g : Fin 31)
  /-- GRANT_RESTORE (R369): Wounser finishes restoring a unit's RWG fields and clears the entry. -/
  | grantRestore (t : Nat) (g : Fin 31)
  /-- CHALLENGE_LAPSE (R368): A challenge lapses 60 s after issue. -/
  | challengeLapse (t : Nat) (ch : Fin 16)
  /-- POSITIONING_LOAD (R372): Wounser loads the band values, HEAD_SW and SETPOINT for a positioning request. -/
  | positioningLoad (t : Nat) (n : Fin 4) (ang : Nat)
  /-- WOUNSER_RESTART (R360): After a CCORE reset, Wounser rebuilds the kept responses and restores RESTORING grants. -/
  | wounserRestart (t : Nat)
  /-- MCTP_PACKET (R377): A Chimney MCTP packet is received, reassembled or dropped. -/
  | mctpPacket (t : Nat) (pkt : MctpPacket)
  /-- SET_ENDPOINT_ID (R377): The MCTP Set Endpoint ID command sets the endpoint ID. -/
  | setEndpointId (t : Nat) (eid : BitVec 8)
  /-- GET_ENDPOINT_ID (R377): The MCTP Get Endpoint ID command returns the endpoint ID. -/
  | getEndpointId (t : Nat)
  /-- GET_ENDPOINT_UUID (R377): The MCTP Get Endpoint UUID command returns the UUID. -/
  | getEndpointUuid (t : Nat)
  /-- GET_MCTP_VERSION_SUPPORT (R377): The MCTP Get MCTP Version Support command returns the versions. -/
  | getMctpVersionSupport (t : Nat)
  /-- GET_MESSAGE_TYPE_SUPPORT (R377): The MCTP Get Message Type Support command returns the message types. -/
  | getMessageTypeSupport (t : Nat)
  /-- READ_NVME_MI_DATA_STRUCTURE (R378): The management core returns NVM subsystem or port information. -/
  | readNvmeMiDataStructure (t : Nat) (dtyp : BitVec 8)
  /-- NVM_SUBSYSTEM_HEALTH_STATUS_POLL (R379): The management core returns the health structure, stale or not. -/
  | nvmSubsystemHealthStatusPoll (t : Nat)
  /-- CONFIGURATION_GET (R378): NVMe-MI Configuration Get returns the bus frequency or transmission unit. -/
  | configurationGet (t : Nat) (id : BitVec 8)
  /-- CONFIGURATION_SET (R378): NVMe-MI Configuration Set changes the bus frequency or transmission unit. -/
  | configurationSet (t : Nat) (id : BitVec 8) (v : Nat)
  /-- VPD_READ (R378): NVMe-MI VPD Read returns bytes of the VPD area. -/
  | vpdRead (t : Nat) (ofs len : Nat)
  /-- VPD_WRITE (R378): NVMe-MI VPD Write writes the VPD area. -/
  | vpdWrite (t : Nat) (ofs : Nat) (bytes : List (BitVec 8))
  /-- NVME_MI_RESET (R378): NVMe-MI Reset of NVM subsystem type acts as NSSR, or is refused while QENG is off. -/
  | nvmeMiReset (t : Nat)
  /-- FORWARD_REQUEST (R380): A forwarded NVMe-MI request is placed in the buffer and REQ interrupts drive firmware. -/
  | forwardRequest (t : Nat) (bytes : List (BitVec 8))
  /-- FORWARD_RESPONSE (R380): A write of CHM_FWD_RLEN sends the response and clears REQ. -/
  | forwardResponse (t : Nat) (i : Initiator) (w : BitVec 32)
  /-- MORE_PROCESSING_REQUIRED (R380): No response arrives within 100 ms, and More Processing Required is sent once. -/
  | moreProcessingRequired (t : Nat)
  /-- FORWARD_TIMEOUT (R380): No response arrives within 5 s; Internal Error is sent and REQ clears. -/
  | forwardTimeout (t : Nat)
  /-- HEALTH_UPDATE (R379): A write of CHM_HLTH0 stamps the health values with the GTC. -/
  | healthUpdate (t : Nat) (i : Initiator) (w : BitVec 32)
  /-- HEALTH_STALE (R379): HTMO passes without a health write, and Drive Functional clears. -/
  | healthStale (t : Nat)
  /-- REG_READ (R381): A vendor message REG_READ reads Command Window registers. -/
  | regRead (t : Nat) (ofs len : Nat)
  /-- REG_WRITE (R381): A vendor message REG_WRITE writes Command Window registers. -/
  | regWrite (t : Nat) (ofs len : Nat) (words : List (BitVec 32))
  /-- DATA_READ (R381): A vendor message DATA_READ reads CW_DATA. -/
  | dataRead (t : Nat) (ofs len : Nat)
  /-- DATA_WRITE (R381): A vendor message DATA_WRITE writes CW_DATA. -/
  | dataWrite (t : Nat) (ofs len : Nat) (words : List (BitVec 32))
  /-- MBOX (R381): A vendor message MBOX writes and rings mailbox channel 14. -/
  | mbox (t : Nat) (words : List (BitVec 32))
  /-- MBOX_RESPONSE (R381): Channel 14 reaches DONE or TIMEOUT, and the vendor response carries its response words. -/
  | mboxResponse (t : Nat)
  /-- SMBUS_TIMEOUT (R522): CHM_SCL stays low 25–35 ms, and the device releases the bus and resets its interface. -/
  | smbusTimeout (t : Nat)
  /-- DYNAMIC_ADDRESS_ASSIGN (R376): ENTDAA or SETDASA assigns the I3C dynamic address. -/
  | dynamicAddressAssign (t : Nat) (a : BitVec 7)
  /-- CW_LOCK (R382): A write of CW_LOCK takes or releases the Command Window, or is discarded. -/
  | cwLock (t : Nat) (i : Initiator) (w : BitVec 32)
  /-- CW_LOCK_TIMEOUT (R382): 10 s pass with the window idle or done and no access by the holder, and the lock ends. -/
  | cwLockTimeout (t : Nat)
  /-- IDENTIFY (R385): The Command Window IDENTIFY returns the device identity in CW_DATA. -/
  | identify (t : Nat) (i : Initiator)
  /-- SS_READ (R385): The Command Window SS_READ reads a 4 KiB Safe Store unit. -/
  | ssRead (t : Nat) (i : Initiator)
  /-- SS_WRITE (R385): The Command Window SS_WRITE writes a 4 KiB Safe Store unit. -/
  | ssWrite (t : Nat) (i : Initiator)
  /-- SS_ERASE (R385): The Command Window SS_ERASE erases 64 KiB Safe Store blocks. -/
  | ssErase (t : Nat) (i : Initiator)
  /-- IMG_STAGE (R385): The Command Window IMG_STAGE places a 4 KiB image chunk in shared SRAM. -/
  | imgStage (t : Nat) (i : Initiator)
  /-- IMG_COMMIT (R385): The Command Window IMG_COMMIT verifies and installs the staged image. -/
  | imgCommit (t : Nat) (i : Initiator)
  /-- PHYS_READ (R385): The Command Window PHYS_READ reads a sector's stored data undecrypted. -/
  | physRead (t : Nat) (i : Initiator)
  /-- DRIVE_FIRMWARE_OPCODE (R386): A window opcode 0x80–0xFF in service 1 takes an RSV slot and is dispatched to drive firmware. -/
  | driveFirmwareOpcode (t : Nat) (i : Initiator) (op : BitVec 8)
  /-- CW_COMPLETE (R383): The server completes a window command, writing CW_ERROR, CW_RES and STATE. -/
  | cwComplete (t : Nat) (ok : Bool) (res : BitVec 32) (bytes : List (BitVec 8))
  /-- CW_TIMEOUT (R383): CW_CFG.TMO passes, and the device ends the command ERROR TIMEOUT. -/
  | cwTimeout (t : Nat)
  /-- CW_ABORT (R387): A write of CW_CTRL.ABORT notifies the server of the command in service. -/
  | cwAbort (t : Nat) (i : Initiator)
  /-- CW_SVC_ON (R385): A write of CW_SVC.ON sets SERVICE to 1. -/
  | cwSvcOn (t : Nat) (i : Initiator)
  /-- CW_SVC_OFF (R388): A write of CW_SVC.OFF clears SERVICE, aborting a BUSY drive-firmware command. -/
  | cwSvcOff (t : Nat) (i : Initiator)
  /-- CW_FW_DONE (R385): A write of CW_FW_DONE completes a service-1 command and releases its slot. -/
  | cwFwDone (t : Nat) (i : Initiator) (w : BitVec 32)
  /-- FAULT_ACCEPT (R391): Sump accepts a fault message, logs it, applies escalation and decides its reaction. -/
  | faultAccept (t : Nat)
  /-- SAFE_REQ_N (R399): SAFE_REQ_N held asserted for 100 ns makes MAON decide the safe state. -/
  | safeReqN (t : Nat)
  /-- SAFE_STATE_BRAKE (R399): Once every section is PARKED in the safe state, SPIN brakes or holds speed. -/
  | safeStateBrake (t : Nat)
  /-- CONFIG_CHECK (R406): Every 2 µs Sump compares its configuration copies and enters SAFE on a mismatch. -/
  | configCheck (t : Nat)
  /-- SUMP_MSG_HEAD_READ (R407): A read of SUMP_MSG_HEAD latches the log entry at the reader's cursor. -/
  | sumpMsgHeadRead (t : Nat) (i : Initiator)
  /-- SUMP_MSG_POP (R407): A write of SUMP_MSG_POP advances the writer's log cursor. -/
  | sumpMsgPop (t : Nat) (i : Initiator)
  /-- ERR_CLR (R408): SUMP_CTRL.ERR_CLR deasserts ERR_N when no safe state stands. -/
  | errClr (t : Nat) (i : Initiator)
  /-- FATAL_CLR (R402): SUMP_CTRL.FATAL_CLR clears SUMP_STATUS.FATAL. -/
  | fatalClr (t : Nat) (i : Initiator)
  /-- CFG_OK (R406): SUMP_CTRL.CFG_OK clears CFG_LOST. -/
  | cfgOk (t : Nat) (i : Initiator)
  /-- FIRST_CLR (R407): SUMP_CTRL.FIRST_CLR clears SUMP_FIRST. -/
  | firstClr (t : Nat) (i : Initiator)
  /-- INJ_GO (R409): SUMP_INJ GO presents an injected message at Sump's intake. -/
  | injGo (t : Nat) (i : Initiator) (w : BitVec 32)
  /-- PATH (R409): SUMP_INJ PATH asserts the die safe-request line directly. -/
  | injPath (t : Nat) (i : Initiator)
  /-- CFGFLIP (R409): SUMP_INJ CFGFLIP corrupts the second configuration copy of a kind. -/
  | cfgflip (t : Nat) (i : Initiator) (w : BitVec 32)
  /-- FLOW_SWTRIG (R411): A write of FLOW_SWTRIG fires a software trigger. -/
  | flowSwtrig (t : Nat) (i : Initiator) (w : BitVec 32)
  /-- FLOW_RECORD_START (R416): The recorder takes the next FIFO entry and starts a record, reclaiming old records. -/
  | flowRecordStart (t : Nat)
  /-- FLOW_RECORD_END (R416): The recorder finishes a record and advances FLOW_HEAD_SEQ. -/
  | flowRecordEnd (t : Nat)
  /-- FLOW_BACKGROUND_CHECK (R419): Every 100 ms the recorder checks its memories, correcting or sealing. -/
  | flowBackgroundCheck (t : Nat) (found : FlowCheck)
  /-- UNSEAL (R421): FLOW_CTRL.UNSEAL starts clearing the ring. -/
  | unseal (t : Nat) (i : Initiator)
  /-- UNSEAL_DONE (R421): The ring is rewritten and emptied, and SEALED clears. -/
  | unsealDone (t : Nat)
  /-- CLEAR (R427): FLOW_CTRL.CLEAR clears the ring, or is discarded while not IDLE. -/
  | flowClear (t : Nat) (i : Initiator)
  /-- LW_CLR (R420): FLOW_CTRL.LW_CLR clears the last-word block. -/
  | lwClr (t : Nat) (i : Initiator)
  /-- COUNTER_OVERFLOW (R424): A counter wraps; its OVF bit sets, and it may interrupt and fire triggers. -/
  | counterOverflow (t : Nat) (k : Fin 128)
  /-- PMU_MDIE_SUMS (R423): Every 1 µs the M-die event sums are added to the counters. -/
  | pmuMdieSums (t : Nat)
  /-- SNAP (R425): A write of PMU_SNAP copies all counters and the GTC into the snapshot bank. -/
  | snap (t : Nat) (i : Initiator)
  /-- MLOST_CLR (R430): A write of PMU_SNAP bit 1 clears MLOST. -/
  | mlostClr (t : Nat) (i : Initiator)
  /-- PMU_DUMP (R426): Every PERIOD ms the counters are copied and written as a dump record. -/
  | pmuDump (t : Nat)
  /-- PMU_CNT_READ (R424): A read of PMU_CNTn_LO latches the upper half, and for a chained pair the partner. -/
  | pmuCntRead (t : Nat) (i : Initiator) (k : Fin 128)
  /-- DOMAIN_ON (R436): A write of PWR_DOM_CTRLn sets the domain target to ON and starts power-up when allowed. -/
  | domainOn (t : Nat) (i : Initiator) (d : Fin 20) (ret : Bool)
  /-- DOMAIN_OFF (R431): A write of PWR_DOM_CTRLn sets the target to OFF when its condition holds, or is discarded. -/
  | domainOff (t : Nat) (i : Initiator) (d : Fin 20) (ret : Bool)
  /-- DOMAIN_SEQUENCE_END (R435): A domain's power-up or power-down sequence ends, and any opposite or waiting sequence starts. -/
  | domainSequenceEnd (t : Nat) (d : Fin 20)
  /-- POWER_ON_RESET (R439): POR_N assertion or a brown-out resets the whole device. -/
  | powerOnReset (t : Nat) (brownout : Bool)
  /-- POR_DEASSERT (R447): Power-on reset ends; the straps latch, and AON, MAON and CCORE start. -/
  | porDeassert (t : Nat) (hostMode i3c bootHold vdd33 : Bool)
  /-- GTC_START (R440): The AON PLL locks, and the GTC starts counting. -/
  | gtcStart (t : Nat)
  /-- BOOT_ROM_START (R448): The boot ROM starts on the Control Core and reads the directory and Wounser. -/
  | bootRomStart (t : Nat)
  /-- WOUNSER_START (R447): Wounser starts, powers the domains and loads calibration. -/
  | wounserStart (t : Nat)
  /-- APP_RELEASE (R447): Wounser verifies drive firmware and releases application core 0. -/
  | appRelease (t : Nat)
  /-- CHIP (R441): PWR_RST_CTRL.CHIP orders a chip reset. -/
  | chip (t : Nat) (i : Initiator)
  /-- CHIP_RESET (R401): After parking and BUF retention, every domain except AON and MAON is reset. -/
  | chipReset (t : Nat)
  /-- CCORE_RESET (R402): Domain CCORE alone is reset, and grants go to RESTORING. -/
  | ccoreReset (t : Nat)
  /-- APP_CORE_RESET (R441): PWR_RST_CTRL.APPc resets an application core and ends its grants. -/
  | appCoreReset (t : Nat) (i : Initiator) (c : Fin 4)
  /-- MGMT (R441): PWR_RST_CTRL.MGMT resets the management core. -/
  | mgmtReset (t : Nat) (i : Initiator)
  /-- WDOG_KICK (R442): A write of 0x4B43 to PWR_WDOG_KICK restarts the Control Core watchdog. -/
  | wdogKick (t : Nat) (i : Initiator) (w : BitVec 32)
  /-- WDOG_EXPIRY (R442): The Control Core watchdog expires: safe state, TIMEOUT and CCORE reset. -/
  | wdogExpiry (t : Nat)
  /-- MWDOG_KICK (R442): A write to PWR_MWDOG_KICK restarts the management core watchdog. -/
  | mwdogKick (t : Nat) (i : Initiator) (w : BitVec 32)
  /-- MWDOG_EXPIRY (R442): The management core watchdog expires and resets the management core. -/
  | mwdogExpiry (t : Nat)
  /-- SS_CMD_READ (R443): SS_CMD OP READ reads the Safe Store through a port. -/
  | ssCmdRead (t : Nat) (i : Initiator) (p : Fin 3)
  /-- PROGRAM (R443): SS_CMD OP PROGRAM programs the Safe Store through a port. -/
  | program (t : Nat) (i : Initiator) (p : Fin 3)
  /-- SS_CMD_ERASE (R443): SS_CMD OP ERASE erases Safe Store blocks through a port. -/
  | ssCmdErase (t : Nat) (i : Initiator) (p : Fin 3)
  /-- SS_COMMAND_DONE (R443): A Safe Store port command ends OK, RANGE, DEVERR or ABORTED. -/
  | ssCommandDone (t : Nat) (p : Fin 3) (devErr : Bool)
  /-- PROG_DEVID (R458): LCS_FUSE_CMD PROG_DEVID fuses the device ID. -/
  | progDevid (t : Nat) (i : Initiator)
  /-- PROG_OEMKEY (R458): LCS_FUSE_CMD PROG_OEMKEY fuses a staged OEM key. -/
  | progOemkey (t : Nat) (i : Initiator) (k : Bool)
  /-- REVOKE (R458): LCS_FUSE_CMD REVOKE revokes a signature key. -/
  | revoke (t : Nat) (i : Initiator) (k : BitVec 2)
  /-- ADV_SVN (R458): LCS_FUSE_CMD ADV_SVN raises an anti-rollback counter. -/
  | advSvn (t : Nat) (i : Initiator) (kind : BitVec 2) (v : BitVec 6)
  /-- FUSE_PROGRAM_DONE (R458): A fuse programming operation ends, and its result is reported. -/
  | fuseProgramDone (t : Nat) (ok : Bool)
  /-- RESEED (R466): CRYP_RNG_CTRL.RESEED reseeds the DRBG. -/
  | reseed (t : Nat) (i : Initiator)
  /-- CLR_FAIL (R466): CRYP_RNG_CTRL.CLR_FAIL starts the entropy start-up test. -/
  | clrFail (t : Nat) (i : Initiator)
  /-- RNG_STARTUP_TEST_DONE (R466): The start-up test ends, and FAIL clears if it passed. -/
  | rngStartupTestDone (t : Nat) (ok : Bool)
  /-- RNG_HEALTH_FAIL (R466): A continuous health test fails, and FAIL sets. -/
  | rngHealthFail (t : Nat)
  /-- RNG_READ (R466): A read of CRYP_RNG_DATA returns 32 fresh bits. -/
  | rngRead (t : Nat) (i : Initiator)
  /-- WK_LOAD (R468): CRYP_WK_CMD LOAD unwraps WK2 or WK3. -/
  | wkLoad (t : Nat) (i : Initiator) (w : BitVec 32)
  /-- WK_CLEAR (R468): CRYP_WK_CMD CLEAR clears WK2 or WK3. -/
  | wkClear (t : Nat) (i : Initiator) (w : BitVec 32)
  /-- WRAP (R468): CRYP_WK_CMD WRAP wraps a key pair into a 72-byte blob. -/
  | wrap (t : Nat) (i : Initiator) (w : BitVec 32)
  /-- JTAG_INSTRUCTION (R465): A JTAG instruction load is gated; EXTEST or CLAMP asserts the die safe-request line. -/
  | jtagInstruction (t : Nat) (j : JtagInstr)
  /-- OWN_REQ_WRITE (R470): A write of ROPE_OWN_REQ drives OWN_REQ. -/
  | ownReqWrite (t : Nat) (i : Initiator) (w : BitVec 32)
  /-- OWN_GNT_CHANGE (R474): OWN_GNT of a unit changes; a deassertion while requesting is a forced loss. -/
  | ownGntChange (t : Nat) (u : Fin 5) (level : Bool)
  /-- PEER_SAFE_N_CHANGE (R470): PEER_SAFE_N of a unit changes level. -/
  | peerSafeNChange (t : Nat) (u : Fin 5) (level : Bool)
  /-- ROPE_FLIT_RECEIVE (R475): A Rope receiver decodes a flit, corrects it or requests a replay. -/
  | ropeFlitReceive (t : Nat) (flit : BitVec 144)
  /-- ROPE_LINK_UP (R476): Rope retraining completes, and the ends exchange identity. -/
  | ropeLinkUp (t : Nat)
  /-- ROPE_RETRAIN (R484): ROPE_CMD.RETRAIN retrains the Rope link. -/
  | ropeRetrain (t : Nat) (i : Initiator)
  /-- PAIR (R476): The identity exchange completes, and PAIRED sets or Wounser clears EN. -/
  | pair (t : Nat) (peer : PeerId)
  /-- ROPE_HB_KICK (R477): A write of 0x4B43 to ROPE_HB_KICK keeps heartbeats going. -/
  | ropeHbKick (t : Nat) (i : Initiator) (w : BitVec 32)
  /-- HEARTBEAT_SEND (R477): Every 50 µs ROPE sends a heartbeat flit if kicked within 1 ms. -/
  | heartbeatSend (t : Nat)
  /-- HEARTBEAT_RECEIVE (R477): A heartbeat flit arrives, and SUSPECT clears. -/
  | heartbeatReceive (t : Nat)
  /-- HEARTBEAT_LOSS (R477): No heartbeat arrives for 150 µs; SUSPECT sets and HEARTBEAT_LOSS is sent. -/
  | heartbeatLoss (t : Nat)
  /-- PEER_SAFE_RECEIVE (R478): A peer-safe flit arrives; PEER_SAFE sets and Wounser may issue SAFE_ENTER. -/
  | peerSafeReceive (t : Nat)
  /-- COPY (R481): Mirror job COPY writes bytes to the peer's DRAM. -/
  | copy (t : Nat) (c : Fin 4)
  /-- COPY_MARK (R481): Mirror job COPY_MARK copies data and marks a peer dirty-table entry. -/
  | copyMark (t : Nat) (c : Fin 4)
  /-- MIRROR_CLEAN (R481): Mirror job CLEAN unmarks a peer dirty-table entry. -/
  | mirrorClean (t : Nat) (c : Fin 4)
  /-- MIRROR_COMPLETE (R481): A mirror job ends, and its completion is written. -/
  | mirrorComplete (t : Nat) (c : Fin 4) (status : BitVec 4) (res : BitVec 32)
  /-- ROPE_MESSAGE_SEND (R484): A write of ROPE_TXMSG3 sends a message, or discards it with OVERRUN. -/
  | ropeMessageSend (t : Nat) (i : Initiator) (w3 : BitVec 32)
  /-- ROPE_MESSAGE_RECEIVE (R484): A Rope message arrives and is held for reading. -/
  | ropeMessageReceive (t : Nat) (w0 w1 w2 w3 : BitVec 32)
  /-- ROPE_RXMSG_POP (R484): A write of ROPE_RXMSG_POP pops the oldest received message. -/
  | ropeRxmsgPop (t : Nat) (i : Initiator)
  /-- ROPE_LANE_LOCK_LOSS (R475): A Rope receive lane loses lock, and the Rope link goes down. -/
  | ropeLaneLockLoss (t : Nat) (lane : Fin 2)
  /-- PCIE_LINK_TRAINED (R447): A PCIe port finishes training once its domain is ON and PERST# is deasserted, and the host side comes up. -/
  | pcieLinkTrained (t : Nat) (p : Port)
  /-- OVERTEMP (R396): The hottest junction sensor crosses SUMP_TEMP.WARN or 125 °C, and an OVERTEMP message of instance 0 or 1 is raised. -/
  | overtemp (t : Nat) (halfDeg : Int)
  /-- LOCKSTEP (R402): The Control Core lockstep pair disagrees, and a LOCKSTEP fault message is raised. -/
  | lockstep (t : Nat)
  /-- PFLT_N_DEASSERT (R177): ACTn_PFLT_N deasserts, PRE_FAULT clears and the preamp fault input of R66 stops standing. -/
  | pfltNDeassert (t : Nat) (n : Fin 4)
  /-- SAFE_REQ_N_DEASSERT (R400): SAFE_REQ_N deasserts, which SAFE_EXIT requires before the safe state can end. -/
  | safeReqNDeassert (t : Nat)
  /-- TONE_PHASE_LOSS (R49): At a ledge tone cycle the fourth consecutive phase error beyond 2 × LOCK_TOL decides ledge loss. -/
  | tonePhaseLoss (t : Nat) (n : Fin 4)
  /-- KS_DONE (R343): A key-slot command finishes after sectors started under the old key are written, its RESULT appears and KS_DONE sets. -/
  | ksDone (t : Nat)
  /-- POCKET_DISABLE_DONE (R298): The Pocket write-backs of a POCKET_EN 1→0 write finish, the change takes effect and DISABLE_BUSY clears. -/
  | pocketDisableDone (t : Nat)
  /-- AES_COMPLETION_RECORD (R341): A delayed AES completion record is written when the completion ring has room, freeing its engine. -/
  | aesCompletionRecord (t : Nat) (e : Fin 2)
  /-- METER_LOG_WRITTEN (R348): The closed meter bank's record is fully written within 10 ms, MTR_LOG_SEQ advances and the bank clears. -/
  | meterLogWritten (t : Nat)
deriving DecidableEq, Repr

end Sys2Proof
end

