-- ==== Sys2Proof/Decode.lean ====
section
/-! DEFINITION. The command that a word spells by the opcode table's bits. -/

namespace Sys2Proof

/-- The command a table word spells. No row of spec/opcode_table.json gives its command any bits: the part's commands are register
accesses, link events, engine events and mailbox requests, whose operands `Instr` carries. So no word spells one (log 48). -/
def decodeTableWord (_nbits _w : Nat) : Option Instr := none

end Sys2Proof
end

