-- ==== Sys2Proof/Config.lean ====
section
/-! DEFINITION. What the spec leaves open: free values (constants with no body, so that nothing can be proved of their
values) and primitives that external standards define. Each has its row in the assumption log. -/

namespace Sys2Proof.Config

/-- Skew in ns of the M-die's copy of the GTC against the GTC at a GTC value (R35; log 4). -/
opaque gtcSkew : Nat → Int

/-- The `k`-th free word (log 12). -/
opaque freeWord : Nat → BitVec 32

/-- The token that a compress context proposes at a position: length, distance, and whether as a repeat match, as a function of
the input, the descriptor and SQZ_CTXc_TUNE (R319; log 14). A proposal that is no valid match stands for a residue. -/
opaque sqzToken : List Byte → List Nat → Nat → Nat → Nat × Nat × Bool

/-- Malfosar's public keys of KEYIDX 0 and 1 in the boot ROM, 96 bytes (R461; log 13). -/
opaque makerKey : Nat → List Byte

/-- Heads present, bit = device head (R364; log 60). -/
opaque headsPresent : BitVec 32

/-- The memory configuration of the board that Wounser writes to BUF_DRAM_CFG (R265, R447; log 64). -/
opaque dramCfg : BitVec 32

/-- The device's MCTP endpoint UUID, its MCTP versions, and its fixed NVMe-MI data structures by type (R377, R378; log 65). -/
opaque chmUuid : BitVec 128
opaque mctpVersions : List (BitVec 32)
opaque miData : Nat → List (BitVec 8)

/-- The contents of the boot ROM by offset (R528; log 12). -/
opaque bootRomByte : Nat → BitVec 8

end Sys2Proof.Config
end

