-- ==== Sys2Proof/Machine/Registers.lean ====
section
/-! DEFINITION. The register map: every register the spec names, under its internal address (R10 to R17, R528 to R534),
with its access codes (R12), its accepted values (R16, R17), who may write it, and its reset value (R14). -/

namespace Sys2Proof.Machine

/-- The access codes of R12. -/
inductive Acc where
  | rw | ro | wo | w1c | w1s | rc | rwg | rwl
deriving DecidableEq, Repr

/-- Which values a field accepts (R16, R17); every other value is a reserved encoding. -/
inductive Chk where
  | any
  | range (lo hi : Nat)
  | pow2 (lo hi : Nat)
  | step (lo hi k : Nat)
  | oneOf (vs : List Nat)
deriving DecidableEq, Repr

/-- Whose writes reach a register that is not read only. -/
inductive Who where
  /-- the Control Core and the application cores -/
  | core
  /-- the Control Core alone; read only from the application cores (R26) -/
  | cc
  /-- the application cores alone -/
  | app
  /-- the management core alone -/
  | mgmt
  /-- the paths of the Command Window (R382) -/
  | path
  /-- the owner of the mailbox channel (R357) -/
  | mbox
  /-- the requester class of the Safe Store port (R453) -/
  | ssPort
deriving DecidableEq, Repr

/-- One field of a register. -/
structure Fld where
  hi : Nat
  lo : Nat
  acc : Acc
  chk : Chk
deriving DecidableEq, Repr

/-- One row of a register table: `count` registers at `off`, `off + stride`, ... -/
structure RegRow where
  off : Nat
  count : Nat
  stride : Nat
  reset : Nat
  who : Who
  fields : List Fld
deriving DecidableEq, Repr

/-- A value a field accepts. -/
def Chk.ok (c : Chk) (v : Nat) : Bool :=
  match c with
  | .any => true
  | .range lo hi => lo ≤ v && v ≤ hi
  | .pow2 lo hi => lo ≤ v && v ≤ hi && (List.range 32).any (fun k => 2 ^ k == v)
  | .step lo hi k => lo ≤ v && v ≤ hi && v % k == 0
  | .oneOf vs => vs.contains v

/-- The encoder line counts R50 accepts: 2^k or 3 × 2^k within 64 to 4,096. -/
def linesValues : List Nat := [64, 96, 128, 192, 256, 384, 512, 768, 1024, 1536, 2048, 3072, 4096]

/-- The register blocks (R528, R530, R531, R533, R534). -/
inductive Blk where
  | passh
  | passm
  | sump
  | pwr
  | atb
  | chan
  | loop
  | le
  | act
  | spin
  | qeng
  | msch
  | xfer
  | buf
  | mapc
  | sqz
  | cryp
  | mbox
  | mboxg
  | mgmt
  | flow
  | pmu
  | mtr
  | bv
  | lcs
  | rope
  | ropem
deriving DecidableEq, Repr

/-- Base address of PASSH (R528, R530, R531). -/
def basePassh : Nat := 0x0100D00000

/-- Base address of PASSM (R528, R530, R531). -/
def basePassm : Nat := 0x0101700000

/-- Base address of SUMP (R528, R530, R531). -/
def baseSump : Nat := 0x0100600000

/-- Base address of PWR (R528, R530, R531). -/
def basePwr : Nat := 0x0100900000

/-- Base address of ATB n (R528, R530, R531). -/
def baseAtb (n : Nat) : Nat := 0x0101240000 + 0x100000 * n

/-- Base address of CHAN n (R528, R530, R531). -/
def baseChan (n : Nat) : Nat := 0x0101200000 + 0x100000 * n

/-- Base address of LOOP n (R528, R530, R531). -/
def baseLoop (n : Nat) : Nat := 0x0101280000 + 0x100000 * n

/-- Base address of LE (R528, R530, R531). -/
def baseLe : Nat := 0x0101600000

/-- Base address of ACT n (R528, R530, R531). -/
def baseAct (n : Nat) : Nat := 0x01012C0000 + 0x100000 * n

/-- Base address of SPIN (R528, R530, R531). -/
def baseSpin : Nat := 0x0101100000

/-- Base address of QENG (R528, R530, R531). -/
def baseQeng : Nat := 0x0100000000

/-- Base address of MSCH n (R528, R530, R531). -/
def baseMsch (n : Nat) : Nat := 0x0100180000 + 0x1000 * n

/-- Base address of XFER n (R528, R530, R531). -/
def baseXfer (n : Nat) : Nat := 0x0100184000 + 0x40 * n

/-- Base address of BUF (R528, R530, R531). -/
def baseBuf : Nat := 0x0100100000

/-- Base address of MAPC (R528, R530, R531). -/
def baseMapc : Nat := 0x0100200000

/-- Base address of SQZ (R528, R530, R531). -/
def baseSqz : Nat := 0x0100300000

/-- Base address of CRYP (R528, R530, R531). -/
def baseCryp : Nat := 0x0100400000

/-- Base address of MBOX n (R528, R530, R531). -/
def baseMbox (n : Nat) : Nat := 0x0100500000 + 0x100 * n

/-- Base address of MBOXG (R528, R530, R531). -/
def baseMboxg : Nat := 0x0100501000

/-- Base address of MGMT (R528, R530, R531). -/
def baseMgmt : Nat := 0x0100B00000

/-- Base address of FLOW (R528, R530, R531). -/
def baseFlow : Nat := 0x0100700000

/-- Base address of PMU (R528, R530, R531). -/
def basePmu : Nat := 0x0100800000

/-- Base address of MTR (R528, R530, R531). -/
def baseMtr : Nat := 0x0100880000

/-- Base address of BV n (R528, R530, R531). -/
def baseBv (n : Nat) : Nat := 0x0100890000 + 0x100 * n

/-- Base address of LCS (R528, R530, R531). -/
def baseLcs : Nat := 0x0100A00000

/-- Base address of ROPE (R528, R530, R531). -/
def baseRope : Nat := 0x0100C00000

/-- Base address of ROPEM n (R528, R530, R531). -/
def baseRopem (n : Nat) : Nat := 0x0100C00100 + 0x40 * n

namespace R

def PASSH_STATUS : Nat := basePassh + 0x0
def PASSH_CTRL : Nat := basePassh + 0x4
def PASSH_CE_CNT : Nat := basePassh + 0x8
def PASSH_REPLAY_CNT : Nat := basePassh + 0xC
def PASSH_DOWN_CNT : Nat := basePassh + 0x10
def PASSM_STATUS : Nat := basePassm + 0x0
def PASSM_CTRL : Nat := basePassm + 0x4
def PASSM_CE_CNT : Nat := basePassm + 0x8
def PASSM_REPLAY_CNT : Nat := basePassm + 0xC
def PASSM_DOWN_CNT : Nat := basePassm + 0x10
def SUMP_MSG_HEAD : Nat := baseSump + 0x0
def SUMP_MSG_HEAD_HI : Nat := baseSump + 0x4
def SUMP_MSG_GTC_LO : Nat := baseSump + 0x8
def SUMP_MSG_GTC_HI : Nat := baseSump + 0xC
def SUMP_MSG_INFO : Nat := baseSump + 0x10
def SUMP_MSG_POP : Nat := baseSump + 0x14
def SUMP_MSG_CNT : Nat := baseSump + 0x18
def SUMP_CNT_OVF : Nat := baseSump + 0x1C
def SUMP_STATUS : Nat := baseSump + 0x20
def SUMP_CTRL : Nat := baseSump + 0x24
def SUMP_CFG : Nat := baseSump + 0x28
def SUMP_TEMP : Nat := baseSump + 0x2C
def SUMP_FIRST_LO : Nat := baseSump + 0x30
def SUMP_FIRST_HI : Nat := baseSump + 0x34
def SUMP_FENCED : Nat := baseSump + 0x38
def SUMP_KIND_CFG (i : Nat) : Nat := baseSump + 0x100 + 4 * i
def SUMP_OVR_MATCH (i : Nat) : Nat := baseSump + 0x200 + 8 * i
def SUMP_OVR_ACT (i : Nat) : Nat := baseSump + 0x204 + 8 * i
def SUMP_INJ : Nat := baseSump + 0x300
def SUMP_INJ_ADDR_LO : Nat := baseSump + 0x304
def SUMP_INJ_ADDR_HI : Nat := baseSump + 0x308
def PWR_GTC_LO : Nat := basePwr + 0x0
def PWR_GTC_HI : Nat := basePwr + 0x4
def PWR_RST_CAUSE : Nat := basePwr + 0x10
def PWR_RST_CTRL : Nat := basePwr + 0x14
def PWR_WDOG_CFG : Nat := basePwr + 0x18
def PWR_WDOG_KICK : Nat := basePwr + 0x1C
def PWR_MWDOG_CFG : Nat := basePwr + 0x20
def PWR_MWDOG_KICK : Nat := basePwr + 0x24
def PWR_STRAP : Nat := basePwr + 0x30
def PWR_CLK_STATUS : Nat := basePwr + 0x34
def PWR_BOOT_STATUS : Nat := basePwr + 0x38
def PWR_INT_STATUS : Nat := basePwr + 0x40
def PWR_INT_EN : Nat := basePwr + 0x44
def PWR_DOM_CTRL (i : Nat) : Nat := basePwr + 0x100 + 4 * i
def SS_CFG : Nat := basePwr + 0x800
def SS_WIN1_BASE : Nat := basePwr + 0x808
def SS_WIN1_LIM : Nat := basePwr + 0x80C
def SS_WIN2_BASE : Nat := basePwr + 0x810
def SS_WIN2_LIM : Nat := basePwr + 0x814
def SS_ADDR_LO (i : Nat) : Nat := basePwr + 0x840 + 32 * i
def SS_ADDR_HI (i : Nat) : Nat := basePwr + 0x844 + 32 * i
def SS_MEM_LO (i : Nat) : Nat := basePwr + 0x848 + 32 * i
def SS_MEM_HI (i : Nat) : Nat := basePwr + 0x84C + 32 * i
def SS_LEN (i : Nat) : Nat := basePwr + 0x850 + 32 * i
def SS_CMD (i : Nat) : Nat := basePwr + 0x854 + 32 * i
def SS_STATUS (i : Nat) : Nat := basePwr + 0x858 + 32 * i
def ATB_STATUS (n : Nat) : Nat := baseAtb n + 0x0
def ATB_ANGLE (n : Nat) : Nat := baseAtb n + 0x4
def ATB_REV (n : Nat) : Nat := baseAtb n + 0x8
def ATB_NS_PER_REV (n : Nat) : Nat := baseAtb n + 0xC
def ATB_LEAD_CNT (n : Nat) : Nat := baseAtb n + 0x10
def ATB_EVT_W (n i : Nat) : Nat := baseAtb n + 0x20 + 4 * i
def ATB_LIST_FREE (n : Nat) : Nat := baseAtb n + 0x30
def ATB_CANCEL (n : Nat) : Nat := baseAtb n + 0x34
def ATB_CPLD_BASE_LO (n : Nat) : Nat := baseAtb n + 0x40
def ATB_CPLD_BASE_HI (n : Nat) : Nat := baseAtb n + 0x44
def ATB_CPLD_SIZE (n : Nat) : Nat := baseAtb n + 0x48
def ATB_CPLD_PROD (n : Nat) : Nat := baseAtb n + 0x4C
def ATB_CPLD_CONS (n : Nat) : Nat := baseAtb n + 0x50
def ATB_CPLM_BASE_LO (n : Nat) : Nat := baseAtb n + 0x60
def ATB_CPLM_BASE_HI (n : Nat) : Nat := baseAtb n + 0x64
def ATB_CPLM_SIZE (n : Nat) : Nat := baseAtb n + 0x68
def ATB_CPLM_PROD (n : Nat) : Nat := baseAtb n + 0x6C
def ATB_CPLM_CONS (n : Nat) : Nat := baseAtb n + 0x70
def ATB_RPT_ADDR_LO (n : Nat) : Nat := baseAtb n + 0x78
def ATB_RPT_ADDR_HI (n : Nat) : Nat := baseAtb n + 0x7C
def ATB_CNT_LATE (n : Nat) : Nat := baseAtb n + 0x90
def ATB_CNT_PASSED (n : Nat) : Nat := baseAtb n + 0x94
def ATB_CNT_LEDGE_LOSS (n : Nat) : Nat := baseAtb n + 0x98
def ATB_CNT_LOST (n : Nat) : Nat := baseAtb n + 0x9C
def ATB_HEAD_OFS (n i : Nat) : Nat := baseAtb n + 0xA0 + 4 * i
def ATB_CFG (n : Nat) : Nat := baseAtb n + 0xC0
def CH_STATUS (n : Nat) : Nat := baseChan n + 0x0
def CH_ITER (n : Nat) : Nat := baseChan n + 0x4
def CH_SYNC (n : Nat) : Nat := baseChan n + 0x8
def CH_REC_CFG (n : Nat) : Nat := baseChan n + 0xC
def CH_REC_CMD (n : Nat) : Nat := baseChan n + 0x10
def CH_REC_STATUS (n : Nat) : Nat := baseChan n + 0x14
def CH_SBUF_REL (n : Nat) : Nat := baseChan n + 0x18
def CH_LAST_RES (n : Nat) : Nat := baseChan n + 0x1C
def CH_CNT_SECT (n : Nat) : Nat := baseChan n + 0x20
def CH_CNT_UNCONV (n : Nat) : Nat := baseChan n + 0x24
def CH_CNT_MARKMISS (n : Nat) : Nat := baseChan n + 0x28
def CH_CNT_NOSLOT (n : Nat) : Nat := baseChan n + 0x2C
def CH_CNT_RECOV (n : Nat) : Nat := baseChan n + 0x30
def CH_CNT_UNREC (n : Nat) : Nat := baseChan n + 0x34
def CH_CNT_UNDERRUN (n : Nat) : Nat := baseChan n + 0x38
def CH_CNT_ITER (n : Nat) : Nat := baseChan n + 0x3C
def CH_AFE (n : Nat) : Nat := baseChan n + 0x80
def CH_AGC (n : Nat) : Nat := baseChan n + 0x84
def CH_WPC0 (n : Nat) : Nat := baseChan n + 0x88
def CH_WPC1 (n : Nat) : Nat := baseChan n + 0x8C
def CH_SBUF_ADDR (n : Nat) : Nat := baseChan n + 0xC0
def CH_SBUF_DATA (n : Nat) : Nat := baseChan n + 0xC4
def CH_EQ (n i : Nat) : Nat := baseChan n + 0x1000 + 4 * i
def LOOP_STATUS (n : Nat) : Nat := baseLoop n + 0x0
def LOOP_WINH (n : Nat) : Nat := baseLoop n + 0x4
def LOOP_IFS (n : Nat) : Nat := baseLoop n + 0x8
def LOOP_OUT (n : Nat) : Nat := baseLoop n + 0xC
def LOOP_ERR (n : Nat) : Nat := baseLoop n + 0x10
def LOOP_Z (n : Nat) : Nat := baseLoop n + 0x14
def LOOP_GRANT (n : Nat) : Nat := baseLoop n + 0x18
def LOOP_TRK (n : Nat) : Nat := baseLoop n + 0x1C
def LOOP_CNT_MISS (n : Nat) : Nat := baseLoop n + 0x20
def LOOP_CNT_SAT (n : Nat) : Nat := baseLoop n + 0x24
def LOOP_CNT_OFFTRACK (n : Nat) : Nat := baseLoop n + 0x28
def LOOP_CNT_BUDGET (n : Nat) : Nat := baseLoop n + 0x2C
def LOOP_REGION (n i : Nat) : Nat := baseLoop n + 0x100 + 4 * i
def LOOP_BANK (n i : Nat) : Nat := baseLoop n + 0x1000 + 4 * i
def LE_STATUS : Nat := baseLe + 0x0
def LE_PERIOD : Nat := baseLe + 0x4
def LE_ISUP : Nat := baseLe + 0x8
def LE_ISPIN_RES : Nat := baseLe + 0xC
def LE_FOLLOW_CAP : Nat := baseLe + 0x10
def LE_ISPIN_MEAS : Nat := baseLe + 0x14
def LE_CTRL : Nat := baseLe + 0x18
def LE_CNT_MISS : Nat := baseLe + 0x1C
def LE_CPL (i : Nat) : Nat := baseLe + 0x100 + 4 * i
def LE_CPL_SH : Nat := baseLe + 0x140
def ACT_STATUS (n : Nat) : Nat := baseAct n + 0x0
def ACT_CTRL (n : Nat) : Nat := baseAct n + 0x4
def PG_TGT_LO (n : Nat) : Nat := baseAct n + 0x10
def PG_TGT_HI (n : Nat) : Nat := baseAct n + 0x14
def PG_POS_LO (n : Nat) : Nat := baseAct n + 0x18
def PG_POS_HI (n : Nat) : Nat := baseAct n + 0x1C
def PG_VEL (n : Nat) : Nat := baseAct n + 0x20
def PG_ACC (n : Nat) : Nat := baseAct n + 0x24
def PG_SNAP (n : Nat) : Nat := baseAct n + 0x28
def PG_KFF (n : Nat) : Nat := baseAct n + 0x2C
def PG_KACC (n : Nat) : Nat := baseAct n + 0x30
def SL_STEP (n : Nat) : Nat := baseAct n + 0x34
def MJ_CFG (n : Nat) : Nat := baseAct n + 0x38
def MJ_APPLIED (n : Nat) : Nat := baseAct n + 0x3C
def PG_SET (n i : Nat) : Nat := baseAct n + 0x40 + 4 * i
def VD_CFG (n : Nat) : Nat := baseAct n + 0x80
def VD_PI (n : Nat) : Nat := baseAct n + 0x84
def VD_RCOIL (n : Nat) : Nat := baseAct n + 0x88
def VD_ILIM (n : Nat) : Nat := baseAct n + 0x8C
def VD_VMODE (n : Nat) : Nat := baseAct n + 0x90
def VD_VGAIN (n : Nat) : Nat := baseAct n + 0x94
def VD_MEAS (n : Nat) : Nat := baseAct n + 0x98
def RT_CFG (n : Nat) : Nat := baseAct n + 0x9C
def RT_TIME (n : Nat) : Nat := baseAct n + 0xA0
def MA_CFG (n : Nat) : Nat := baseAct n + 0xA4
def SHK_CFG (n : Nat) : Nat := baseAct n + 0xA8
def PRE_CFG (n : Nat) : Nat := baseAct n + 0xAC
def PRE_CMD (n : Nat) : Nat := baseAct n + 0xB0
def PRE_RESP (n : Nat) : Nat := baseAct n + 0xB4
def ACT_CNT_SLEW (n : Nat) : Nat := baseAct n + 0xC0
def ACT_CNT_SHOCK (n : Nat) : Nat := baseAct n + 0xC4
def ACT_CNT_OC (n : Nat) : Nat := baseAct n + 0xC8
def ACT_CNT_OFFWR (n : Nat) : Nat := baseAct n + 0xCC
def ACT_CNT_RETRACT (n : Nat) : Nat := baseAct n + 0xD0
def SP_STATUS : Nat := baseSpin + 0x0
def SP_CMD : Nat := baseSpin + 0x4
def SP_CTRL : Nat := baseSpin + 0x8
def SP_TGT : Nat := baseSpin + 0xC
def SP_SPEED : Nat := baseSpin + 0x10
def SP_MANGLE : Nat := baseSpin + 0x14
def SP_VBUS : Nat := baseSpin + 0x18
def SP_IDQ : Nat := baseSpin + 0x1C
def SP_ENC : Nat := baseSpin + 0x20
def SP_IDX_OFS : Nat := baseSpin + 0x24
def SP_MOTOR : Nat := baseSpin + 0x28
def SP_PWM : Nat := baseSpin + 0x2C
def SP_SHUNT : Nat := baseSpin + 0x30
def SP_IPI : Nat := baseSpin + 0x34
def SP_WPI : Nat := baseSpin + 0x38
def SP_ILIM : Nat := baseSpin + 0x3C
def SP_ZV : Nat := baseSpin + 0x40
def SP_ALIGN : Nat := baseSpin + 0x44
def SP_LOCK : Nat := baseSpin + 0x48
def SP_VBUS_TH0 : Nat := baseSpin + 0x4C
def SP_VBUS_TH1 : Nat := baseSpin + 0x50
def SP_PL_CFG : Nat := baseSpin + 0x54
def SP_CHOP_CFG : Nat := baseSpin + 0x58
def SP_OC : Nat := baseSpin + 0x5C
def SP_CNT_RECON : Nat := baseSpin + 0x60
def SP_CNT_SHIFT : Nat := baseSpin + 0x64
def SP_CNT_VLIM : Nat := baseSpin + 0x68
def SP_CNT_ZVSKIP : Nat := baseSpin + 0x6C
def SP_CNT_ENC : Nat := baseSpin + 0x70
def SP_CNT_ISUM : Nat := baseSpin + 0x74
def SP_CNT_OC : Nat := baseSpin + 0x78
def QENG_STATUS : Nat := baseQeng + 0x0
def QENG_CTRL : Nat := baseQeng + 0x4
def QENG_PORTCFG : Nat := baseQeng + 0x8
def QENG_SLOT_CFG : Nat := baseQeng + 0xC
def QENG_SLOT_FREE : Nat := baseQeng + 0x10
def QENG_FSEQ (i : Nat) : Nat := baseQeng + 0x14 + 4 * i
def QENG_INT_STATUS : Nat := baseQeng + 0x20
def QENG_INT_EN : Nat := baseQeng + 0x24
def QENG_ARB (i : Nat) : Nat := baseQeng + 0x30 + 4 * i
def QENG_QSEL : Nat := baseQeng + 0x40
def QENG_QCMD : Nat := baseQeng + 0x44
def QENG_QSTAT : Nat := baseQeng + 0x48
def QENG_QCTX (i : Nat) : Nat := baseQeng + 0x50 + 4 * i
def QENG_GRP_SEL : Nat := baseQeng + 0x60
def QENG_GRP_CFG : Nat := baseQeng + 0x64
def QENG_NS_SEL : Nat := baseQeng + 0x68
def QENG_NS_CFG : Nat := baseQeng + 0x6C
def QENG_IC_SEL : Nat := baseQeng + 0x70
def QENG_IC_CFG : Nat := baseQeng + 0x74
def QENG_CPL_W (i : Nat) : Nat := baseQeng + 0x80 + 4 * i
def QENG_ABORT0 : Nat := baseQeng + 0x90
def QENG_ABORT1 : Nat := baseQeng + 0x94
def QENG_ABORT_RES : Nat := baseQeng + 0x98
def QENG_SLOT_REL : Nat := baseQeng + 0x9C
def QENG_PS_CTRL : Nat := baseQeng + 0xA0
def QENG_DBERR : Nat := baseQeng + 0xA4
def QENG_DBERR_OVF : Nat := baseQeng + 0xA8
def QENG_FERR : Nat := baseQeng + 0xAC
def QENG_DISP_BASE_LO (i : Nat) : Nat := baseQeng + 0x100 + 32 * i
def QENG_DISP_BASE_HI (i : Nat) : Nat := baseQeng + 0x104 + 32 * i
def QENG_DISP_SIZE (i : Nat) : Nat := baseQeng + 0x108 + 32 * i
def QENG_DISP_PROD (i : Nat) : Nat := baseQeng + 0x10C + 32 * i
def QENG_DISP_CONS (i : Nat) : Nat := baseQeng + 0x110 + 32 * i
def QENG_CNT_FETCH (i : Nat) : Nat := baseQeng + 0x200 + 4 * i
def QENG_CNT_CPL (i : Nat) : Nat := baseQeng + 0x208 + 4 * i
def QENG_CNT_NOSLOT : Nat := baseQeng + 0x210
def QENG_CNT_CQFULL : Nat := baseQeng + 0x214
def QENG_CNT_STALE : Nat := baseQeng + 0x218
def QENG_CNT_ABORT : Nat := baseQeng + 0x21C
def QENG_SQE (i : Nat) : Nat := baseQeng + 0x80000 + 4 * i
def MSCH_STATUS (n : Nat) : Nat := baseMsch n + 0x0
def MSCH_CTRL (n : Nat) : Nat := baseMsch n + 0x4
def MSCH_CFG (n : Nat) : Nat := baseMsch n + 0x8
def MSCH_TIME (n : Nat) : Nat := baseMsch n + 0xC
def MSCH_SQ_BASE_LO (n : Nat) : Nat := baseMsch n + 0x10
def MSCH_SQ_BASE_HI (n : Nat) : Nat := baseMsch n + 0x14
def MSCH_SQ_SIZE (n : Nat) : Nat := baseMsch n + 0x18
def MSCH_SQ_PROD (n : Nat) : Nat := baseMsch n + 0x1C
def MSCH_SQ_CONS (n : Nat) : Nat := baseMsch n + 0x20
def MSCH_CQ_BASE_LO (n : Nat) : Nat := baseMsch n + 0x30
def MSCH_CQ_BASE_HI (n : Nat) : Nat := baseMsch n + 0x34
def MSCH_CQ_SIZE (n : Nat) : Nat := baseMsch n + 0x38
def MSCH_CQ_PROD (n : Nat) : Nat := baseMsch n + 0x3C
def MSCH_CQ_CONS (n : Nat) : Nat := baseMsch n + 0x40
def MSCH_INT (n : Nat) : Nat := baseMsch n + 0x44
def MSCH_ZT_BASE_LO (n : Nat) : Nat := baseMsch n + 0x50
def MSCH_ZT_BASE_HI (n : Nat) : Nat := baseMsch n + 0x54
def MSCH_ASSIST (n i : Nat) : Nat := baseMsch n + 0x58 + 4 * i
def MSCH_CANCEL (n : Nat) : Nat := baseMsch n + 0x60
def MSCH_SEEK (n i : Nat) : Nat := baseMsch n + 0x80 + 4 * i
def MSCH_CNT_OPS (n : Nat) : Nat := baseMsch n + 0x100
def MSCH_CNT_RD (n : Nat) : Nat := baseMsch n + 0x104
def MSCH_CNT_WR (n : Nat) : Nat := baseMsch n + 0x108
def MSCH_CNT_RTRY_RD (n : Nat) : Nat := baseMsch n + 0x10C
def MSCH_CNT_RTRY_WR (n : Nat) : Nat := baseMsch n + 0x110
def MSCH_CNT_POSFAIL (n : Nat) : Nat := baseMsch n + 0x114
def MSCH_XQ_BASE_LO (n : Nat) : Nat := baseXfer n + 0x0
def MSCH_XQ_BASE_HI (n : Nat) : Nat := baseXfer n + 0x4
def MSCH_XQ_SIZE (n : Nat) : Nat := baseXfer n + 0x8
def MSCH_XQ_PROD (n : Nat) : Nat := baseXfer n + 0xC
def MSCH_XQ_CONS (n : Nat) : Nat := baseXfer n + 0x10
def MSCH_XC_BASE_LO (n : Nat) : Nat := baseXfer n + 0x14
def MSCH_XC_BASE_HI (n : Nat) : Nat := baseXfer n + 0x18
def MSCH_XC_SIZE (n : Nat) : Nat := baseXfer n + 0x1C
def MSCH_XC_PROD (n : Nat) : Nat := baseXfer n + 0x20
def MSCH_XC_CONS (n : Nat) : Nat := baseXfer n + 0x24
def BUF_STATUS : Nat := baseBuf + 0x0
def BUF_DRAM_CFG : Nat := baseBuf + 0x4
def BUF_ECC_CFG : Nat := baseBuf + 0x8
def BUF_INT_STATUS : Nat := baseBuf + 0x10
def BUF_INT_EN : Nat := baseBuf + 0x14
def BUF_CNT_CE : Nat := baseBuf + 0x20
def BUF_CNT_UE : Nat := baseBuf + 0x24
def BUF_CNT_POISON : Nat := baseBuf + 0x28
def BUF_CNT_UNINIT : Nat := baseBuf + 0x2C
def BUF_ERR_ADDR_LO : Nat := baseBuf + 0x40
def BUF_ERR_ADDR_HI : Nat := baseBuf + 0x44
def BUF_ERR_INFO : Nat := baseBuf + 0x48
def BUF_FILL_START_LO : Nat := baseBuf + 0x80
def BUF_FILL_START_HI : Nat := baseBuf + 0x84
def BUF_FILL_LEN_LO : Nat := baseBuf + 0x88
def BUF_FILL_LEN_HI : Nat := baseBuf + 0x8C
def BUF_FILL_PAT (i : Nat) : Nat := baseBuf + 0x90 + 4 * i
def BUF_FILL_CTRL : Nat := baseBuf + 0xA0
def BUF_SCRUB_CFG : Nat := baseBuf + 0xC0
def BUF_SCRUB_POS : Nat := baseBuf + 0xC4
def BUF_CHK_CTRL : Nat := baseBuf + 0x100
def BUF_CHK_BITS : Nat := baseBuf + 0x104
def BUF_CHK_RGN : Nat := baseBuf + 0x108
def BUF_CHK_SYND : Nat := baseBuf + 0x10C
def BUF_DIRTY : Nat := baseBuf + 0x200
def BUF_DIRTY_LIMIT : Nat := baseBuf + 0x204
def BUF_DT_BASE_LO : Nat := baseBuf + 0x208
def BUF_DT_BASE_HI : Nat := baseBuf + 0x20C
def BUF_DT_MARK : Nat := baseBuf + 0x210
def BUF_DT_CLEAN : Nat := baseBuf + 0x214
def BUF_DT_RES : Nat := baseBuf + 0x218
def BUF_DUMP_BASE : Nat := baseBuf + 0x220
def BUF_DUMP_SIZE : Nat := baseBuf + 0x224
def BUF_DUMP_CTRL : Nat := baseBuf + 0x228
def BUF_DUMP_STATUS : Nat := baseBuf + 0x22C
def BUF_DUMP_SEQ : Nat := baseBuf + 0x230
def BUF_INIT (i : Nat) : Nat := baseBuf + 0x400 + 4 * i
def BUF_INIT_CLR : Nat := baseBuf + 0x780
def MAPC_STATUS : Nat := baseMapc + 0x0
def MAPC_CTRL : Nat := baseMapc + 0x4
def MAPC_LOCK : Nat := baseMapc + 0x8
def MAPC_HOLE_CNT : Nat := baseMapc + 0xC
def MAPC_OP_ADDR_LO : Nat := baseMapc + 0x10
def MAPC_OP_ADDR_HI : Nat := baseMapc + 0x14
def MAPC_OP_LEN : Nat := baseMapc + 0x18
def MAPC_OP_CMD : Nat := baseMapc + 0x1C
def MAPC_OP_STATUS : Nat := baseMapc + 0x20
def MAPC_WIN_BASE (i : Nat) : Nat := baseMapc + 0x30 + 8 * i
def MAPC_WIN_SIZE (i : Nat) : Nat := baseMapc + 0x34 + 8 * i
def MAPC_LINE_SEL : Nat := baseMapc + 0x50
def MAPC_LINE_INFO : Nat := baseMapc + 0x54
def MAPC_CNT_HIT : Nat := baseMapc + 0x60
def MAPC_CNT_MISS : Nat := baseMapc + 0x64
def MAPC_CNT_RECALL : Nat := baseMapc + 0x68
def MAPC_CNT_WB : Nat := baseMapc + 0x6C
def MAPC_CNT_FILLERR : Nat := baseMapc + 0x70
def MAPC_CNT_CE : Nat := baseMapc + 0x74
def SQZ_STATUS : Nat := baseSqz + 0x0
def SQZ_CTRL : Nat := baseSqz + 0x4
def SQZ_RING_INT (i : Nat) : Nat := baseSqz + 0x10 + 4 * i
def SQZ_CNT_CJOBS : Nat := baseSqz + 0x20
def SQZ_CNT_DJOBS : Nat := baseSqz + 0x24
def SQZ_CNT_NOGAIN : Nat := baseSqz + 0x28
def SQZ_CNT_OUTFULL : Nat := baseSqz + 0x2C
def SQZ_CNT_DERR : Nat := baseSqz + 0x30
def SQZ_CNT_CIN_KIB : Nat := baseSqz + 0x34
def SQZ_CNT_COUT_KIB : Nat := baseSqz + 0x38
def SQZ_CNT_DOUT_KIB : Nat := baseSqz + 0x3C
def SQZ_TUNE (i : Nat) : Nat := baseSqz + 0x100 + 4 * i
def SQZ_R_BASE_LO (i : Nat) : Nat := baseSqz + 0x1000 + 64 * i
def SQZ_R_BASE_HI (i : Nat) : Nat := baseSqz + 0x1004 + 64 * i
def SQZ_R_SIZE (i : Nat) : Nat := baseSqz + 0x1008 + 64 * i
def SQZ_R_PROD (i : Nat) : Nat := baseSqz + 0x100C + 64 * i
def SQZ_R_CONS (i : Nat) : Nat := baseSqz + 0x1010 + 64 * i
def SQZ_R_CPL_BASE_LO (i : Nat) : Nat := baseSqz + 0x1014 + 64 * i
def SQZ_R_CPL_BASE_HI (i : Nat) : Nat := baseSqz + 0x1018 + 64 * i
def SQZ_R_CPL_SIZE (i : Nat) : Nat := baseSqz + 0x101C + 64 * i
def SQZ_R_CPL_PROD (i : Nat) : Nat := baseSqz + 0x1020 + 64 * i
def SQZ_R_CPL_CONS (i : Nat) : Nat := baseSqz + 0x1024 + 64 * i
def SQZ_R_CFG (i : Nat) : Nat := baseSqz + 0x1028 + 64 * i
def SQZ_R_STATUS (i : Nat) : Nat := baseSqz + 0x102C + 64 * i
def CRYP_STATUS : Nat := baseCryp + 0x0
def CRYP_KS_SEL : Nat := baseCryp + 0x10
def CRYP_KS_CMD : Nat := baseCryp + 0x14
def CRYP_KS_RES : Nat := baseCryp + 0x18
def CRYP_KS_INFO : Nat := baseCryp + 0x1C
def CRYP_KS_OWNER : Nat := baseCryp + 0x20
def CRYP_KS_BLOB (i : Nat) : Nat := baseCryp + 0x40 + 4 * i
def CRYP_INT_STATUS : Nat := baseCryp + 0x100
def CRYP_INT_EN : Nat := baseCryp + 0x104
def CRYP_CNT_ENC : Nat := baseCryp + 0x110
def CRYP_CNT_DEC : Nat := baseCryp + 0x114
def CRYP_CNT_STALE : Nat := baseCryp + 0x118
def CRYP_CNT_UNWRAP : Nat := baseCryp + 0x11C
def CRYP_J_BASE_LO (i : Nat) : Nat := baseCryp + 0x200 + 64 * i
def CRYP_J_BASE_HI (i : Nat) : Nat := baseCryp + 0x204 + 64 * i
def CRYP_J_SIZE (i : Nat) : Nat := baseCryp + 0x208 + 64 * i
def CRYP_J_PROD (i : Nat) : Nat := baseCryp + 0x20C + 64 * i
def CRYP_J_CONS (i : Nat) : Nat := baseCryp + 0x210 + 64 * i
def CRYP_J_CPL_BASE_LO (i : Nat) : Nat := baseCryp + 0x214 + 64 * i
def CRYP_J_CPL_BASE_HI (i : Nat) : Nat := baseCryp + 0x218 + 64 * i
def CRYP_J_CPL_SIZE (i : Nat) : Nat := baseCryp + 0x21C + 64 * i
def CRYP_J_CPL_PROD (i : Nat) : Nat := baseCryp + 0x220 + 64 * i
def CRYP_J_CPL_CONS (i : Nat) : Nat := baseCryp + 0x224 + 64 * i
def CRYP_J_CFG (i : Nat) : Nat := baseCryp + 0x228 + 64 * i
def CRYP_J_STATUS (i : Nat) : Nat := baseCryp + 0x22C + 64 * i
def CRYP_RNG_DATA : Nat := baseCryp + 0x400
def CRYP_RNG_STATUS : Nat := baseCryp + 0x404
def CRYP_RNG_CTRL : Nat := baseCryp + 0x408
def CRYP_WK_CMD : Nat := baseCryp + 0x420
def CRYP_WK_RES : Nat := baseCryp + 0x424
def CRYP_WK_BLOB (i : Nat) : Nat := baseCryp + 0x428 + 4 * i
def CRYP_WK_SRC_LO : Nat := baseCryp + 0x450
def CRYP_WK_SRC_HI : Nat := baseCryp + 0x454
def CRYP_WK_DST_LO : Nat := baseCryp + 0x458
def CRYP_WK_DST_HI : Nat := baseCryp + 0x45C
def MB_REQ (n i : Nat) : Nat := baseMbox n + 0x0 + 4 * i
def MB_RSP (n i : Nat) : Nat := baseMbox n + 0x40 + 4 * i
def MB_DB (n : Nat) : Nat := baseMbox n + 0x80
def MB_STAT (n : Nat) : Nat := baseMbox n + 0x84
def MB_INT (n : Nat) : Nat := baseMbox n + 0x88
def MB_CFG (n : Nat) : Nat := baseMbox n + 0x8C
def MB_NOTICE (n : Nat) : Nat := baseMbox n + 0x90
def MB_VER : Nat := baseMboxg + 0x0
def MB_HOSTWIN : Nat := baseMboxg + 0x4
def MB_GRANT (i : Nat) : Nat := baseMboxg + 0x100 + 4 * i
def CW_CMD : Nat := baseMgmt + 0x0
def CW_NSID : Nat := baseMgmt + 0x4
def CW_LBA_LO : Nat := baseMgmt + 0x8
def CW_LBA_HI : Nat := baseMgmt + 0xC
def CW_COUNT : Nat := baseMgmt + 0x10
def CW_STATUS : Nat := baseMgmt + 0x14
def CW_ERROR : Nat := baseMgmt + 0x18
def CW_RES : Nat := baseMgmt + 0x1C
def CW_LOCK : Nat := baseMgmt + 0x20
def CW_CTRL : Nat := baseMgmt + 0x24
def CW_CFG : Nat := baseMgmt + 0x40
def CW_SVC : Nat := baseMgmt + 0x44
def CW_FW_ERROR : Nat := baseMgmt + 0x48
def CW_FW_RES : Nat := baseMgmt + 0x4C
def CW_FW_DONE : Nat := baseMgmt + 0x50
def CW_FW_SLOT : Nat := baseMgmt + 0x54
def CW_DATA (i : Nat) : Nat := baseMgmt + 0x1000 + 4 * i
def CHM_STATUS : Nat := baseMgmt + 0x2000
def CHM_CFG : Nat := baseMgmt + 0x2004
def CHM_HLTH0 : Nat := baseMgmt + 0x2008
def CHM_HLTH1 : Nat := baseMgmt + 0x200C
def CHM_TEMP : Nat := baseMgmt + 0x2010
def CHM_CNT_RX : Nat := baseMgmt + 0x2014
def CHM_CNT_DROP : Nat := baseMgmt + 0x2018
def CHM_FWD_CTRL : Nat := baseMgmt + 0x2020
def CHM_FWD_RLEN : Nat := baseMgmt + 0x2024
def CHM_FWD_BUF (i : Nat) : Nat := baseMgmt + 0x3000 + 4 * i
def FLOW_STATUS : Nat := baseFlow + 0x0
def FLOW_CTRL : Nat := baseFlow + 0x4
def FLOW_CFG : Nat := baseFlow + 0x8
def FLOW_SWTRIG_VAL : Nat := baseFlow + 0xC
def FLOW_SWTRIG : Nat := baseFlow + 0x10
def FLOW_HEAD_SEQ : Nat := baseFlow + 0x14
def FLOW_OLD_OFS : Nat := baseFlow + 0x18
def FLOW_OLD_SEQ : Nat := baseFlow + 0x1C
def FLOW_CNT_MISSED : Nat := baseFlow + 0x30
def FLOW_CNT_RECORDS : Nat := baseFlow + 0x34
def FLOW_CNT_IGNORED : Nat := baseFlow + 0x38
def FLOW_CNT_CE : Nat := baseFlow + 0x3C
def FLOW_LW (i : Nat) : Nat := baseFlow + 0x800 + 4 * i
def FLOW_DEF_W0 (i : Nat) : Nat := baseFlow + 0x1000 + 8 * i
def FLOW_DEF_W1 (i : Nat) : Nat := baseFlow + 0x1004 + 8 * i
def FLOW_LIST (i : Nat) : Nat := baseFlow + 0x2000 + 4 * i
def FLOW_RING (i : Nat) : Nat := baseFlow + 0x40000 + 4 * i
def PMU_STATUS : Nat := basePmu + 0x0
def PMU_CTRL : Nat := basePmu + 0x4
def PMU_SNAP : Nat := basePmu + 0x8
def PMU_SNAP_GTC_LO : Nat := basePmu + 0x10
def PMU_SNAP_GTC_HI : Nat := basePmu + 0x14
def PMU_DUMP_BASE_LO : Nat := basePmu + 0x20
def PMU_DUMP_BASE_HI : Nat := basePmu + 0x24
def PMU_DUMP_SLOTS : Nat := basePmu + 0x28
def PMU_DUMP_PERIOD : Nat := basePmu + 0x2C
def PMU_DUMP_SEQ : Nat := basePmu + 0x30
def PMU_OVF (i : Nat) : Nat := basePmu + 0x40 + 4 * i
def PMU_EVSEL (i : Nat) : Nat := basePmu + 0x400 + 4 * i
def PMU_CNT_LO (i : Nat) : Nat := basePmu + 0x1000 + 8 * i
def PMU_CNT_HI (i : Nat) : Nat := basePmu + 0x1004 + 8 * i
def PMU_SNP_LO (i : Nat) : Nat := basePmu + 0x2000 + 8 * i
def PMU_SNP_HI (i : Nat) : Nat := basePmu + 0x2004 + 8 * i
def MTR_STATUS : Nat := baseMtr + 0x0
def MTR_CTRL : Nat := baseMtr + 0x4
def MTR_ORIGIN_LO : Nat := baseMtr + 0x8
def MTR_ORIGIN_HI : Nat := baseMtr + 0xC
def MTR_LOG_BASE_LO : Nat := baseMtr + 0x10
def MTR_LOG_BASE_HI : Nat := baseMtr + 0x14
def MTR_LOG_SEQ : Nat := baseMtr + 0x18
def MTR_EPOCH_LO : Nat := baseMtr + 0x1C
def MTR_EPOCH_HI : Nat := baseMtr + 0x20
def MTR_CHG_SEL : Nat := baseMtr + 0x30
def MTR_CHG_AMT : Nat := baseMtr + 0x34
def MTR_RD_SEL : Nat := baseMtr + 0x40
def MTR_RD_LO : Nat := baseMtr + 0x44
def MTR_RD_HI : Nat := baseMtr + 0x48
def MTR_CNT_REFUSED : Nat := baseMtr + 0x50
def MTR_CAP_SEL : Nat := baseMtr + 0x100
def MTR_CAP (i : Nat) : Nat := baseMtr + 0x104 + 4 * i
def MTR_CAP_STATE : Nat := baseMtr + 0x11C
def BV_CTRL (n : Nat) : Nat := baseBv n + 0x0
def BV_CFG (n : Nat) : Nat := baseBv n + 0x4
def BV_FIRST (n : Nat) : Nat := baseBv n + 0x8
def BV_LAST (n : Nat) : Nat := baseBv n + 0xC
def BV_GROUP (n : Nat) : Nat := baseBv n + 0x10
def BV_POS (n : Nat) : Nat := baseBv n + 0x14
def BV_POS_SECT (n : Nat) : Nat := baseBv n + 0x18
def BV_PASS (n : Nat) : Nat := baseBv n + 0x1C
def BV_STATUS (n : Nat) : Nat := baseBv n + 0x20
def BV_FND_BASE_LO (n : Nat) : Nat := baseBv n + 0x24
def BV_FND_BASE_HI (n : Nat) : Nat := baseBv n + 0x28
def BV_FND_SIZE (n : Nat) : Nat := baseBv n + 0x2C
def BV_FND_PROD (n : Nat) : Nat := baseBv n + 0x30
def BV_FND_CONS (n : Nat) : Nat := baseBv n + 0x34
def BV_CNT_SECT (n : Nat) : Nat := baseBv n + 0x40
def BV_CNT_BAD (n : Nat) : Nat := baseBv n + 0x44
def BV_CNT_LOST (n : Nat) : Nat := baseBv n + 0x48
def LCS_STATE : Nat := baseLcs + 0x0
def LCS_REV : Nat := baseLcs + 0x4
def LCS_DEVID (i : Nat) : Nat := baseLcs + 0x10 + 4 * i
def LCS_OEMKEY (i : Nat) : Nat := baseLcs + 0x40 + 4 * i
def LCS_KEYS : Nat := baseLcs + 0x100
def LCS_SVN : Nat := baseLcs + 0x104
def LCS_DBG : Nat := baseLcs + 0x108
def LCS_FUSE_CMD : Nat := baseLcs + 0x110
def LCS_FUSE_STATUS : Nat := baseLcs + 0x114
def LCS_CNT_DBGDENY : Nat := baseLcs + 0x118
def ROPE_STATUS : Nat := baseRope + 0x0
def ROPE_CTRL : Nat := baseRope + 0x4
def ROPE_CMD : Nat := baseRope + 0x8
def ROPE_HB_KICK : Nat := baseRope + 0xC
def ROPE_PEER_ID (i : Nat) : Nat := baseRope + 0x10 + 4 * i
def ROPE_OWN : Nat := baseRope + 0x20
def ROPE_OWN_REQ : Nat := baseRope + 0x24
def ROPE_INT_STATUS : Nat := baseRope + 0x28
def ROPE_INT_EN : Nat := baseRope + 0x2C
def ROPE_CNT_CE : Nat := baseRope + 0x30
def ROPE_CNT_REPLAY : Nat := baseRope + 0x34
def ROPE_CNT_DOWN : Nat := baseRope + 0x38
def ROPE_CNT_HBMISS : Nat := baseRope + 0x3C
def ROPE_RWIN_BASE_LO : Nat := baseRope + 0x40
def ROPE_RWIN_BASE_HI : Nat := baseRope + 0x44
def ROPE_RWIN_SIZE : Nat := baseRope + 0x48
def ROPE_TXMSG (i : Nat) : Nat := baseRope + 0x50 + 4 * i
def ROPE_RXMSG (i : Nat) : Nat := baseRope + 0x60 + 4 * i
def ROPE_RXMSG_POP : Nat := baseRope + 0x70
def ROPE_MSG_STAT : Nat := baseRope + 0x74
def ROPE_MQ_BASE_LO (n : Nat) : Nat := baseRopem n + 0x0
def ROPE_MQ_BASE_HI (n : Nat) : Nat := baseRopem n + 0x4
def ROPE_MQ_SIZE (n : Nat) : Nat := baseRopem n + 0x8
def ROPE_MQ_PROD (n : Nat) : Nat := baseRopem n + 0xC
def ROPE_MQ_CONS (n : Nat) : Nat := baseRopem n + 0x10
def ROPE_MC_BASE_LO (n : Nat) : Nat := baseRopem n + 0x14
def ROPE_MC_BASE_HI (n : Nat) : Nat := baseRopem n + 0x18
def ROPE_MC_SIZE (n : Nat) : Nat := baseRopem n + 0x1C
def ROPE_MC_PROD (n : Nat) : Nat := baseRopem n + 0x20
def ROPE_MC_CONS (n : Nat) : Nat := baseRopem n + 0x24

end R

/-- Register table of PASSH. -/
def tabPassh : List RegRow := [
  ⟨0x0, 1, 4, 0, .cc, [⟨31, 0, .ro, .any⟩]⟩,
  ⟨0x4, 1, 4, 0, .cc, [⟨31, 0, .wo, .any⟩]⟩,
  ⟨0x8, 1, 4, 0, .cc, [⟨31, 0, .rc, .any⟩]⟩,
  ⟨0xC, 1, 4, 0, .cc, [⟨31, 0, .rc, .any⟩]⟩,
  ⟨0x10, 1, 4, 0, .cc, [⟨31, 0, .rc, .any⟩]⟩]

/-- Register table of PASSM. -/
def tabPassm : List RegRow := [
  ⟨0x0, 1, 4, 0, .cc, [⟨31, 0, .ro, .any⟩]⟩,
  ⟨0x4, 1, 4, 0, .cc, [⟨31, 0, .wo, .any⟩]⟩,
  ⟨0x8, 1, 4, 0, .cc, [⟨31, 0, .rc, .any⟩]⟩,
  ⟨0xC, 1, 4, 0, .cc, [⟨31, 0, .rc, .any⟩]⟩,
  ⟨0x10, 1, 4, 0, .cc, [⟨31, 0, .rc, .any⟩]⟩]

/-- Register table of SUMP. -/
def tabSump : List RegRow := [
  ⟨0x0, 1, 4, 0, .cc, [⟨31, 0, .ro, .any⟩]⟩,
  ⟨0x4, 1, 4, 0, .cc, [⟨31, 0, .ro, .any⟩]⟩,
  ⟨0x8, 1, 4, 0, .cc, [⟨31, 0, .ro, .any⟩]⟩,
  ⟨0xC, 1, 4, 0, .cc, [⟨31, 0, .ro, .any⟩]⟩,
  ⟨0x10, 1, 4, 0, .cc, [⟨31, 0, .ro, .any⟩]⟩,
  ⟨0x14, 1, 4, 0, .core, [⟨31, 0, .wo, .any⟩]⟩,
  ⟨0x18, 1, 4, 0, .cc, [⟨31, 0, .ro, .any⟩]⟩,
  ⟨0x1C, 1, 4, 0, .cc, [⟨31, 0, .rc, .any⟩]⟩,
  ⟨0x20, 1, 4, 0, .cc, [⟨31, 0, .ro, .any⟩]⟩,
  ⟨0x24, 1, 4, 0, .cc, [⟨31, 0, .wo, .any⟩]⟩,
  ⟨0x28, 1, 4, 0, .cc, [⟨1, 0, .rw, .any⟩, ⟨2, 2, .rw, .any⟩]⟩,
  ⟨0x2C, 1, 4, 0xDC, .cc, [⟨15, 0, .rw, .any⟩]⟩,
  ⟨0x30, 1, 4, 0, .cc, [⟨31, 0, .ro, .any⟩]⟩,
  ⟨0x34, 1, 4, 0, .cc, [⟨31, 0, .ro, .any⟩]⟩,
  ⟨0x38, 1, 4, 0, .cc, [⟨31, 0, .ro, .any⟩]⟩,
  ⟨0x100, 64, 4, 0, .cc, [⟨31, 0, .rw, .any⟩]⟩,
  ⟨0x200, 32, 8, 0, .cc, [⟨9, 0, .rw, .any⟩, ⟨19, 10, .rw, .any⟩, ⟨25, 20, .rw, .any⟩, ⟨31, 31, .rw, .any⟩]⟩,
  ⟨0x204, 32, 8, 0, .cc, [⟨31, 0, .rw, .any⟩]⟩,
  ⟨0x300, 1, 4, 0, .core, [⟨15, 0, .rwl, .any⟩]⟩,
  ⟨0x304, 1, 4, 0, .core, [⟨31, 0, .rwl, .any⟩]⟩,
  ⟨0x308, 1, 4, 0, .core, [⟨15, 0, .rwl, .any⟩]⟩]

/-- Register table of PWR. -/
def tabPwr : List RegRow := [
  ⟨0x0, 1, 4, 0, .cc, [⟨31, 0, .ro, .any⟩]⟩,
  ⟨0x4, 1, 4, 0, .cc, [⟨31, 0, .ro, .any⟩]⟩,
  ⟨0x10, 1, 4, 1, .cc, [⟨6, 0, .w1c, .any⟩]⟩,
  ⟨0x14, 1, 4, 0, .core, [⟨31, 0, .wo, .any⟩]⟩,
  ⟨0x18, 1, 4, 0, .cc, [⟨15, 0, .rw, .any⟩, ⟨31, 31, .rw, .any⟩]⟩,
  ⟨0x1C, 1, 4, 0, .cc, [⟨31, 0, .wo, .any⟩]⟩,
  ⟨0x20, 1, 4, 0, .mgmt, [⟨15, 0, .rw, .any⟩, ⟨31, 31, .rw, .any⟩]⟩,
  ⟨0x24, 1, 4, 0, .mgmt, [⟨31, 0, .wo, .any⟩]⟩,
  ⟨0x30, 1, 4, 0, .cc, [⟨31, 0, .ro, .any⟩]⟩,
  ⟨0x34, 1, 4, 0, .cc, [⟨31, 0, .ro, .any⟩]⟩,
  ⟨0x38, 1, 4, 0, .cc, [⟨31, 0, .ro, .any⟩]⟩,
  ⟨0x40, 1, 4, 0, .cc, [⟨19, 0, .w1c, .any⟩]⟩,
  ⟨0x44, 1, 4, 0, .cc, [⟨19, 0, .rw, .any⟩]⟩,
  ⟨0x100, 20, 4, 0, .core, [⟨0, 0, .rw, .any⟩, ⟨1, 1, .rw, .any⟩, ⟨3, 2, .ro, .any⟩, ⟨4, 4, .ro, .any⟩]⟩,
  ⟨0x800, 1, 4, 9, .cc, [⟨3, 0, .rw, .range 0 9⟩, ⟨9, 8, .rw, .range 0 2⟩]⟩,
  ⟨0x808, 1, 4, 0, .cc, [⟨31, 0, .rw, .any⟩]⟩,
  ⟨0x80C, 1, 4, 0, .cc, [⟨31, 0, .rw, .any⟩]⟩,
  ⟨0x810, 1, 4, 0, .cc, [⟨31, 0, .rw, .any⟩]⟩,
  ⟨0x814, 1, 4, 0, .cc, [⟨31, 0, .rw, .any⟩]⟩,
  ⟨0x840, 3, 32, 0, .ssPort, [⟨31, 0, .rw, .any⟩]⟩,
  ⟨0x844, 3, 32, 0, .ssPort, [⟨0, 0, .rw, .any⟩]⟩,
  ⟨0x848, 3, 32, 0, .ssPort, [⟨31, 0, .rw, .any⟩]⟩,
  ⟨0x84C, 3, 32, 0, .ssPort, [⟨15, 0, .rw, .any⟩]⟩,
  ⟨0x850, 3, 32, 0, .ssPort, [⟨31, 0, .rw, .any⟩]⟩,
  ⟨0x854, 3, 32, 0, .ssPort, [⟨31, 0, .wo, .any⟩]⟩,
  ⟨0x858, 3, 32, 0, .cc, [⟨31, 0, .ro, .any⟩]⟩]

/-- Register table of ATB. -/
def tabAtb : List RegRow := [
  ⟨0x0, 1, 4, 0, .core, [⟨31, 0, .ro, .any⟩]⟩,
  ⟨0x4, 1, 4, 0, .core, [⟨31, 0, .ro, .any⟩]⟩,
  ⟨0x8, 1, 4, 0, .core, [⟨31, 0, .ro, .any⟩]⟩,
  ⟨0xC, 1, 4, 0, .core, [⟨31, 0, .ro, .any⟩]⟩,
  ⟨0x10, 1, 4, 0xFFFFFFFF, .core, [⟨31, 0, .ro, .any⟩]⟩,
  ⟨0x20, 4, 4, 0, .core, [⟨31, 0, .wo, .any⟩]⟩,
  ⟨0x30, 1, 4, 0x00400100, .core, [⟨31, 0, .ro, .any⟩]⟩,
  ⟨0x34, 1, 4, 0, .core, [⟨31, 0, .wo, .any⟩]⟩,
  ⟨0x40, 1, 4, 0, .core, [⟨31, 0, .rw, .any⟩]⟩,
  ⟨0x44, 1, 4, 0, .core, [⟨31, 0, .rw, .any⟩]⟩,
  ⟨0x48, 1, 4, 0x10, .core, [⟨31, 0, .rw, .pow2 16 4096⟩]⟩,
  ⟨0x4C, 1, 4, 0, .core, [⟨31, 0, .ro, .any⟩]⟩,
  ⟨0x50, 1, 4, 0, .core, [⟨31, 0, .rw, .any⟩]⟩,
  ⟨0x60, 1, 4, 0, .cc, [⟨31, 0, .rw, .any⟩]⟩,
  ⟨0x64, 1, 4, 0, .cc, [⟨31, 0, .rw, .any⟩]⟩,
  ⟨0x68, 1, 4, 0x10, .cc, [⟨31, 0, .rw, .pow2 16 4096⟩]⟩,
  ⟨0x6C, 1, 4, 0, .core, [⟨31, 0, .ro, .any⟩]⟩,
  ⟨0x70, 1, 4, 0, .cc, [⟨31, 0, .rw, .any⟩]⟩,
  ⟨0x78, 1, 4, 0, .core, [⟨31, 0, .rw, .any⟩]⟩,
  ⟨0x7C, 1, 4, 0, .core, [⟨31, 0, .rw, .any⟩]⟩,
  ⟨0x90, 1, 4, 0, .core, [⟨31, 0, .rc, .any⟩]⟩,
  ⟨0x94, 1, 4, 0, .core, [⟨31, 0, .rc, .any⟩]⟩,
  ⟨0x98, 1, 4, 0, .core, [⟨31, 0, .rc, .any⟩]⟩,
  ⟨0x9C, 1, 4, 0, .core, [⟨31, 0, .rc, .any⟩]⟩,
  ⟨0xA0, 8, 4, 0, .core, [⟨24, 0, .rwg, .any⟩]⟩,
  ⟨0xC0, 1, 4, 0x10, .core, [⟨7, 0, .rwg, .range 1 31⟩]⟩]

/-- Register table of CHAN. -/
def tabChan : List RegRow := [
  ⟨0x0, 1, 4, 0, .core, [⟨31, 0, .ro, .any⟩]⟩,
  ⟨0x4, 1, 4, 0x00042018, .core, [⟨6, 0, .rw, .range 1 64⟩, ⟨14, 8, .rw, .range 8 64⟩, ⟨19, 16, .rw, .range 0 8⟩]⟩,
  ⟨0x8, 1, 4, 0x00003808, .core, [⟨3, 0, .rw, .any⟩, ⟨14, 8, .rw, .range 33 64⟩]⟩,
  ⟨0xC, 1, 4, 0x00040242, .core, [⟨1, 0, .rw, .any⟩, ⟨7, 4, .rw, .oneOf [0, 2, 3, 4, 5, 6, 7, 8]⟩, ⟨11, 8, .rw, .range 0 8⟩, ⟨18, 12, .rw, .range 1 64⟩]⟩,
  ⟨0x10, 1, 4, 0, .core, [⟨31, 0, .wo, .any⟩]⟩,
  ⟨0x14, 1, 4, 0, .core, [⟨31, 0, .ro, .any⟩]⟩,
  ⟨0x18, 1, 4, 0, .core, [⟨31, 0, .wo, .any⟩]⟩,
  ⟨0x1C, 1, 4, 0, .core, [⟨31, 0, .ro, .any⟩]⟩,
  ⟨0x20, 1, 4, 0, .core, [⟨31, 0, .rc, .any⟩]⟩,
  ⟨0x24, 1, 4, 0, .core, [⟨31, 0, .rc, .any⟩]⟩,
  ⟨0x28, 1, 4, 0, .core, [⟨31, 0, .rc, .any⟩]⟩,
  ⟨0x2C, 1, 4, 0, .core, [⟨31, 0, .rc, .any⟩]⟩,
  ⟨0x30, 1, 4, 0, .core, [⟨31, 0, .rc, .any⟩]⟩,
  ⟨0x34, 1, 4, 0, .core, [⟨31, 0, .rc, .any⟩]⟩,
  ⟨0x38, 1, 4, 0, .core, [⟨31, 0, .rc, .any⟩]⟩,
  ⟨0x3C, 1, 4, 0, .core, [⟨31, 0, .rc, .any⟩]⟩,
  ⟨0x80, 1, 4, 0x80000110, .core, [⟨4, 0, .rwg, .any⟩, ⟨9, 5, .rwg, .range 0 24⟩, ⟨17, 10, .rwg, .any⟩, ⟨25, 18, .rwg, .any⟩, ⟨31, 31, .rwg, .any⟩]⟩,
  ⟨0x84, 1, 4, 0x03808080, .core, [⟨7, 0, .rwg, .any⟩, ⟨15, 8, .rwg, .any⟩, ⟨23, 16, .rwg, .any⟩, ⟨26, 24, .rwg, .any⟩, ⟨27, 27, .rwg, .any⟩]⟩,
  ⟨0x88, 1, 4, 0, .core, [⟨31, 0, .rwg, .any⟩]⟩,
  ⟨0x8C, 1, 4, 0, .core, [⟨31, 0, .rwg, .any⟩]⟩,
  ⟨0xC0, 1, 4, 0, .core, [⟨2, 0, .rwg, .any⟩, ⟨3, 3, .rwg, .any⟩, ⟨19, 4, .rwg, .range 0 38399⟩]⟩,
  ⟨0xC4, 1, 4, 0, .core, [⟨31, 0, .ro, .any⟩]⟩,
  ⟨0x1000, 576, 4, 0, .core, [⟨31, 0, .rwg, .any⟩]⟩]

/-- Register table of LOOP. -/
def tabLoop : List RegRow := [
  ⟨0x0, 1, 4, 0x102, .cc, [⟨31, 0, .ro, .any⟩]⟩,
  ⟨0x4, 1, 4, 0x00020F5C, .cc, [⟨15, 0, .rwg, .range 256 8192⟩, ⟨23, 16, .rwg, .any⟩]⟩,
  ⟨0x8, 1, 4, 0x7D0, .cc, [⟨15, 0, .rwg, .range 100 4000⟩]⟩,
  ⟨0xC, 1, 4, 0, .cc, [⟨31, 0, .ro, .any⟩]⟩,
  ⟨0x10, 1, 4, 0, .cc, [⟨31, 0, .ro, .any⟩]⟩,
  ⟨0x14, 1, 4, 0, .cc, [⟨31, 0, .ro, .any⟩]⟩,
  ⟨0x18, 1, 4, 0, .cc, [⟨31, 0, .ro, .any⟩]⟩,
  ⟨0x1C, 1, 4, 0, .cc, [⟨31, 0, .ro, .any⟩]⟩,
  ⟨0x20, 1, 4, 0, .cc, [⟨31, 0, .rc, .any⟩]⟩,
  ⟨0x24, 1, 4, 0, .cc, [⟨31, 0, .rc, .any⟩]⟩,
  ⟨0x28, 1, 4, 0, .cc, [⟨31, 0, .rc, .any⟩]⟩,
  ⟨0x2C, 1, 4, 0, .cc, [⟨31, 0, .rc, .any⟩]⟩,
  ⟨0x100, 32, 4, 0, .cc, [⟨31, 0, .rwg, .any⟩]⟩,
  ⟨0x1000, 512, 4, 0, .cc, [⟨31, 0, .rwg, .any⟩]⟩]

/-- Register table of LE. -/
def tabLe : List RegRow := [
  ⟨0x0, 1, 4, 0, .cc, [⟨31, 0, .ro, .any⟩]⟩,
  ⟨0x4, 1, 4, 0x1388, .cc, [⟨31, 0, .rw, .step 4000 32000 40⟩]⟩,
  ⟨0x8, 1, 4, 0, .cc, [⟨15, 0, .rw, .any⟩]⟩,
  ⟨0xC, 1, 4, 0, .cc, [⟨15, 0, .rw, .any⟩]⟩,
  ⟨0x10, 1, 4, 0x190, .cc, [⟨15, 0, .rw, .any⟩]⟩,
  ⟨0x14, 1, 4, 0, .cc, [⟨31, 0, .ro, .any⟩]⟩,
  ⟨0x18, 1, 4, 0, .cc, [⟨31, 0, .wo, .any⟩]⟩,
  ⟨0x1C, 1, 4, 0, .cc, [⟨31, 0, .rc, .any⟩]⟩,
  ⟨0x100, 16, 4, 0, .cc, [⟨15, 0, .rw, .any⟩]⟩,
  ⟨0x140, 1, 4, 0, .cc, [⟨2, 0, .rw, .any⟩]⟩]

/-- Register table of ACT. -/
def tabAct : List RegRow := [
  ⟨0x0, 1, 4, 0x40, .cc, [⟨31, 0, .ro, .any⟩]⟩,
  ⟨0x4, 1, 4, 0, .cc, [⟨31, 0, .wo, .any⟩]⟩,
  ⟨0x10, 1, 4, 0, .cc, [⟨31, 0, .ro, .any⟩]⟩,
  ⟨0x14, 1, 4, 0, .cc, [⟨31, 0, .ro, .any⟩]⟩,
  ⟨0x18, 1, 4, 0, .cc, [⟨31, 0, .ro, .any⟩]⟩,
  ⟨0x1C, 1, 4, 0, .cc, [⟨31, 0, .ro, .any⟩]⟩,
  ⟨0x20, 1, 4, 0, .cc, [⟨31, 0, .ro, .any⟩]⟩,
  ⟨0x24, 1, 4, 0, .cc, [⟨31, 0, .ro, .any⟩]⟩,
  ⟨0x28, 1, 4, 0x100, .cc, [⟨15, 0, .rwg, .any⟩]⟩,
  ⟨0x2C, 1, 4, 0, .cc, [⟨31, 0, .rwg, .any⟩]⟩,
  ⟨0x30, 1, 4, 0, .cc, [⟨31, 0, .rwg, .any⟩]⟩,
  ⟨0x34, 1, 4, 0x800, .cc, [⟨15, 0, .rwg, .range 1 32767⟩]⟩,
  ⟨0x38, 1, 4, 0x00801800, .cc, [⟨15, 0, .rwg, .range 0 8192⟩, ⟨31, 16, .rwg, .range 1 1024⟩]⟩,
  ⟨0x3C, 1, 4, 0, .cc, [⟨31, 0, .ro, .any⟩]⟩,
  ⟨0x40, 16, 4, 0, .cc, [⟨31, 0, .rwg, .any⟩]⟩,
  ⟨0x80, 1, 4, 0x140, .cc, [⟨0, 0, .rwg, .any⟩, ⟨11, 4, .rwg, .range 5 100⟩]⟩,
  ⟨0x84, 1, 4, 0x04001000, .cc, [⟨31, 0, .rwg, .any⟩]⟩,
  ⟨0x88, 1, 4, 0x1388, .cc, [⟨15, 0, .rwg, .any⟩]⟩,
  ⟨0x8C, 1, 4, 0xBB8, .cc, [⟨15, 0, .rwg, .any⟩]⟩,
  ⟨0x90, 1, 4, 0, .cc, [⟨31, 0, .rw, .any⟩]⟩,
  ⟨0x94, 1, 4, 0x100, .cc, [⟨15, 0, .rwg, .any⟩]⟩,
  ⟨0x98, 1, 4, 0, .cc, [⟨31, 0, .ro, .any⟩]⟩,
  ⟨0x9C, 1, 4, 0x03200190, .cc, [⟨31, 0, .rw, .any⟩]⟩,
  ⟨0xA0, 1, 4, 0x00C80A1E, .cc, [⟨7, 0, .rw, .range 1 255⟩, ⟨15, 8, .rw, .range 1 255⟩, ⟨31, 16, .rw, .any⟩]⟩,
  ⟨0xA4, 1, 4, 0, .cc, [⟨15, 0, .rwg, .any⟩, ⟨16, 16, .rwg, .any⟩]⟩,
  ⟨0xA8, 1, 4, 0x01F40064, .cc, [⟨11, 0, .rwg, .any⟩, ⟨31, 16, .rwg, .any⟩]⟩,
  ⟨0xAC, 1, 4, 1, .cc, [⟨6, 0, .rw, .any⟩, ⟨28, 16, .rw, .any⟩]⟩,
  ⟨0xB0, 1, 4, 0, .cc, [⟨31, 0, .wo, .any⟩]⟩,
  ⟨0xB4, 1, 4, 0, .cc, [⟨31, 0, .ro, .any⟩]⟩,
  ⟨0xC0, 1, 4, 0, .cc, [⟨31, 0, .rc, .any⟩]⟩,
  ⟨0xC4, 1, 4, 0, .cc, [⟨31, 0, .rc, .any⟩]⟩,
  ⟨0xC8, 1, 4, 0, .cc, [⟨31, 0, .rc, .any⟩]⟩,
  ⟨0xCC, 1, 4, 0, .cc, [⟨31, 0, .rc, .any⟩]⟩,
  ⟨0xD0, 1, 4, 0, .cc, [⟨31, 0, .rc, .any⟩]⟩]

/-- Register table of SPIN. -/
def tabSpin : List RegRow := [
  ⟨0x0, 1, 4, 0, .cc, [⟨31, 0, .ro, .any⟩]⟩,
  ⟨0x4, 1, 4, 0, .cc, [⟨31, 0, .wo, .any⟩]⟩,
  ⟨0x8, 1, 4, 0, .cc, [⟨31, 0, .wo, .any⟩]⟩,
  ⟨0xC, 1, 4, 0x1C20, .cc, [⟨13, 0, .rw, .range 3600 10000⟩, ⟨16, 16, .rw, .any⟩, ⟨18, 17, .rw, .any⟩]⟩,
  ⟨0x10, 1, 4, 0, .cc, [⟨31, 0, .ro, .any⟩]⟩,
  ⟨0x14, 1, 4, 0, .cc, [⟨31, 0, .ro, .any⟩]⟩,
  ⟨0x18, 1, 4, 0, .cc, [⟨31, 0, .ro, .any⟩]⟩,
  ⟨0x1C, 1, 4, 0, .cc, [⟨31, 0, .ro, .any⟩]⟩,
  ⟨0x20, 1, 4, 0x00141000, .cc, [⟨12, 0, .rwg, .oneOf linesValues⟩, ⟨13, 13, .rwg, .any⟩, ⟨31, 16, .rwg, .range 1 1000⟩]⟩,
  ⟨0x24, 1, 4, 0, .cc, [⟨24, 0, .rwg, .range 0 25165823⟩]⟩,
  ⟨0x28, 1, 4, 4, .cc, [⟨3, 0, .rwg, .range 1 8⟩, ⟨31, 16, .rwg, .any⟩]⟩,
  ⟨0x2C, 1, 4, 0x0C0A4E20, .cc, [⟨15, 0, .rwg, .step 10000 50000 40⟩, ⟨23, 16, .rwg, .range 2 50⟩, ⟨31, 24, .rwg, .range 12 40⟩]⟩,
  ⟨0x30, 1, 4, 0x3E8, .cc, [⟨15, 0, .rwg, .range 100 10000⟩]⟩,
  ⟨0x34, 1, 4, 0x04001000, .cc, [⟨31, 0, .rwg, .any⟩]⟩,
  ⟨0x38, 1, 4, 0x00200100, .cc, [⟨31, 0, .rwg, .any⟩]⟩,
  ⟨0x3C, 1, 4, 0x05DC07D0, .cc, [⟨31, 0, .rwg, .any⟩]⟩,
  ⟨0x40, 1, 4, 0x9C4, .cc, [⟨15, 0, .rwg, .any⟩]⟩,
  ⟨0x44, 1, 4, 0x00C80320, .cc, [⟨15, 0, .rwg, .any⟩, ⟨31, 16, .rwg, .range 10 2000⟩]⟩,
  ⟨0x48, 1, 4, 0x10000008, .cc, [⟨7, 0, .rwg, .range 1 255⟩, ⟨31, 16, .rwg, .any⟩]⟩,
  ⟨0x4C, 1, 4, 0x32003390, .cc, [⟨31, 0, .rwg, .any⟩]⟩,
  ⟨0x50, 1, 4, 0x27D83840, .cc, [⟨31, 0, .rwg, .any⟩]⟩,
  ⟨0x54, 1, 4, 0x84B02AF8, .cc, [⟨15, 0, .rwg, .any⟩, ⟨27, 16, .rwg, .any⟩, ⟨31, 28, .rwg, .range 1 15⟩]⟩,
  ⟨0x58, 1, 4, 0x114, .cc, [⟨7, 0, .rwg, .range 1 255⟩, ⟨8, 8, .rwg, .any⟩]⟩,
  ⟨0x5C, 1, 4, 0x00640FA0, .cc, [⟨31, 0, .rwg, .any⟩]⟩,
  ⟨0x60, 1, 4, 0, .cc, [⟨31, 0, .rc, .any⟩]⟩,
  ⟨0x64, 1, 4, 0, .cc, [⟨31, 0, .rc, .any⟩]⟩,
  ⟨0x68, 1, 4, 0, .cc, [⟨31, 0, .rc, .any⟩]⟩,
  ⟨0x6C, 1, 4, 0, .cc, [⟨31, 0, .rc, .any⟩]⟩,
  ⟨0x70, 1, 4, 0, .cc, [⟨31, 0, .rc, .any⟩]⟩,
  ⟨0x74, 1, 4, 0, .cc, [⟨31, 0, .rc, .any⟩]⟩,
  ⟨0x78, 1, 4, 0, .cc, [⟨31, 0, .rc, .any⟩]⟩]

/-- Register table of QENG. -/
def tabQeng : List RegRow := [
  ⟨0x0, 1, 4, 0, .core, [⟨31, 0, .ro, .any⟩]⟩,
  ⟨0x4, 1, 4, 0, .core, [⟨11, 0, .rw, .any⟩]⟩,
  ⟨0x8, 1, 4, 0x8000, .core, [⟨15, 0, .rw, .range 2 65534⟩]⟩,
  ⟨0xC, 1, 4, 1, .core, [⟨4, 0, .rw, .range 0 16⟩]⟩,
  ⟨0x10, 1, 4, 0x400, .core, [⟨31, 0, .ro, .any⟩]⟩,
  ⟨0x14, 2, 4, 0, .core, [⟨31, 0, .ro, .any⟩]⟩,
  ⟨0x20, 1, 4, 0, .core, [⟨10, 0, .w1c, .any⟩]⟩,
  ⟨0x24, 1, 4, 0, .core, [⟨10, 0, .rw, .any⟩]⟩,
  ⟨0x30, 2, 4, 3, .core, [⟨2, 0, .rw, .any⟩, ⟨15, 8, .rw, .any⟩, ⟨23, 16, .rw, .any⟩, ⟨31, 24, .rw, .any⟩]⟩,
  ⟨0x40, 1, 4, 0, .core, [⟨17, 0, .rw, .any⟩]⟩,
  ⟨0x44, 1, 4, 0, .core, [⟨31, 0, .wo, .any⟩]⟩,
  ⟨0x48, 1, 4, 0, .core, [⟨31, 0, .ro, .any⟩]⟩,
  ⟨0x50, 4, 4, 0, .core, [⟨31, 0, .rw, .any⟩]⟩,
  ⟨0x60, 1, 4, 0, .core, [⟨11, 0, .rw, .any⟩]⟩,
  ⟨0x64, 1, 4, 0x04000001, .core, [⟨8, 0, .rw, .range 1 256⟩, ⟨13, 12, .rw, .any⟩, ⟨26, 16, .rw, .range 1 1024⟩]⟩,
  ⟨0x68, 1, 4, 0, .core, [⟨9, 0, .rw, .any⟩]⟩,
  ⟨0x6C, 1, 4, 0, .core, [⟨1, 0, .rw, .any⟩, ⟨3, 2, .rw, .range 0 2⟩, ⟨7, 4, .rw, .any⟩]⟩,
  ⟨0x70, 1, 4, 0, .core, [⟨11, 0, .rw, .any⟩]⟩,
  ⟨0x74, 1, 4, 0, .core, [⟨16, 0, .rw, .any⟩]⟩,
  ⟨0x80, 4, 4, 0, .core, [⟨31, 0, .wo, .any⟩]⟩,
  ⟨0x90, 1, 4, 0, .core, [⟨31, 0, .wo, .any⟩]⟩,
  ⟨0x94, 1, 4, 0, .core, [⟨31, 0, .wo, .any⟩]⟩,
  ⟨0x98, 1, 4, 0, .core, [⟨31, 0, .ro, .any⟩]⟩,
  ⟨0x9C, 1, 4, 0, .core, [⟨31, 0, .wo, .any⟩]⟩,
  ⟨0xA0, 1, 4, 0, .core, [⟨0, 0, .rw, .any⟩, ⟨1, 1, .w1c, .any⟩]⟩,
  ⟨0xA4, 1, 4, 0, .core, [⟨31, 0, .rc, .any⟩]⟩,
  ⟨0xA8, 1, 4, 0, .core, [⟨31, 0, .rc, .any⟩]⟩,
  ⟨0xAC, 1, 4, 0, .core, [⟨31, 0, .rc, .any⟩]⟩,
  ⟨0x100, 4, 32, 0, .core, [⟨31, 0, .rw, .any⟩]⟩,
  ⟨0x104, 4, 32, 0, .core, [⟨31, 0, .rw, .any⟩]⟩,
  ⟨0x108, 4, 32, 0x10, .core, [⟨31, 0, .rw, .pow2 16 4096⟩]⟩,
  ⟨0x10C, 4, 32, 0, .core, [⟨31, 0, .ro, .any⟩]⟩,
  ⟨0x110, 4, 32, 0, .core, [⟨31, 0, .rw, .any⟩]⟩,
  ⟨0x200, 2, 4, 0, .core, [⟨31, 0, .rc, .any⟩]⟩,
  ⟨0x208, 2, 4, 0, .core, [⟨31, 0, .rc, .any⟩]⟩,
  ⟨0x210, 1, 4, 0, .core, [⟨31, 0, .rc, .any⟩]⟩,
  ⟨0x214, 1, 4, 0, .core, [⟨31, 0, .rc, .any⟩]⟩,
  ⟨0x218, 1, 4, 0, .core, [⟨31, 0, .rc, .any⟩]⟩,
  ⟨0x21C, 1, 4, 0, .core, [⟨31, 0, .rc, .any⟩]⟩,
  ⟨0x80000, 16384, 4, 0, .core, [⟨31, 0, .ro, .any⟩]⟩]

/-- Register table of MSCH. -/
def tabMsch : List RegRow := [
  ⟨0x0, 1, 4, 0x800, .core, [⟨31, 0, .ro, .any⟩]⟩,
  ⟨0x4, 1, 4, 0, .core, [⟨3, 0, .rw, .any⟩]⟩,
  ⟨0x8, 1, 4, 0x14082202, .core, [⟨2, 0, .rw, .range 1 4⟩, ⟨9, 4, .rw, .any⟩, ⟨13, 12, .rw, .any⟩, ⟨19, 16, .rw, .any⟩, ⟨31, 24, .rw, .any⟩]⟩,
  ⟨0xC, 1, 4, 0x003201F4, .core, [⟨15, 0, .rw, .any⟩, ⟨31, 16, .rw, .range 1 1000⟩]⟩,
  ⟨0x10, 1, 4, 0, .core, [⟨31, 0, .rw, .any⟩]⟩,
  ⟨0x14, 1, 4, 0, .core, [⟨31, 0, .rw, .any⟩]⟩,
  ⟨0x18, 1, 4, 0x10, .core, [⟨31, 0, .rw, .pow2 16 4096⟩]⟩,
  ⟨0x1C, 1, 4, 0, .core, [⟨31, 0, .rw, .any⟩]⟩,
  ⟨0x20, 1, 4, 0, .core, [⟨31, 0, .ro, .any⟩]⟩,
  ⟨0x30, 1, 4, 0, .core, [⟨31, 0, .rw, .any⟩]⟩,
  ⟨0x34, 1, 4, 0, .core, [⟨31, 0, .rw, .any⟩]⟩,
  ⟨0x38, 1, 4, 0x10, .core, [⟨31, 0, .rw, .pow2 16 4096⟩]⟩,
  ⟨0x3C, 1, 4, 0, .core, [⟨31, 0, .ro, .any⟩]⟩,
  ⟨0x40, 1, 4, 0, .core, [⟨31, 0, .rw, .any⟩]⟩,
  ⟨0x44, 1, 4, 0, .core, [⟨1, 0, .w1c, .any⟩]⟩,
  ⟨0x50, 1, 4, 0, .core, [⟨31, 0, .rw, .any⟩]⟩,
  ⟨0x54, 1, 4, 0, .core, [⟨31, 0, .rw, .any⟩]⟩,
  ⟨0x58, 2, 4, 0, .core, [⟨31, 0, .rw, .any⟩]⟩,
  ⟨0x60, 1, 4, 0, .core, [⟨31, 0, .wo, .any⟩]⟩,
  ⟨0x80, 32, 4, 0, .core, [⟨15, 0, .rw, .any⟩]⟩,
  ⟨0x100, 1, 4, 0, .core, [⟨31, 0, .rc, .any⟩]⟩,
  ⟨0x104, 1, 4, 0, .core, [⟨31, 0, .rc, .any⟩]⟩,
  ⟨0x108, 1, 4, 0, .core, [⟨31, 0, .rc, .any⟩]⟩,
  ⟨0x10C, 1, 4, 0, .core, [⟨31, 0, .rc, .any⟩]⟩,
  ⟨0x110, 1, 4, 0, .core, [⟨31, 0, .rc, .any⟩]⟩,
  ⟨0x114, 1, 4, 0, .core, [⟨31, 0, .rc, .any⟩]⟩]

/-- Register table of XFER. -/
def tabXfer : List RegRow := [
  ⟨0x0, 1, 4, 0, .core, [⟨31, 0, .rw, .any⟩]⟩,
  ⟨0x4, 1, 4, 0, .core, [⟨31, 0, .rw, .any⟩]⟩,
  ⟨0x8, 1, 4, 0x10, .core, [⟨31, 0, .rw, .pow2 16 4096⟩]⟩,
  ⟨0xC, 1, 4, 0, .core, [⟨31, 0, .rw, .any⟩]⟩,
  ⟨0x10, 1, 4, 0, .core, [⟨31, 0, .ro, .any⟩]⟩,
  ⟨0x14, 1, 4, 0, .core, [⟨31, 0, .rw, .any⟩]⟩,
  ⟨0x18, 1, 4, 0, .core, [⟨31, 0, .rw, .any⟩]⟩,
  ⟨0x1C, 1, 4, 0x10, .core, [⟨31, 0, .rw, .pow2 16 4096⟩]⟩,
  ⟨0x20, 1, 4, 0, .core, [⟨31, 0, .ro, .any⟩]⟩,
  ⟨0x24, 1, 4, 0, .core, [⟨31, 0, .rw, .any⟩]⟩]

/-- Register table of BUF. -/
def tabBuf : List RegRow := [
  ⟨0x0, 1, 4, 0, .core, [⟨31, 0, .ro, .any⟩]⟩,
  ⟨0x4, 1, 4, 0x36, .cc, [⟨1, 0, .rw, .range 0 2⟩, ⟨2, 2, .rw, .any⟩, ⟨6, 4, .rw, .range 0 3⟩]⟩,
  ⟨0x8, 1, 4, 0x1001, .core, [⟨0, 0, .rw, .any⟩, ⟨15, 8, .rw, .range 1 255⟩]⟩,
  ⟨0x10, 1, 4, 0, .core, [⟨6, 0, .w1c, .any⟩]⟩,
  ⟨0x14, 1, 4, 0, .core, [⟨6, 0, .rw, .any⟩, ⟨9, 8, .rw, .any⟩]⟩,
  ⟨0x20, 1, 4, 0, .core, [⟨31, 0, .rc, .any⟩]⟩,
  ⟨0x24, 1, 4, 0, .core, [⟨31, 0, .rc, .any⟩]⟩,
  ⟨0x28, 1, 4, 0, .core, [⟨31, 0, .rc, .any⟩]⟩,
  ⟨0x2C, 1, 4, 0, .core, [⟨31, 0, .rc, .any⟩]⟩,
  ⟨0x40, 1, 4, 0, .core, [⟨31, 0, .ro, .any⟩]⟩,
  ⟨0x44, 1, 4, 0, .core, [⟨31, 0, .ro, .any⟩]⟩,
  ⟨0x48, 1, 4, 0, .core, [⟨31, 0, .ro, .any⟩]⟩,
  ⟨0x80, 1, 4, 0, .core, [⟨31, 0, .rw, .any⟩]⟩,
  ⟨0x84, 1, 4, 0, .core, [⟨31, 0, .rw, .any⟩]⟩,
  ⟨0x88, 1, 4, 0, .core, [⟨31, 0, .rw, .any⟩]⟩,
  ⟨0x8C, 1, 4, 0, .core, [⟨31, 0, .rw, .any⟩]⟩,
  ⟨0x90, 4, 4, 0, .core, [⟨31, 0, .rw, .any⟩]⟩,
  ⟨0xA0, 1, 4, 0, .core, [⟨31, 0, .wo, .any⟩]⟩,
  ⟨0xC0, 1, 4, 0x1801, .core, [⟨0, 0, .rw, .any⟩, ⟨15, 8, .rw, .range 1 168⟩]⟩,
  ⟨0xC4, 1, 4, 0, .core, [⟨31, 0, .ro, .any⟩]⟩,
  ⟨0x100, 1, 4, 0, .core, [⟨0, 0, .rwl, .any⟩, ⟨2, 1, .rwl, .range 0 2⟩, ⟨3, 3, .rwl, .any⟩]⟩,
  ⟨0x104, 1, 4, 0, .core, [⟨15, 0, .rwl, .any⟩]⟩,
  ⟨0x108, 1, 4, 0, .core, [⟨12, 0, .rwl, .any⟩, ⟨28, 16, .rwl, .any⟩]⟩,
  ⟨0x10C, 1, 4, 0, .core, [⟨31, 0, .ro, .any⟩]⟩,
  ⟨0x200, 1, 4, 0, .core, [⟨31, 0, .ro, .any⟩]⟩,
  ⟨0x204, 1, 4, 0x0FFF0000, .core, [⟨31, 0, .rw, .range 0 268369920⟩]⟩,
  ⟨0x208, 1, 4, 0, .core, [⟨31, 0, .rw, .any⟩]⟩,
  ⟨0x20C, 1, 4, 0, .core, [⟨31, 0, .rw, .any⟩]⟩,
  ⟨0x210, 1, 4, 0, .core, [⟨31, 0, .wo, .any⟩]⟩,
  ⟨0x214, 1, 4, 0, .core, [⟨31, 0, .wo, .any⟩]⟩,
  ⟨0x218, 1, 4, 0, .core, [⟨31, 0, .ro, .any⟩]⟩,
  ⟨0x220, 1, 4, 0, .core, [⟨16, 0, .rw, .any⟩]⟩,
  ⟨0x224, 1, 4, 0, .core, [⟨31, 0, .rw, .any⟩]⟩,
  ⟨0x228, 1, 4, 0, .core, [⟨0, 0, .rw, .any⟩]⟩,
  ⟨0x22C, 1, 4, 0, .core, [⟨31, 0, .ro, .any⟩]⟩,
  ⟨0x230, 1, 4, 0, .core, [⟨31, 0, .ro, .any⟩]⟩,
  ⟨0x400, 224, 4, 0, .core, [⟨31, 0, .w1s, .any⟩]⟩,
  ⟨0x780, 1, 4, 0, .core, [⟨31, 0, .wo, .any⟩]⟩]

/-- Register table of MAPC. -/
def tabMapc : List RegRow := [
  ⟨0x0, 1, 4, 0, .core, [⟨31, 0, .ro, .any⟩]⟩,
  ⟨0x4, 1, 4, 2, .core, [⟨1, 0, .rw, .any⟩]⟩,
  ⟨0x8, 1, 4, 0, .core, [⟨5, 0, .rwg, .any⟩]⟩,
  ⟨0xC, 1, 4, 0, .core, [⟨31, 0, .ro, .any⟩]⟩,
  ⟨0x10, 1, 4, 0, .core, [⟨31, 0, .rw, .any⟩]⟩,
  ⟨0x14, 1, 4, 0, .core, [⟨15, 0, .rw, .any⟩]⟩,
  ⟨0x18, 1, 4, 0, .core, [⟨31, 0, .rw, .any⟩]⟩,
  ⟨0x1C, 1, 4, 0, .core, [⟨31, 0, .wo, .any⟩]⟩,
  ⟨0x20, 1, 4, 0, .core, [⟨31, 0, .ro, .any⟩]⟩,
  ⟨0x30, 4, 8, 0, .core, [⟨31, 0, .rw, .any⟩]⟩,
  ⟨0x34, 4, 8, 0, .core, [⟨4, 0, .rw, .range 16 31⟩, ⟨31, 31, .rw, .any⟩]⟩,
  ⟨0x50, 1, 4, 0, .core, [⟨10, 0, .rw, .any⟩, ⟨14, 12, .rw, .any⟩, ⟨16, 16, .rw, .any⟩]⟩,
  ⟨0x54, 1, 4, 0, .core, [⟨31, 0, .ro, .any⟩]⟩,
  ⟨0x60, 1, 4, 0, .core, [⟨31, 0, .rc, .any⟩]⟩,
  ⟨0x64, 1, 4, 0, .core, [⟨31, 0, .rc, .any⟩]⟩,
  ⟨0x68, 1, 4, 0, .core, [⟨31, 0, .rc, .any⟩]⟩,
  ⟨0x6C, 1, 4, 0, .core, [⟨31, 0, .rc, .any⟩]⟩,
  ⟨0x70, 1, 4, 0, .core, [⟨31, 0, .rc, .any⟩]⟩,
  ⟨0x74, 1, 4, 0, .core, [⟨31, 0, .rc, .any⟩]⟩]

/-- Register table of SQZ. -/
def tabSqz : List RegRow := [
  ⟨0x0, 1, 4, 0, .core, [⟨31, 0, .ro, .any⟩]⟩,
  ⟨0x4, 1, 4, 0, .core, [⟨0, 0, .rw, .any⟩]⟩,
  ⟨0x10, 2, 4, 0, .core, [⟨31, 0, .w1c, .any⟩]⟩,
  ⟨0x20, 1, 4, 0, .core, [⟨31, 0, .rc, .any⟩]⟩,
  ⟨0x24, 1, 4, 0, .core, [⟨31, 0, .rc, .any⟩]⟩,
  ⟨0x28, 1, 4, 0, .core, [⟨31, 0, .rc, .any⟩]⟩,
  ⟨0x2C, 1, 4, 0, .core, [⟨31, 0, .rc, .any⟩]⟩,
  ⟨0x30, 1, 4, 0, .core, [⟨31, 0, .rc, .any⟩]⟩,
  ⟨0x34, 1, 4, 0, .core, [⟨31, 0, .rc, .any⟩]⟩,
  ⟨0x38, 1, 4, 0, .core, [⟨31, 0, .rc, .any⟩]⟩,
  ⟨0x3C, 1, 4, 0, .core, [⟨31, 0, .rc, .any⟩]⟩,
  ⟨0x100, 4, 4, 0x14, .core, [⟨3, 0, .rwg, .range 1 15⟩, ⟨4, 4, .rwg, .any⟩]⟩,
  ⟨0x1000, 64, 64, 0, .core, [⟨31, 0, .rw, .any⟩]⟩,
  ⟨0x1004, 64, 64, 0, .core, [⟨31, 0, .rw, .any⟩]⟩,
  ⟨0x1008, 64, 64, 0x10, .core, [⟨31, 0, .rw, .pow2 16 4096⟩]⟩,
  ⟨0x100C, 64, 64, 0, .core, [⟨31, 0, .rw, .any⟩]⟩,
  ⟨0x1010, 64, 64, 0, .core, [⟨31, 0, .ro, .any⟩]⟩,
  ⟨0x1014, 64, 64, 0, .core, [⟨31, 0, .rw, .any⟩]⟩,
  ⟨0x1018, 64, 64, 0, .core, [⟨31, 0, .rw, .any⟩]⟩,
  ⟨0x101C, 64, 64, 0x10, .core, [⟨31, 0, .rw, .pow2 16 4096⟩]⟩,
  ⟨0x1020, 64, 64, 0, .core, [⟨31, 0, .ro, .any⟩]⟩,
  ⟨0x1024, 64, 64, 0, .core, [⟨31, 0, .rw, .any⟩]⟩,
  ⟨0x1028, 64, 64, 0x10, .core, [⟨0, 0, .rw, .any⟩, ⟨2, 1, .rw, .any⟩, ⟨3, 3, .rw, .any⟩, ⟨8, 4, .rw, .range 1 16⟩]⟩,
  ⟨0x102C, 64, 64, 2, .core, [⟨31, 0, .ro, .any⟩]⟩]

/-- Register table of CRYP. -/
def tabCryp : List RegRow := [
  ⟨0x0, 1, 4, 0, .core, [⟨31, 0, .ro, .any⟩]⟩,
  ⟨0x10, 1, 4, 0, .core, [⟨11, 0, .rw, .any⟩, ⟨27, 16, .rw, .any⟩]⟩,
  ⟨0x14, 1, 4, 0, .core, [⟨31, 0, .wo, .any⟩]⟩,
  ⟨0x18, 1, 4, 0, .core, [⟨31, 0, .ro, .any⟩]⟩,
  ⟨0x1C, 1, 4, 0, .core, [⟨31, 0, .ro, .any⟩]⟩,
  ⟨0x20, 1, 4, 0, .core, [⟨31, 0, .ro, .any⟩]⟩,
  ⟨0x40, 18, 4, 0, .core, [⟨31, 0, .wo, .any⟩]⟩,
  ⟨0x100, 1, 4, 0, .core, [⟨8, 0, .w1c, .any⟩]⟩,
  ⟨0x104, 1, 4, 0, .core, [⟨8, 0, .rw, .any⟩]⟩,
  ⟨0x110, 1, 4, 0, .core, [⟨31, 0, .rc, .any⟩]⟩,
  ⟨0x114, 1, 4, 0, .core, [⟨31, 0, .rc, .any⟩]⟩,
  ⟨0x118, 1, 4, 0, .core, [⟨31, 0, .rc, .any⟩]⟩,
  ⟨0x11C, 1, 4, 0, .core, [⟨31, 0, .rc, .any⟩]⟩,
  ⟨0x200, 8, 64, 0, .core, [⟨31, 0, .rw, .any⟩]⟩,
  ⟨0x204, 8, 64, 0, .core, [⟨31, 0, .rw, .any⟩]⟩,
  ⟨0x208, 8, 64, 0x10, .core, [⟨31, 0, .rw, .pow2 16 4096⟩]⟩,
  ⟨0x20C, 8, 64, 0, .core, [⟨31, 0, .rw, .any⟩]⟩,
  ⟨0x210, 8, 64, 0, .core, [⟨31, 0, .ro, .any⟩]⟩,
  ⟨0x214, 8, 64, 0, .core, [⟨31, 0, .rw, .any⟩]⟩,
  ⟨0x218, 8, 64, 0, .core, [⟨31, 0, .rw, .any⟩]⟩,
  ⟨0x21C, 8, 64, 0x10, .core, [⟨31, 0, .rw, .pow2 16 4096⟩]⟩,
  ⟨0x220, 8, 64, 0, .core, [⟨31, 0, .ro, .any⟩]⟩,
  ⟨0x224, 8, 64, 0, .core, [⟨31, 0, .rw, .any⟩]⟩,
  ⟨0x228, 8, 64, 0, .core, [⟨0, 0, .rw, .any⟩, ⟨2, 1, .rw, .any⟩]⟩,
  ⟨0x22C, 8, 64, 2, .core, [⟨31, 0, .ro, .any⟩]⟩,
  ⟨0x400, 1, 4, 0, .core, [⟨31, 0, .ro, .any⟩]⟩,
  ⟨0x404, 1, 4, 0, .core, [⟨31, 0, .ro, .any⟩]⟩,
  ⟨0x408, 1, 4, 0, .core, [⟨31, 0, .wo, .any⟩]⟩,
  ⟨0x420, 1, 4, 0, .core, [⟨31, 0, .wo, .any⟩]⟩,
  ⟨0x424, 1, 4, 0, .core, [⟨31, 0, .ro, .any⟩]⟩,
  ⟨0x428, 10, 4, 0, .core, [⟨31, 0, .wo, .any⟩]⟩,
  ⟨0x450, 1, 4, 0, .core, [⟨31, 0, .rw, .any⟩]⟩,
  ⟨0x454, 1, 4, 0, .core, [⟨31, 0, .rw, .any⟩]⟩,
  ⟨0x458, 1, 4, 0, .core, [⟨31, 0, .rw, .any⟩]⟩,
  ⟨0x45C, 1, 4, 0, .core, [⟨31, 0, .rw, .any⟩]⟩]

/-- Register table of MBOX. -/
def tabMbox : List RegRow := [
  ⟨0x0, 16, 4, 0, .mbox, [⟨31, 0, .rw, .any⟩]⟩,
  ⟨0x40, 16, 4, 0, .mbox, [⟨31, 0, .ro, .any⟩]⟩,
  ⟨0x80, 1, 4, 0, .mbox, [⟨31, 0, .wo, .any⟩]⟩,
  ⟨0x84, 1, 4, 0, .mbox, [⟨31, 0, .ro, .any⟩]⟩,
  ⟨0x88, 1, 4, 0, .mbox, [⟨1, 0, .w1c, .any⟩]⟩,
  ⟨0x8C, 1, 4, 0x00320000, .mbox, [⟨0, 0, .rw, .any⟩, ⟨2, 1, .rw, .any⟩, ⟨23, 16, .rw, .range 1 255⟩]⟩,
  ⟨0x90, 1, 4, 0, .mbox, [⟨31, 0, .rc, .any⟩]⟩]

/-- Register table of MBOXG. -/
def tabMboxg : List RegRow := [
  ⟨0x0, 1, 4, 0, .core, [⟨31, 0, .ro, .any⟩]⟩,
  ⟨0x4, 1, 4, 0, .app, [⟨0, 0, .rw, .any⟩]⟩,
  ⟨0x100, 31, 4, 0, .core, [⟨31, 0, .ro, .any⟩]⟩]

/-- Register table of MGMT. -/
def tabMgmt : List RegRow := [
  ⟨0x0, 1, 4, 0, .path, [⟨31, 0, .wo, .any⟩]⟩,
  ⟨0x4, 1, 4, 0, .path, [⟨31, 0, .rw, .any⟩]⟩,
  ⟨0x8, 1, 4, 0, .path, [⟨31, 0, .rw, .any⟩]⟩,
  ⟨0xC, 1, 4, 0, .path, [⟨31, 0, .rw, .any⟩]⟩,
  ⟨0x10, 1, 4, 0, .path, [⟨15, 0, .rw, .any⟩]⟩,
  ⟨0x14, 1, 4, 0, .core, [⟨31, 0, .ro, .any⟩]⟩,
  ⟨0x18, 1, 4, 0, .core, [⟨31, 0, .ro, .any⟩]⟩,
  ⟨0x1C, 1, 4, 0, .core, [⟨31, 0, .ro, .any⟩]⟩,
  ⟨0x20, 1, 4, 0, .path, [⟨1, 0, .rw, .any⟩]⟩,
  ⟨0x24, 1, 4, 0, .path, [⟨31, 0, .wo, .any⟩]⟩,
  ⟨0x40, 1, 4, 0x1E00, .app, [⟨15, 8, .rw, .range 1 255⟩]⟩,
  ⟨0x44, 1, 4, 0, .app, [⟨31, 0, .wo, .any⟩]⟩,
  ⟨0x48, 1, 4, 0, .app, [⟨31, 0, .rw, .any⟩]⟩,
  ⟨0x4C, 1, 4, 0, .app, [⟨31, 0, .rw, .any⟩]⟩,
  ⟨0x50, 1, 4, 0, .app, [⟨31, 0, .wo, .any⟩]⟩,
  ⟨0x54, 1, 4, 0, .core, [⟨31, 0, .ro, .any⟩]⟩,
  ⟨0x1000, 1024, 4, 0, .path, [⟨31, 0, .rw, .any⟩]⟩,
  ⟨0x2000, 1, 4, 0, .core, [⟨31, 0, .ro, .any⟩]⟩,
  ⟨0x2004, 1, 4, 0x0005001D, .app, [⟨6, 0, .rw, .any⟩, ⟨9, 8, .rw, .any⟩, ⟨23, 16, .rw, .range 1 255⟩]⟩,
  ⟨0x2008, 1, 4, 0, .app, [⟨23, 0, .rw, .any⟩]⟩,
  ⟨0x200C, 1, 4, 0, .app, [⟨15, 0, .rw, .any⟩]⟩,
  ⟨0x2010, 1, 4, 0, .core, [⟨31, 0, .ro, .any⟩]⟩,
  ⟨0x2014, 1, 4, 0, .core, [⟨31, 0, .rc, .any⟩]⟩,
  ⟨0x2018, 1, 4, 0, .core, [⟨31, 0, .rc, .any⟩]⟩,
  ⟨0x2020, 1, 4, 0, .core, [⟨31, 0, .ro, .any⟩]⟩,
  ⟨0x2024, 1, 4, 0, .app, [⟨31, 0, .wo, .any⟩]⟩,
  ⟨0x3000, 4096, 4, 0, .app, [⟨31, 0, .rw, .any⟩]⟩]

/-- Register table of FLOW. -/
def tabFlow : List RegRow := [
  ⟨0x0, 1, 4, 2, .core, [⟨31, 0, .ro, .any⟩]⟩,
  ⟨0x4, 1, 4, 0, .core, [⟨0, 0, .rw, .any⟩]⟩,
  ⟨0x8, 1, 4, 0, .core, [⟨0, 0, .rw, .any⟩]⟩,
  ⟨0xC, 1, 4, 0, .core, [⟨31, 0, .rw, .any⟩]⟩,
  ⟨0x10, 1, 4, 0, .core, [⟨31, 0, .wo, .any⟩]⟩,
  ⟨0x14, 1, 4, 0, .core, [⟨31, 0, .ro, .any⟩]⟩,
  ⟨0x18, 1, 4, 0, .core, [⟨31, 0, .ro, .any⟩]⟩,
  ⟨0x1C, 1, 4, 0, .core, [⟨31, 0, .ro, .any⟩]⟩,
  ⟨0x30, 1, 4, 0, .core, [⟨31, 0, .rc, .any⟩]⟩,
  ⟨0x34, 1, 4, 0, .core, [⟨31, 0, .rc, .any⟩]⟩,
  ⟨0x38, 1, 4, 0, .core, [⟨31, 0, .rc, .any⟩]⟩,
  ⟨0x3C, 1, 4, 0, .core, [⟨31, 0, .rc, .any⟩]⟩,
  ⟨0x800, 8, 4, 0, .core, [⟨31, 0, .ro, .any⟩]⟩,
  ⟨0x1000, 64, 8, 0, .core, [⟨29, 0, .rw, .any⟩]⟩,
  ⟨0x1004, 64, 8, 0, .core, [⟨9, 0, .rw, .any⟩, ⟨22, 16, .rw, .any⟩]⟩,
  ⟨0x2000, 1024, 4, 0, .core, [⟨22, 0, .rw, .any⟩]⟩,
  ⟨0x40000, 65536, 4, 0, .core, [⟨31, 0, .ro, .any⟩]⟩]

/-- Register table of PMU. -/
def tabPmu : List RegRow := [
  ⟨0x0, 1, 4, 0, .core, [⟨31, 0, .ro, .any⟩]⟩,
  ⟨0x4, 1, 4, 0, .core, [⟨2, 0, .rwg, .any⟩, ⟨5, 4, .rwg, .any⟩]⟩,
  ⟨0x8, 1, 4, 0, .core, [⟨31, 0, .wo, .any⟩]⟩,
  ⟨0x10, 1, 4, 0, .core, [⟨31, 0, .ro, .any⟩]⟩,
  ⟨0x14, 1, 4, 0, .core, [⟨31, 0, .ro, .any⟩]⟩,
  ⟨0x20, 1, 4, 0, .core, [⟨31, 0, .rwg, .any⟩]⟩,
  ⟨0x24, 1, 4, 0, .core, [⟨31, 0, .rwg, .any⟩]⟩,
  ⟨0x28, 1, 4, 0x10, .core, [⟨12, 0, .rwg, .pow2 4 4096⟩]⟩,
  ⟨0x2C, 1, 4, 0x3E8, .core, [⟨15, 0, .rwg, .range 1 60000⟩]⟩,
  ⟨0x30, 1, 4, 0, .core, [⟨31, 0, .ro, .any⟩]⟩,
  ⟨0x40, 4, 4, 0, .core, [⟨31, 0, .w1c, .any⟩]⟩,
  ⟨0x400, 128, 4, 0, .core, [⟨9, 0, .rwg, .any⟩, ⟨10, 10, .rwg, .any⟩, ⟨11, 11, .rwg, .any⟩, ⟨12, 12, .rwg, .any⟩]⟩,
  ⟨0x1000, 128, 8, 0, .core, [⟨31, 0, .rwg, .any⟩]⟩,
  ⟨0x1004, 128, 8, 0, .core, [⟨15, 0, .rwg, .any⟩]⟩,
  ⟨0x2000, 128, 8, 0, .core, [⟨31, 0, .ro, .any⟩]⟩,
  ⟨0x2004, 128, 8, 0, .core, [⟨31, 0, .ro, .any⟩]⟩]

/-- Register table of MTR. -/
def tabMtr : List RegRow := [
  ⟨0x0, 1, 4, 0, .core, [⟨31, 0, .ro, .any⟩]⟩,
  ⟨0x4, 1, 4, 0, .core, [⟨0, 0, .rw, .any⟩]⟩,
  ⟨0x8, 1, 4, 0, .core, [⟨31, 0, .rw, .any⟩]⟩,
  ⟨0xC, 1, 4, 0, .core, [⟨31, 0, .rw, .any⟩]⟩,
  ⟨0x10, 1, 4, 0, .core, [⟨31, 0, .rw, .any⟩]⟩,
  ⟨0x14, 1, 4, 0, .core, [⟨31, 0, .rw, .any⟩]⟩,
  ⟨0x18, 1, 4, 0, .core, [⟨31, 0, .ro, .any⟩]⟩,
  ⟨0x1C, 1, 4, 0, .core, [⟨31, 0, .ro, .any⟩]⟩,
  ⟨0x20, 1, 4, 0, .core, [⟨31, 0, .ro, .any⟩]⟩,
  ⟨0x30, 1, 4, 0, .core, [⟨14, 0, .rw, .any⟩]⟩,
  ⟨0x34, 1, 4, 0, .core, [⟨31, 0, .wo, .any⟩]⟩,
  ⟨0x40, 1, 4, 0, .core, [⟨14, 0, .rw, .any⟩]⟩,
  ⟨0x44, 1, 4, 0, .core, [⟨31, 0, .ro, .any⟩]⟩,
  ⟨0x48, 1, 4, 0, .core, [⟨31, 0, .ro, .any⟩]⟩,
  ⟨0x50, 1, 4, 0, .core, [⟨31, 0, .rc, .any⟩]⟩,
  ⟨0x100, 1, 4, 0, .core, [⟨11, 0, .rw, .any⟩]⟩,
  ⟨0x104, 6, 4, 0, .core, [⟨31, 0, .rw, .any⟩]⟩,
  ⟨0x11C, 1, 4, 0, .core, [⟨31, 0, .ro, .any⟩]⟩]

/-- Register table of BV. -/
def tabBv : List RegRow := [
  ⟨0x0, 1, 4, 0, .core, [⟨0, 0, .rw, .any⟩]⟩,
  ⟨0x4, 1, 4, 0x0A0040FF, .core, [⟨7, 0, .rw, .any⟩, ⟨16, 8, .rw, .range 1 256⟩, ⟨31, 24, .rw, .range 1 255⟩]⟩,
  ⟨0x8, 1, 4, 0, .core, [⟨23, 0, .rw, .any⟩]⟩,
  ⟨0xC, 1, 4, 0xFFFFFF, .core, [⟨23, 0, .rw, .any⟩]⟩,
  ⟨0x10, 1, 4, 0, .core, [⟨11, 0, .rw, .any⟩]⟩,
  ⟨0x14, 1, 4, 0, .core, [⟨31, 0, .ro, .any⟩]⟩,
  ⟨0x18, 1, 4, 0, .core, [⟨31, 0, .ro, .any⟩]⟩,
  ⟨0x1C, 1, 4, 0, .core, [⟨31, 0, .ro, .any⟩]⟩,
  ⟨0x20, 1, 4, 0, .core, [⟨31, 0, .ro, .any⟩]⟩,
  ⟨0x24, 1, 4, 0, .core, [⟨31, 0, .rw, .any⟩]⟩,
  ⟨0x28, 1, 4, 0, .core, [⟨31, 0, .rw, .any⟩]⟩,
  ⟨0x2C, 1, 4, 0x10, .core, [⟨31, 0, .rw, .pow2 16 4096⟩]⟩,
  ⟨0x30, 1, 4, 0, .core, [⟨31, 0, .ro, .any⟩]⟩,
  ⟨0x34, 1, 4, 0, .core, [⟨31, 0, .rw, .any⟩]⟩,
  ⟨0x40, 1, 4, 0, .core, [⟨31, 0, .rc, .any⟩]⟩,
  ⟨0x44, 1, 4, 0, .core, [⟨31, 0, .rc, .any⟩]⟩,
  ⟨0x48, 1, 4, 0, .core, [⟨31, 0, .rc, .any⟩]⟩]

/-- Register table of LCS. -/
def tabLcs : List RegRow := [
  ⟨0x0, 1, 4, 0, .core, [⟨31, 0, .ro, .any⟩]⟩,
  ⟨0x4, 1, 4, 0xA1, .core, [⟨31, 0, .ro, .any⟩]⟩,
  ⟨0x10, 4, 4, 0, .core, [⟨31, 0, .rwl, .any⟩]⟩,
  ⟨0x40, 48, 4, 0, .core, [⟨31, 0, .rwl, .any⟩]⟩,
  ⟨0x100, 1, 4, 3, .core, [⟨31, 0, .ro, .any⟩]⟩,
  ⟨0x104, 1, 4, 0, .core, [⟨31, 0, .ro, .any⟩]⟩,
  ⟨0x108, 1, 4, 0, .core, [⟨31, 0, .ro, .any⟩]⟩,
  ⟨0x110, 1, 4, 0, .core, [⟨31, 0, .wo, .any⟩]⟩,
  ⟨0x114, 1, 4, 0, .core, [⟨31, 0, .ro, .any⟩]⟩,
  ⟨0x118, 1, 4, 0, .core, [⟨31, 0, .rc, .any⟩]⟩]

/-- Register table of ROPE. -/
def tabRope : List RegRow := [
  ⟨0x0, 1, 4, 0, .core, [⟨31, 0, .ro, .any⟩]⟩,
  ⟨0x4, 1, 4, 0, .cc, [⟨2, 0, .rw, .any⟩]⟩,
  ⟨0x8, 1, 4, 0, .cc, [⟨31, 0, .wo, .any⟩]⟩,
  ⟨0xC, 1, 4, 0, .cc, [⟨31, 0, .wo, .any⟩]⟩,
  ⟨0x10, 4, 4, 0, .core, [⟨31, 0, .ro, .any⟩]⟩,
  ⟨0x20, 1, 4, 0, .core, [⟨31, 0, .ro, .any⟩]⟩,
  ⟨0x24, 1, 4, 0, .cc, [⟨4, 0, .rw, .any⟩]⟩,
  ⟨0x28, 1, 4, 0, .core, [⟨5, 0, .w1c, .any⟩]⟩,
  ⟨0x2C, 1, 4, 0, .core, [⟨5, 0, .rw, .any⟩]⟩,
  ⟨0x30, 1, 4, 0, .core, [⟨31, 0, .rc, .any⟩]⟩,
  ⟨0x34, 1, 4, 0, .core, [⟨31, 0, .rc, .any⟩]⟩,
  ⟨0x38, 1, 4, 0, .core, [⟨31, 0, .rc, .any⟩]⟩,
  ⟨0x3C, 1, 4, 0, .core, [⟨31, 0, .rc, .any⟩]⟩,
  ⟨0x40, 1, 4, 0, .core, [⟨31, 0, .rw, .any⟩]⟩,
  ⟨0x44, 1, 4, 0, .core, [⟨31, 0, .rw, .any⟩]⟩,
  ⟨0x48, 1, 4, 0, .core, [⟨31, 0, .rw, .any⟩]⟩,
  ⟨0x50, 4, 4, 0, .core, [⟨31, 0, .wo, .any⟩]⟩,
  ⟨0x60, 4, 4, 0, .core, [⟨31, 0, .ro, .any⟩]⟩,
  ⟨0x70, 1, 4, 0, .core, [⟨31, 0, .wo, .any⟩]⟩,
  ⟨0x74, 1, 4, 0, .core, [⟨4, 0, .ro, .any⟩, ⟨12, 8, .ro, .any⟩, ⟨17, 16, .rw, .any⟩]⟩]

/-- Register table of ROPEM. -/
def tabRopem : List RegRow := [
  ⟨0x0, 1, 4, 0, .core, [⟨31, 0, .rw, .any⟩]⟩,
  ⟨0x4, 1, 4, 0, .core, [⟨31, 0, .rw, .any⟩]⟩,
  ⟨0x8, 1, 4, 0x10, .core, [⟨31, 0, .rw, .pow2 16 4096⟩]⟩,
  ⟨0xC, 1, 4, 0, .core, [⟨31, 0, .rw, .any⟩]⟩,
  ⟨0x10, 1, 4, 0, .core, [⟨31, 0, .ro, .any⟩]⟩,
  ⟨0x14, 1, 4, 0, .core, [⟨31, 0, .rw, .any⟩]⟩,
  ⟨0x18, 1, 4, 0, .core, [⟨31, 0, .rw, .any⟩]⟩,
  ⟨0x1C, 1, 4, 0x10, .core, [⟨31, 0, .rw, .pow2 16 4096⟩]⟩,
  ⟨0x20, 1, 4, 0, .core, [⟨31, 0, .ro, .any⟩]⟩,
  ⟨0x24, 1, 4, 0, .core, [⟨31, 0, .rw, .any⟩]⟩]

/-- The table of a block. -/
def Blk.table : Blk → List RegRow
  | .passh => tabPassh
  | .passm => tabPassm
  | .sump => tabSump
  | .pwr => tabPwr
  | .atb => tabAtb
  | .chan => tabChan
  | .loop => tabLoop
  | .le => tabLe
  | .act => tabAct
  | .spin => tabSpin
  | .qeng => tabQeng
  | .msch => tabMsch
  | .xfer => tabXfer
  | .buf => tabBuf
  | .mapc => tabMapc
  | .sqz => tabSqz
  | .cryp => tabCryp
  | .mbox => tabMbox
  | .mboxg => tabMboxg
  | .mgmt => tabMgmt
  | .flow => tabFlow
  | .pmu => tabPmu
  | .mtr => tabMtr
  | .bv => tabBv
  | .lcs => tabLcs
  | .rope => tabRope
  | .ropem => tabRopem
/-- What an internal address names (R528 to R534). -/
inductive Place where
  /-- offset `off` of block `b`, instance `n` -/
  | block (b : Blk) (n off : Nat)
  /-- inside a listed block that has no registers there (MAON, R532; unlisted offsets, R11) -/
  | empty
  | bootRom
  | ccSram
  | sram
  | dram
  /-- in no row of R528, or in the unlisted part of the M-die window (R529) -/
  | hole
deriving DecidableEq, Repr

/-- Place of an offset of the M-die window (R530, R531). -/
def placeM (o : Nat) : Place :=
  if o < 0x100000 then .empty
  else if o < 0x200000 then .block .spin 0 (o - 0x100000)
  else if o < 0x600000 then
    let n := (o - 0x200000) / 0x100000
    let p := o % 0x100000
    if p < 0x40000 then .block .chan n p
    else if p < 0x80000 then .block .atb n (p - 0x40000)
    else if p < 0xC0000 then .block .loop n (p - 0x80000)
    else .block .act n (p - 0xC0000)
  else if o < 0x700000 then .block .le 0 (o - 0x600000)
  else if o < 0x800000 then .block .passm 0 (o - 0x700000)
  else .hole

/-- Place of an internal address (R528, R533). -/
def placeOf (a : Nat) : Place :=
  if a < 0x40000 then .bootRom
  else if a < 0x10000000 then .hole
  else if a < 0x10080000 then .ccSram
  else if a < 0x20000000 then .hole
  else if a < 0x20400000 then .sram
  else if a < 0x100000000 then .hole
  else if a < 0x100E00000 then
    let o := a % 0x100000
    match (a - 0x100000000) / 0x100000 with
    | 0 => .block .qeng 0 o
    | 1 =>
      if o < 0x80000 then .block .buf 0 o
      else if o < 0x84000 then .block .msch ((o - 0x80000) / 0x1000) (o % 0x1000)
      else if o < 0x84100 then .block .xfer ((o - 0x84000) / 0x40) (o % 0x40)
      else .empty
    | 2 => .block .mapc 0 o
    | 3 => .block .sqz 0 o
    | 4 => .block .cryp 0 o
    | 5 => if o < 0x1000 then .block .mbox (o / 0x100) (o % 0x100) else .block .mboxg 0 (o - 0x1000)
    | 6 => .block .sump 0 o
    | 7 => .block .flow 0 o
    | 8 =>
      if o < 0x80000 then .block .pmu 0 o
      else if o < 0x90000 then .block .mtr 0 (o - 0x80000)
      else if o < 0x90400 then .block .bv ((o - 0x90000) / 0x100) (o % 0x100)
      else .empty
    | 9 => .block .pwr 0 o
    | 10 => .block .lcs 0 o
    | 11 => .block .mgmt 0 o
    | 12 =>
      if o < 0x100 then .block .rope 0 o
      else if o < 0x200 then .block .ropem ((o - 0x100) / 0x40) (o % 0x40)
      else .empty
    | _ => .block .passh 0 o
  else if a < 0x101000000 then .hole
  else if a < 0x102000000 then placeM (a - 0x101000000)
  else if a < 0x400000000 then .hole
  else if a < 0x600000000 then .dram
  else .hole

/-- The row of a table that holds an offset, with the index inside the row. -/
def findRow : List RegRow → Nat → Option (RegRow × Nat)
  | [], _ => none
  | r :: rs, off =>
    if r.off ≤ off ∧ off < r.off + r.stride * r.count ∧ (off - r.off) % r.stride = 0
    then some (r, (off - r.off) / r.stride)
    else findRow rs off

/-- A register of the map: block, instance, row and index (none: unassigned, R11). -/
def regAt (a : Nat) : Option (Blk × Nat × RegRow × Nat) :=
  match placeOf a with
  | .block b n off => (findRow b.table off).map (fun p => (b, n, p.1, p.2))
  | _ => none

/-- REACT, ERR, ESC_REACT, ESC_CNT and ESC_WIN of kind `k` (R396). -/
def kindDefault (k : Nat) : Nat × Nat × Nat × Nat × Nat :=
  match k with
  | 0x01 => (0, 0, 1, 64, 1000)
  | 0x02 => (1, 1, 0, 0, 0)
  | 0x03 => (1, 0, 0, 0, 0)
  | 0x04 => (1, 0, 0, 0, 0)
  | 0x05 => (2, 1, 3, 3, 10000)
  | 0x06 => (1, 0, 0, 0, 0)
  | 0x09 => (4, 1, 0, 0, 0)
  | 0x0A => (1, 1, 2, 4, 1000)
  | 0x0D => (4, 1, 0, 0, 0)
  | 0x0E => (1, 1, 0, 0, 0)
  | 0x0F => (1, 0, 3, 8, 1000)
  | 0x10 => (1, 1, 0, 0, 0)
  | 0x11 => (0, 0, 1, 16, 1000)
  | 0x12 => (1, 0, 0, 0, 0)
  | 0x13 => (1, 1, 0, 0, 0)
  | 0x14 => (4, 1, 0, 0, 0)
  | 0x15 => (1, 1, 0, 0, 0)
  | 0x17 => (1, 1, 0, 0, 0)
  | 0x18 => (1, 0, 3, 3, 1000)
  | 0x19 => (4, 1, 0, 0, 0)
  | _ => (0, 0, 0, 0, 0)

/-- Reset value of SUMP_KIND_CFGk: FWD 1 and the defaults of R396; kinds that are not used read 0. -/
def kindReset (k : Nat) : Nat :=
  if 1 ≤ k ∧ k ≤ 25 then
    let d := kindDefault k
    d.1 + 8 * d.2.1 + 16 + 32 * d.2.2.1 + 256 * d.2.2.2.1 + 65536 * d.2.2.2.2
  else 0

/-- Reset value of a register (R14): what a register that `regs` does not list holds. -/
def resetOf (a : Nat) : Word :=
  match regAt a with
  | none => 0#32
  | some (.sump, _, r, i) => BitVec.ofNat 32 (if r.off = 0x100 then kindReset i else r.reset)
  | some (.pwr, _, r, i) =>
    BitVec.ofNat 32 (if r.off = 0x100 then (if i = 0 ∨ i = 4 ∨ i = 14 then 9 else 0) else r.reset)
  | some (.chan, _, r, i) => BitVec.ofNat 32 (if r.off = 0x1000 ∧ i = 0 then 1 else r.reset)
  | some (_, _, r, _) => BitVec.ofNat 32 r.reset

/-- The power domain that holds an address (R25, R528): registers in AON or presented from MAON by name. -/
def domainOf (a : Nat) : Option Nat :=
  match placeOf a with
  | .block b n off =>
    match b with
    | .passh => some 12
    | .passm => some 14
    | .sump => some 0
    | .pwr => some 0
    | .atb => some (16 + n)
    | .chan => some (16 + n)
    | .loop => some (16 + n)
    | .act => some (16 + n)
    | .le => some 14
    | .spin => some 15
    | .qeng => some 3
    | .msch => some 7
    | .xfer => some 7
    | .buf => some (if 0x200 ≤ off ∧ off < 0x400 ∧ off ≠ 0x210 ∧ off ≠ 0x214 then 0 else 7)
    | .mapc => some 8
    | .sqz => some 9
    | .cryp => some 10
    | .mbox => some 4
    | .mboxg => some 4
    | .mgmt => some 0
    | .flow => some (if 0x800 ≤ off ∧ off < 0x820 then 0 else 11)
    | .pmu => some 11
    | .mtr => some 11
    | .bv => some 11
    | .lcs => some 0
    | .rope => some (if off = 0x20 ∨ off = 0x24 then 14 else 13)
    | .ropem => some 13
  | .bootRom => some 4
  | .ccSram => some 4
  | .sram => some 5
  | .dram => some 7
  | .empty => some 0
  | .hole => none

/-- Whether an address lies in the M-die window (R530). -/
def inMWindow (a : Nat) : Bool := 0x101000000 ≤ a && a < 0x102000000

end Sys2Proof.Machine
end

