-- ==== Sys2Proof/Machine/State.lean ====
section
/-! DEFINITION. The state of the part: every register the spec names (one register file under the internal address map),
every memory, and every piece of internal state the spec gives a unit; the closed Fault and Refusal types; the state after
power-on reset; the queue of waiting commands. Plain data throughout. -/

namespace Sys2Proof.Machine

/-- Why a step stops with a fault. -/
inductive Fault where
  /-- A core's access to an address in no row of the map (R529): the spec ends it with a precise access fault in the core,
  whose internals the part's registers do not show. Raised by REGISTER_WRITE, REGISTER_READ_CLEAR, LO_READ and
  UNALIGNED_ACCESS. Safe: the model stops where the core takes its trap. -/
  | access (addr : Nat)
deriving DecidableEq, Repr

/-- Why a step is refused. -/
inductive Refusal where
  /-- The command has no meaning in the model yet; raised by the arms of `exec` only. Safe: nothing is claimed. -/
  | notModelled (mnemonic : String)
deriving DecidableEq, Repr

/-- Who takes an interrupt. -/
inductive IrqTarget where
  | cc
  | app (core : Fin 4)
  | mgmt
deriving DecidableEq, Repr

/-- What raised an interrupt that no status register holds. -/
inductive IrqCause where
  /-- the reaction INT or above, or the interrupt of the safe state (R394, R399) -/
  | sump
  /-- arrival of section n (R165) -/
  | arrival (n : Fin 4)
  /-- counter overflow (R424) -/
  | pmuOverflow (k : Nat)
  /-- completion or notice on a mailbox channel (R359, R370) -/
  | mailbox (ch : Fin 16)
  /-- precise access fault of the core: a read of buffer memory met the error indication (R273) -/
  | access (addr : Nat)
  /-- a ring or a unit named by its block (where the chapter gives an interrupt without a status bit) -/
  | unit (src : Nat)
deriving DecidableEq, Repr

/-- One interrupt raised. -/
structure Irq where
  target : IrqTarget
  cause : IrqCause
deriving DecidableEq, Repr

/-- What the part sends to a host (R222, R225, R227, R249). -/
inductive HostTlp where
  /-- bytes written to host memory at an address through a port, with the EP bit -/
  | write (port : Port) (addr : Nat) (bytes : List Byte) (ep : Bool)
  /-- data and metadata of logical block `block` of the command in a slot, moved to the host buffers that the command's PRP or
  SGL entries name (host memory is outside the model: log 18), with the EP bit -/
  | data (port : Port) (slot block : Nat) (bytes : List Byte) (ep : Bool)
  /-- a read request of host memory -/
  | read (port : Port) (addr len : Nat)
  /-- an MSI-X message of a vector -/
  | msix (port : Port) (vector : Nat)
deriving DecidableEq, Repr

/-- A fault message as its source holds it, with its merge count (R390, R391); `inj`: injected (R409). -/
structure HeldMsg where
  src : Nat
  kind : Nat
  addr : Nat
  merge : Nat := 0
  inj : Bool := false
deriving DecidableEq, Repr

/-- A log entry (R407). -/
structure LogEntry where
  src : Nat
  kind : Nat
  addr : Nat
  gtc : Nat
  react : Nat
  merge : Nat
  inj : Bool
  esc : Bool
deriving DecidableEq, Repr

/-- An escalation window of a (SOURCE, KIND) pair (R398). -/
structure EscWindow where
  src : Nat
  kind : Nat
  openedAt : Nat
  count : Nat
deriving DecidableEq, Repr

/-- Internal state of Sump (R390 to R410). -/
structure Sump where
  /-- messages held by their sources, oldest first (R391) -/
  held : List HeldMsg := []
  /-- the log, oldest first, at most 256 entries unread by the slower cursor (R407) -/
  log : List LogEntry := []
  /-- entries of `log` the Control Core's cursor has passed -/
  curCc : Nat := 0
  /-- entries of `log` the application cores' cursor has passed -/
  curApp : Nat := 0
  /-- the entry latched for each reader class by SUMP_MSG_HEAD (R407) -/
  latchCc : Option LogEntry := none
  latchApp : Option LogEntry := none
  esc : List EscWindow := []
  /-- words of the second configuration copy that differ from the first: (address, value) (R406) -/
  cfgDiff : List (Nat × Word) := []
  /-- the die safe-request line (R399) -/
  safeLine : Bool := false
  /-- the die alert line from MAON (R399, R207) -/
  alertLine : Bool := false
  /-- a message with ERR 1 was accepted since the last ERR_CLR (R408) -/
  errCause : Bool := false
  /-- a CHIP_RESET waits for every section PARKED (R401), ordered by Sump -/
  chipReset : Bool := false
  /-- a chip reset ordered in software waits (R441) -/
  chipResetSw : Bool := false
  /-- a chip reset has run and ERR_CLR has not been written since (R401) -/
  chipErr : Bool := false
  /-- LOCKSTEP, or the watchdog, waits to reset CCORE (R402, R442) -/
  ccoreReset : Bool := false
  /-- hottest junction, in half degrees, as last sensed (R396, R524) -/
  junction : Int := 0
  /-- OVERTEMP has been sent for WARN, and for 125 °C; armed again once the junction is below (R396, R524; log 88) -/
  warnSent : Bool := false
  hotSent : Bool := false
deriving DecidableEq, Repr

/-- MAON: the hardware safe-state path on the M-die (R25, R34, R399). -/
structure Maon where
  /-- MAON's own safe-state decision stands -/
  safe : Bool := false
  /-- SAFE_REQ_N asserted (R399, R506) -/
  safeReq : Bool := false
  /-- time of the power-loss decision while the sequence of R207 runs -/
  powerLossAt : Option Nat := none
  /-- copies of SP_VBUS_TH1 and SP_PL_CFG (R210) -/
  th1 : Word := 0x27D83840#32
  plCfg : Word := 0x84B02AF8#32
  /-- messages of M-die sources that MAON holds while Passage is down, at most 64 (R391): (SOURCE, KIND) -/
  holds : List (Nat × Nat) := []
deriving DecidableEq, Repr

/-- A register write on its way to the M-die (R31). -/
structure PostedWrite where
  ini : Initiator
  addr : Nat
  data : Word
deriving DecidableEq, Repr

/-- A split read that waits for its response (R31): the bytes it asked for, when, the posted writes of its initiator that are still
ahead of it, and the register's value once they have taken effect. -/
structure SplitRead where
  ini : Initiator
  addr : Nat
  nbytes : Nat
  at_ : Nat
  behind : Nat
  val : Option Word
deriving DecidableEq, Repr

/-- An event entry on its way to an ATB (R54, R30). -/
structure EventInFlight where
  ini : Initiator
  sec : Fin 4
  w0 : Word
  w1 : Word
  w2 : Word
  w3 : Word
deriving DecidableEq, Repr

/-- One end of Passage or Rope: corrected flits towards the next CE message, consecutive replays of one flit (R28, R29). -/
structure LinkEnd where
  ceTotal : Nat := 0
  replays : Nat := 0
deriving DecidableEq, Repr

/-- Passage between the dies (R28 to R36, R538). -/
structure Passage where
  posted : List PostedWrite := []
  splits : List SplitRead := []
  events : List EventInFlight := []
  /-- time of the link-down that stands, once the link has been up -/
  downSince : Option Nat := none
  /-- the link goes down as planned because PASSH powers down (R434) -/
  planned : Bool := false
  /-- trainings of the link so far (R258, R538) -/
  ups : Nat := 0
  endH : LinkEnd := {}
  endM : LinkEnd := {}
deriving DecidableEq, Repr

/-- A fill in progress (R277): first window offset, words left to write, their syndrome and pattern. -/
structure FillRun where
  first : Nat
  words : Nat
  poison : Bool
  pat : Nat
deriving DecidableEq, Repr

/-- A dump in progress (R284, R285): marked entries taken at the start with their COUNT, Safe Store address of the area,
SEQ, and the start record. -/
structure DumpRun where
  entries : List (Nat × Nat)
  base : Nat
  seq : Nat
  startRec : List Byte
deriving DecidableEq, Repr

/-- Internal state of BUF (R265 to R292). -/
structure Buf where
  /-- waiting CE write-backs of the merge buffer: (word, corrected data) (R274) -/
  ceQ : List (Nat × Nat) := []
  /-- CEs towards the next CE message (R274) -/
  ceRun : Nat := 0
  fill : Option FillRun := none
  /-- next word the scrub engine reads -/
  scrubPos : Nat := 0
  /-- marked entries with the COUNT read for each (R283), ascending -/
  marks : List (Nat × Nat) := []
  /-- a dump has started since EN was last written 0 (R284) -/
  dumpStarted : Bool := false
  dump : Option DumpRun := none
  /-- a dump is ordered by power loss or TEST and has not started -/
  dumpDue : Option Nat := none
  /-- last result of BUF_DT_RES per initiator (R283) -/
  dtRes : List (Initiator × Nat) := []
deriving DecidableEq, Repr

/-- A Safe Store port's command in progress (R443, R453). -/
structure SsRun where
  op : Nat
  addr : Nat
  mem : Nat
  len : Nat
deriving DecidableEq, Repr

/-- Internal state of PWR (R431 to R453). -/
structure Pwr where
  /-- domains whose state is latched into retention (R437) -/
  retained : Vector Bool 20 := Vector.replicate 20 false
  /-- Control Core watchdog: time of the last kick and TMO in force (R442) -/
  wdogAt : Nat := 0
  wdogTmo : Nat := 0
  /-- management-core watchdog: time of the last kick and TMO in force (R442) -/
  mwdogAt : Nat := 0
  mwdogTmo : Nat := 0
  ss : Vector (Option SsRun) 3 := Vector.replicate 3 none
  /-- power-on reset is asserted (R439) -/
  por : Bool := true
  /-- time of the deassertion of power-on reset -/
  porEnd : Nat := 0
  /-- the boot ROM runs on the Control Core (R447 step 3) -/
  rom : Bool := false
  /-- the management core runs (R447 step 2) -/
  mgmtUp : Bool := false
  /-- VERSION of a Wounser image, and whether a drive-firmware image, that IMG_COMMIT installed through the window (R448) -/
  winWounser : Option Nat := none
  winFw : Bool := false
  /-- application cores released from reset -/
  appRun : Vector Bool 4 := Vector.replicate 4 false
  /-- the JTAG instruction loaded (R465, R509); IDCODE when nothing has been loaded (log 11) -/
  jtag : JtagInstr := .idcode
  /-- Chimney serves nothing until the next power-on reset: the strap chose I3C at a 3.3 V VDDIO2 (R522) -/
  chmOff : Bool := false
deriving DecidableEq, Repr

/-- One entry of an ATB's event lists (R55): its words, the list order being load order. -/
structure Event where
  w0 : Word
  w1 : Word
  w2 : Word
  w3 : Word
  /-- accepted inside the lead (R57) -/
  late : Bool := false
  /-- where its completion record goes (R63, R243) -/
  dest : CplDest := .data
  /-- GTC at which it was accepted (R372) -/
  at_ : Nat := 0
deriving DecidableEq, Repr

/-- A completion record waiting in a hold (R62, R63). -/
structure CplRec where
  w0 : Word
  w1 : Word
  w2 : Word
  w3 : Word
deriving DecidableEq, Repr

/-- A wedge sync taken: GTC copy and running wedge number (R47). -/
structure SyncRec where
  gtc : Nat
  idx : Nat
deriving DecidableEq, Repr

/-- An Angle Timebase beside its registers (R44 to R69). -/
structure Atb where
  motion : List Event := []
  data : List Event := []
  /-- staging words 0 to 2 per initiator: Control Core, application cores 0 to 3 (R54) -/
  staging : Vector (Vector Word 3) 5 := Vector.replicate 5 (Vector.replicate 3 0#32)
  holdData : List CplRec := []
  holdMotion : List CplRec := []
  holdSched : List CplRec := []
  /-- syncs taken within the last 96 wedge intervals, newest first (R47) -/
  syncs : List SyncRec := []
  /-- wedge syncs since the ATB last left MASTER, saturating at 96 (R47) -/
  syncCount : Nat := 0
  /-- WIDX of the previous wedge result when it was WOK 1 with AGREE 0 (R81) -/
  prevBad : Option Nat := none
  /-- error that is being removed by slewing (R52) -/
  slew : Int := 0
  /-- SIDs of the RD_ON and WR_ON events that fell due, newest first: (SID, write class) (R539) -/
  sidClass : List (Nat × Bool) := []
  /-- GTC time of the entry to HOLDOVER (R49) -/
  holdoverAt : Nat := 0
  /-- open wedge detector window: start angle and length (R80) -/
  win : Option (Nat × Nat) := none
  /-- last wedge result (R80) -/
  wedge0 : Word := 0#32
  wedge1 : Word := 0#32
  wedge2 : Word := 0#32
  /-- consecutive position samples below the minimum amplitude (R49) -/
  lowRun : Nat := 0
  /-- newest position sample word (R73) -/
  posWord : Word := 0x10000000#32
  /-- PES of the last sample with LOWAMP 0, per head (R75) -/
  lastPes : Vector Int 8 := Vector.replicate 8 0
deriving DecidableEq, Repr

/-- A ledge calibration record in force for a head (R76). -/
structure LedgeRec where
  ldgMin : Nat
  readerOfs : Int
  lin : List Int
deriving DecidableEq, Repr

/-- A zone of a zone table (R86). -/
structure Zone where
  first : Nat
  count : Nat
  n : Nat
  s : Nat
  trackSkew : Nat
  baseSkew : Nat
deriving DecidableEq, Repr

/-- A zone table (R86). -/
structure ZoneTable where
  tracks : Nat
  zones : List Zone
deriving DecidableEq, Repr

/-- One fragment of a sector as the channel reads it (R107, R109). -/
structure Frag where
  m : Nat
  kind : Nat
  last : Bool
  /-- angle and REV of its RD_ON or WR_ON -/
  ang : Nat
  rev : Nat
  /-- angle and REV of its FMARK, once it has fired -/
  fmAng : Option (Nat × Nat) := none
  /-- WIN and THR of the open search window (R110); none: no window, decoded at d = 0 (R115) -/
  window : Option (Nat × Nat) := none
  /-- mark offset used (R114) -/
  ofs : Int := 0
  /-- the search ran -/
  searched : Bool := false
  /-- the search found no candidate (R115) -/
  missed : Bool := false
  /-- taken in HOLDOVER (R68) -/
  hold : Bool := false
deriving DecidableEq, Repr

/-- A sector in the read path: the fragments read so far and the descriptor's fields (R107, R109). -/
structure Sector where
  sid : Nat
  seed : Nat
  head : Nat
  rmode : Nat := 0
  eqset : Nat := 0
  keep : Bool := false
  accum : Bool := false
  nosync : Bool := false
  frags : List Frag := []
  /-- iterations used (R106) -/
  iters : Nat := 0
  /-- an iteration is running -/
  running : Bool := false
deriving DecidableEq, Repr

/-- A sample buffer slot (R107): the sector whose samples it holds and how many reads are summed. -/
structure Slot where
  sector : Sector
  reads : Nat
deriving DecidableEq, Repr

/-- An information block in the write buffer, matched by SID (R117). -/
structure WBlock where
  sid : Nat
  bytes : List Byte
deriving DecidableEq, Repr

/-- A write fragment whose gate has opened (R112, R118). -/
structure WrFrag where
  sid : Nat
  frag : Frag
  /-- FMARK for the SID has fired (R118) -/
  marked : Bool := false
  /-- the columns the fragment writes -/
  cols : List Nat := []
  /-- TAG of its WR_ON (R184) -/
  tag : Nat := 0
  /-- sector already spoilt: a KIND 1 fragment without its KIND 0 (R118) -/
  spoilt : Bool := false
deriving DecidableEq, Repr

/-- REC: the recovery sequencer (R122 to R130). -/
structure Rec where
  slot : Nat
  to_ : Nat
  step : Nat
  media : Bool
  rel : Bool
  /-- index of the read or re-decode inside the step -/
  idx : Nat := 0
  /-- the next thing is a media read (else a re-decode) -/
  reading : Bool := false
  /-- passes on which the present read has not fired (R128) -/
  unfired : Nat := 0
  /-- mark offsets that the present read of step 3 found (R122, R126) -/
  ofs0 : Int := 0
  ofs1 : Int := 0
  /-- iterations of the last re-decode (R116) -/
  iters : Nat := 0
deriving DecidableEq, Repr

/-- A sector result on its way to the media DMA: SID, result word, block where one is delivered (R116). -/
structure MediaUp where
  sid : Nat
  word : Word
  block : Option (List Byte)
deriving DecidableEq, Repr

/-- A read/write channel beside its registers (R100 to R133). -/
structure Chan where
  rd : Option Sector := none
  /-- first fragment of a split sector, waiting for its LAST fragment (R112) -/
  first : Option Sector := none
  /-- a complete sector whose codeword has not been reported as arrived -/
  arriving : Option Sector := none
  inq : List Sector := []
  /-- credits of the iteration pool (R106) -/
  pool : Nat := 0
  slots : Vector (Option Slot) 8 := Vector.replicate 8 none
  wbuf : List WBlock := []
  /-- the write gate is open (R112) -/
  wg : Bool := false
  wr : Option WrFrag := none
  /-- SID of a split sector whose first fragment was written whole (R118) -/
  firstW : Option Nat := none
  /-- angle at which write inhibit removed write current, until the WR_OFF that reports it (R67) -/
  cut : Option Nat := none
  rcv : Option Rec := none
  /-- slots whose release waits for REC to stop (R129) -/
  relPend : List Nat := []
  /-- level code last sent to the assist element (R120) -/
  assist : Nat := 0
  /-- sample index the next read of CH_SBUF_DATA starts at (R132) -/
  sbufPos : Nat := 0
  /-- index of the free value of the working copy of set 0 (R103; log 20); none: equal to set 0 -/
  afeCopy : Option Nat := none
  /-- N and zone index of the zone whose data clock runs (R82, R99); 0: none -/
  zoneN : Nat := 0
  up : List MediaUp := []
  /-- the last body column of the open LAST fragment has arrived (R105) -/
  rdDone : Bool := false
  /-- information blocks on Passage towards the write buffer (R117, R40) -/
  down : List WBlock := []
deriving DecidableEq, Repr

/-- A loop unit beside its registers (R134 to R157). -/
structure Loop where
  /-- observer states, corrected and predicted (R134, R141) -/
  x : Vector Int 6 := Vector.replicate 6 0
  xp : Vector Int 6 := Vector.replicate 6 0
  /-- notch states x1, x2, y1, y2: four VCM sections, two milliactuator sections (R142) -/
  nv : Vector (Vector Int 4) 4 := Vector.replicate 4 (Vector.replicate 4 0)
  nm : Vector (Vector Int 4) 2 := Vector.replicate 2 (Vector.replicate 4 0)
  /-- integrator state, Q1.31 (R144) -/
  z : Int := 0
  /-- measured position, s48 (R139), and the target of the last sample (R140) -/
  y : Int := 0
  /-- a wedge result arrived since the last sample (R139) -/
  burstNew : Bool := false
  /-- |E| of the last sample, saturated to u32 (R140) -/
  absE : Nat := 0
  /-- dwell count of the automatic choice of region (R147) -/
  dwell : Nat := 0
  /-- region that a FORCE holds (R149) -/
  forced : Nat := 0
  /-- MAN_UV and MAN_UM of LOOP_MODE (R149) -/
  manUv : Int := 0
  manUm : Int := 0
  /-- a LOOP_MODE that takes effect at the next sample: P0, P1 (R149) -/
  pend : Option (Word × Word) := none
  /-- the last completed sample ran in MANUAL (R151) -/
  fromManual : Bool := false
  /-- consecutive deadline misses (R138) -/
  missRun : Nat := 0
  /-- coupling term formed for the next sample (R153) -/
  cff : Int := 0
  /-- applied commands of the last sample (R141) -/
  uvApp : Int := 0
  umApp : Int := 0
  /-- reference and feed-forward the generator produced for the next sample (R161) -/
  rpos : Int := 0
  ffv : Int := 0
  ffm : Int := 0
  /-- region the scheduler chose for the next sample (R147, R150) -/
  nextReg : Option Nat := none
  /-- position samples since the last one beyond THR, saturating (R152) -/
  sinceBad : Nat := 256
  /-- judgement of the last position sample (R152) -/
  offLast : Bool := true
deriving DecidableEq, Repr

/-- The retract machine (R182): 1 velocity mode outward, 2 constant RT_IPARK; start of the machine. -/
structure Retract where
  phase : Nat
  t0 : Nat
deriving DecidableEq, Repr

/-- A load in progress (R181). -/
structure LoadRun where
  /-- mailbox channel of the ACT_LOAD -/
  ch : Nat
  t0 : Nat
  /-- step reached: 2 velocity mode, 3 WEDGE reached, 4 manual hand-over, 5 AUTO and SETPOINT -/
  step : Nat
  /-- consecutive results with WOK 1 and AGREE 1 -/
  good : Nat
  /-- request words of the load -/
  w1 : Word
  w2 : Word
  w3 : Word
deriving DecidableEq, Repr

/-- An actuator drive beside its registers (R159 to R185). -/
structure Act where
  /-- profile generator: p s56, v s40, a s32, tgt s56 (R161) -/
  p : Int := 0
  v : Int := 0
  a : Int := 0
  tgt : Int := 0
  /-- a SETPOINT that waits for its sample: P0, P1, address field of its message -/
  pendSet : Option (Word × Word × Nat) := none
  /-- a HALT waits for its sample (R165) -/
  halt : Bool := false
  /-- a MICROJOG that waits for its sample (R170) -/
  pendMj : Option Word := none
  /-- commanded OFS and RECOFS (R171) -/
  ofsCmd : Int := 0
  recCmd : Int := 0
  retract : Option Retract := none
  /-- consecutive overcurrent periods (R174) -/
  ocRun : Nat := 0
  /-- all four gates deasserted (R159, R174) -/
  gatesOff : Bool := true
  /-- current command to the bridge, mA (R172, R173) -/
  iCmd : Int := 0
  /-- preamp port: queued PRE_CMD frames, the frame in progress, a head-select frames that follow it (R176) -/
  preQ : List Nat := []
  preFrame : Option Nat := none
  preHead : List Nat := []
  /-- GTC time at which the shock signal last exceeded the threshold (R183) -/
  shockAt : Nat := 0
  /-- the milliactuator stays at MA_CFG.OFS until the first AUTO or MANUAL sample after a retract (R175) -/
  maHeld : Bool := false
  /-- code of the milliactuator DAC (R175) -/
  maCode : Int := 0
  /-- SETTLED has been sent since the generator last arrived (R245) -/
  settled : Bool := false
  /-- the section's ACTn_PFLT_N input is asserted (R177) -/
  pflt : Bool := false
deriving DecidableEq, Repr

/-- SPIN beside its registers (R186 to R210). -/
structure Spin where
  /-- times and directions (true: forward) of encoder edges within the averaging window, newest first (R195) -/
  edges : List (Nat × Bool) := []
  /-- levels of ENC_A and ENC_B as last decoded -/
  qa : Bool := false
  qb : Bool := false
  /-- time of the last encoder edge, and of the entry to the present state -/
  edgeAt : Nat := 0
  since : Nat := 0
  /-- an index pulse has been seen; counts since the last one (R197) -/
  idx : Bool := false
  count : Int := 0
  /-- the last revolution's count mismatched (R197) -/
  badRev : Bool := false
  /-- consecutive revolutions inside the lock band, saturating at 16 (R199) -/
  lockRun : Nat := 0
  /-- ASSESS has decided on a forward catch and coasts to the index (R200) -/
  catching : Bool := false
  /-- probes of ASSESS: made, and with motion; an encoder edge arrived in ASSESS (R200) -/
  probes : Nat := 0
  moved : Nat := 0
  assessEdge : Bool := false
  /-- ZVBRAKE was entered for a backward catch (R201) -/
  zvAlign : Bool := false
  /-- Master Angle at the preset of the electrical angle made by ALIGN, until the first index (R196) -/
  preset : Option Nat := none
  /-- duties of the period in progress, in 1/65,536 (R190) -/
  du : Nat := 32768
  dv : Nat := 32768
  dw : Nat := 32768
  /-- consecutive overcurrent periods (R194) -/
  ocRun : Nat := 0
  /-- SP_CHOP asserted (R205) -/
  chop : Bool := false
  /-- GEN coasts above VBUS_ABS (R208) -/
  genCoast : Bool := false
  /-- VBUS has been found above VBUS_ABS since it was last at or below it (R205) -/
  ov : Bool := false
  /-- disk-angle regulation: lost since SP_TGT was written; SYNC gained; consecutive syncs beyond 4 × SYNC_TOL (R198) -/
  srcLost : Bool := false
  synced : Bool := false
  syncBad : Nat := 0
deriving DecidableEq, Repr

/-- A trigger in Flowstone's FIFO (R413). -/
structure Trig where
  def_ : Nat
  src : Nat
  gtc : Nat
  info0 : Nat
  info1 : Nat
deriving DecidableEq, Repr

/-- A record in the ring: its offset, length and SEQ (R416). -/
structure FlowRec where
  ofs : Nat
  len : Nat
  seq : Nat
deriving DecidableEq, Repr

/-- A record being written: where, its sequence and its words (R416). -/
structure FlowRun where
  ofs : Nat
  seq : Nat
  words : List Word
deriving DecidableEq, Repr

/-- Flowstone and the counter unit beside their registers (R411 to R430). -/
structure Flow where
  /-- trigger FIFO, oldest first, at most 16 (R413) -/
  fifo : List Trig := []
  run : Option FlowRun := none
  /-- complete records in the ring, oldest first -/
  recs : List FlowRec := []
  /-- offset at which the next record is placed -/
  wr : Nat := 0
  /-- triggers dropped since the previous record began (R417) -/
  missed : Nat := 0
  /-- UNSEAL clears the ring (R421) -/
  unsealing : Bool := false
  /-- event sums of the M-die blocks that wait for the next transfer, by event number (R423) -/
  msums : List (Nat × Nat) := []
  /-- GTC of the next dump copy (R426) -/
  dumpAt : Nat := 0
  /-- corrections towards the next CE message (R419) -/
  ceRun : Nat := 0
  /-- words found uncorrectable: memory and word (R419, R421) -/
  bad : List (Nat × Nat) := []
deriving DecidableEq, Repr

/-- The token buckets of a group (R349): rates per second, bursts, levels in thousandths of a unit. -/
structure Cap where
  rateCmd : Nat := 0
  burstCmd : Nat := 0
  rateKib : Nat := 0
  burstKib : Nat := 0
  rateAct : Nat := 0
  burstAct : Nat := 0
  lvlCmd : Int := 0
  lvlKib : Int := 0
  lvlAct : Int := 0
deriving DecidableEq, Repr

/-- A bank of meters with what its record says (R346 to R348): values by 8 × group + meter. -/
structure Bank where
  vals : List (Nat × Nat) := []
  opened : Nat := 0
  closed : Nat := 0
  epoch : Int := 0
  origin : Nat := 0
  partial_ : Bool := false
  ploss : Bool := false
  sat : Bool := false
  merr : Bool := false
  refused : Nat := 0
deriving DecidableEq, Repr

/-- The meter unit beside its registers (R344 to R350). -/
structure Mtr where
  bank : Bank := {}
  /-- closed banks whose records are not written, oldest first -/
  closing : List Bank := []
  /-- origin in force (R346) -/
  origin : Nat := 0
  /-- staged MTR_CHG_SEL per initiator (R345) -/
  chgSel : List (Initiator × Nat) := []
  caps : List (Nat × Cap) := []
deriving DecidableEq, Repr

/-- A submission queue context (R216, R217, R236): `head` is the internal head. -/
structure Sq where
  base : Nat
  /-- entries -/
  size : Nat
  prio : Nat
  group : Nat
  vx : Bool
  /-- XQUEUE unit a VX queue uses (R366) -/
  xu : Option Nat := none
  cqid : Nat
  head : Nat := 0
  tail : Nat := 0
  /-- fetch error (R228) -/
  ferr : Bool := false
  /-- being deleted (R232) -/
  deleting : Bool := false
deriving DecidableEq, Repr

/-- A completion queue context (R216, R217, R225). -/
structure Cq where
  base : Nat
  size : Nat
  ien : Bool
  iv : Nat
  head : Nat := 0
  tail : Nat := 0
  phase : Bool := true
deriving DecidableEq, Repr

/-- What has become of a fetched command (R224, R230, R232, R233). -/
inductive CmdFate where
  | live
  | aborted
  | discarded
  | deleted
deriving DecidableEq, Repr

/-- A held command slot (R221 to R226). A slot reserved for a read in flight is not listed. -/
structure CmdSlot where
  port : Port
  sqid : Nat
  group : Nat
  cls : Nat
  /-- 0 none, 1 first half, 2 second half; the partner's slot -/
  fuse : Nat
  partner : Option Nat
  fseq : Nat
  cid : Nat
  nsid : Nat
  /-- the namespace was ordered at fetch (R226) -/
  ord : Bool
  sqe : List Word
  fate : CmdFate := .live
  /-- the completion to commit: DW0, DW1, STATUS -/
  post : Option (Word × Word × Nat) := none
  /-- drive firmware has posted (R224) -/
  posted : Bool := false
  committed : Bool := false
  /-- drive firmware has released the slot (R221) -/
  released : Bool := false
  /-- the CQ-full wait has been counted (R225) -/
  waited : Bool := false
  /-- held by a window command (R386) -/
  win : Bool := false
deriving DecidableEq, Repr

/-- A read of SQ entries in flight (R220, R228): SQ, first entry, count, the slots reserved. -/
structure FetchRun where
  sqid : Nat
  first : Nat
  n : Nat
  slots : List Nat
deriving DecidableEq, Repr

/-- A dispatch or notice record that waits for its ring (R223, R235). -/
structure DispRec where
  kind : Nat
  slot : Nat
  port : Port
  w0 : Word
  w1 : Word
  w2 : Word
  w3 : Word
  /-- of a window command (R386) -/
  win : Bool
deriving DecidableEq, Repr

/-- Controller and arbitration state of a port (R211 to R234). -/
structure HostPort where
  /-- the link is trained -/
  up : Bool := false
  /-- CC, AQA, ASQ and ACQ as the host wrote them (R214, R217) -/
  cc : Word := 0#32
  aqa : Word := 0#32
  asq : Nat := 0
  acq : Nat := 0
  /-- CSTS.NSSRO and CSTS.CFS (R233) -/
  nssro : Bool := false
  cfs : Bool := false
  /-- credits of the classes HIGH, MED, LOW (R220) -/
  cred : Vector Nat 4 := Vector.replicate 4 0
  /-- group last served per class; SQ last served by 4 × group + class; deficits by 4 × group + class -/
  lastGrp : Vector (Option Nat) 4 := Vector.replicate 4 none
  lastSq : List (Nat × Nat) := []
  deficit : List (Nat × Nat) := []
  reads : List FetchRun := []
  /-- CSTS.PP and QENG_STATUS.PP of the port: paused with no read outstanding (R234) -/
  pp : Bool := false
deriving DecidableEq, Repr

/-- Coalescing of a vector (R227): entries committed since its last message, time of the first. -/
structure IcRun where
  count : Nat
  first : Nat
deriving DecidableEq, Repr

/-- A DELETE in progress (R232): port and QID. -/
structure QDelete where
  port : Port
  qid : Nat
deriving DecidableEq, Repr

/-- QENG beside its registers (R211 to R236). -/
structure Qeng where
  /-- contexts by 65,536 × port + QID -/
  sqs : List (Nat × Sq) := []
  cqs : List (Nat × Cq) := []
  slots : List (Nat × CmdSlot) := []
  ports : Vector HostPort 2 := Vector.replicate 2 {}
  /-- the port that took the last fetch decision (R220) -/
  lastPort : Option Port := none
  /-- group, namespace and vector tables as software set them (R236); unlisted: the reset value -/
  grp : List (Nat × Word) := []
  ns : List (Nat × Word) := []
  ic : List (Nat × Word) := []
  /-- records waiting for each dispatch ring -/
  dispQ : Vector (List DispRec) 4 := Vector.replicate 4 []
  /-- staged QENG_CPL_W0 to W2 and QENG_ABORT0, and the last lookup's result, per initiator (R224, R230) -/
  cpl0 : List (Initiator × Nat) := []
  cpl1 : List (Initiator × Nat) := []
  cpl2 : List (Initiator × Nat) := []
  abort0 : List (Initiator × Nat) := []
  abortRes : List (Initiator × Nat) := []
  /-- doorbell error FIFO and QIDs with a fetch error (R218, R228) -/
  dberr : List Word := []
  ferr : List Word := []
  deleting : Option QDelete := none
  /-- vectors unmasked, vectors pending, and coalescing, by 2,048 × port + vector (R227) -/
  unmasked : List Nat := []
  msixPend : List Nat := []
  icRun : List (Nat × IcRun) := []
deriving DecidableEq, Repr

/-- A media operation as its descriptor gives it (R239), with the zone of its track (R242). `bv`: submitted by the verify
engine (R352). -/
structure Mop where
  seq : Nat
  op : Nat
  head : Nat
  ord : Bool
  urg : Bool
  keep : Bool
  hmdLen : Nat
  optag : Nat
  track : Nat
  first : Nat
  count : Nat
  lba : Nat
  nsid : Nat
  ktag : Nat
  group : Nat
  slot : Nat
  data : Nat
  side : Nat
  wstamp : Nat
  takenAt : Nat
  bv : Bool
  zone : Zone
deriving DecidableEq, Repr

/-- An event the scheduler has still to load: sector within the operation (none: ASSIST), type, angle, P0 without the SID, P1;
`first`: the first event of its sector in this pass. -/
structure LoadEv where
  sec : Option Nat
  typ : Nat
  ang : Nat
  p0 : Nat
  p1 : Nat
  first : Bool
deriving DecidableEq, Repr

/-- A loaded event without a record: its TAG, sector, type, and the trainings of Passage when it was loaded (R258). -/
structure OutEv where
  tag : Nat
  sec : Option Nat
  typ : Nat
  ups : Nat
deriving DecidableEq, Repr

/-- What the scheduler knows of one sector of an operation (R241, R247). -/
structure SecRun where
  tries : Nat := 0
  /-- SID of the attempt in progress -/
  sid : Option Nat := none
  /-- STATUS of the last gate event, and the gate events' statuses other than DONE, in this attempt -/
  evst : Nat := 15
  bad : List Nat := []
  /-- the result word of this attempt, and the check that failed -/
  word : Option Nat := none
  chk : Nat := 0
  block : Option (List Byte) := none
  /-- waits for another attempt -/
  again : Bool := false
  /-- final outcome: RES word -/
  final : Option Nat := none
  failed : Bool := false
deriving DecidableEq, Repr

/-- A chosen operation (R246 to R248). -/
structure OpRun where
  op : Mop
  start : Nat
  todo : List LoadEv
  secs : List SecRun
  out : List OutEv := []
  /-- extended angle of the last event loaded in this pass -/
  lastExt : Option Nat := none
  retried : Bool := false
  cancelled : Bool := false
deriving DecidableEq, Repr

/-- A positioning request towards Wounser (R245). -/
structure PosReq where
  head : Nat
  track : Nat
  at_ : Nat
deriving DecidableEq, Repr

/-- A completion record that waits for its ring (R248), and whether its STATUS is other than OK. -/
structure OpRec where
  words : List Nat
  err : Bool
deriving DecidableEq, Repr

/-- A media scheduler beside its registers (R239 to R263). -/
structure Msch where
  /-- operations taken and not chosen, oldest first, at most 256 (R240) -/
  pending : List Mop := []
  /-- chosen operations, in the order chosen -/
  run : List OpRun := []
  /-- the chosen operation that waits for SETTLED, and since when (R245) -/
  pos : Option (OpRun × Nat) := none
  /-- the operation whose events are being loaded -/
  cur : Option Nat := none
  /-- completion records that wait for room in the ring (R248) -/
  recs : List OpRec := []
  /-- completion records of its TAGs, as the ATB delivered them (R243) -/
  notes : List CplRec := []
  /-- SETTLED received since the last positioning request -/
  settled : Bool := false
  /-- positioning requests Wounser has not served -/
  reqs : List PosReq := []
  /-- counters for operations, SIDs and TAGs (log 33) -/
  seq : Nat := 0
  sid : Nat := 0
  tag : Nat := 0
  /-- SIDs whose blocks the media DMA has still to build (R91) -/
  wq : List Nat := []
  /-- which sector a SID last named -/
  sids : List (Nat × (Mop × Nat)) := []
  /-- no operation of the host waits, runs or is positioned (R352) -/
  idle : Bool := true
  /-- GTC at which the scheduler last became idle (R352) -/
  idleAt : Nat := 0
  /-- a verify operation of the engine is pending (R352) -/
  bvPending : Bool := false
deriving DecidableEq, Repr



/-- A cached line: line address (window offset / 128), DIRTY, 128 bytes (R294, R296). -/
structure MLine where
  line : Nat
  dirty : Bool
  data : List Byte
deriving DecidableEq, Repr

/-- An access of an application core that waits for the cache (R296, R304). -/
structure MAccess where
  core : Fin 4
  addr : Nat
  op : CoreOp
  at_ : Nat
deriving DecidableEq, Repr

/-- A range operation that runs (R302): operation, start offset, length, way. -/
structure MapcOp where
  op : Nat
  addr : Nat
  len : Nat
  way : Nat
deriving DecidableEq, Repr

/-- The Map Cache and Pocket beside their registers (R293 to R311). A hole is an invalid slot of a locked way (R301, R303). -/
structure Mapc where
  /-- valid lines by 8 × set + way -/
  lines : List (Nat × MLine) := []
  /-- pseudo-LRU trees by set, seven bits (R297; log 41) -/
  plru : List (Nat × Nat) := []
  /-- Pocket, oldest first, at most 32 (R298) -/
  pocket : List MLine := []
  /-- POCKET_EN as in force (R298) -/
  pocketOn : Bool := true
  /-- the access whose fill runs, and those that wait behind it or behind a disable -/
  miss : Option MAccess := none
  wait : List MAccess := []
  op : Option MapcOp := none
  /-- a disable, and a POCKET_EN 1→0, in progress (R304, R298) -/
  disabling : Bool := false
  pocketOff : Bool := false
  /-- MAPC_LOCK value written during a disable (R19) -/
  lockAfter : Option Nat := none
deriving DecidableEq, Repr

/-- A context of Squeeze or an engine of AES-XTS, and the job it holds (R322, R323, R341, R342). -/
structure JobCtx where
  /-- ring of the job, and its descriptor words -/
  ring : Option Nat := none
  desc : List Nat := []
  /-- the descriptor's read met the error indication -/
  bad : Bool := false
  /-- the job ends FENCED (R334) -/
  fence : Bool := false
  /-- sectors done (R342) -/
  done : Nat := 0
  /-- completion record that waits for room, with its place in the order in which jobs ended (R323) -/
  rec_ : Option (List Byte × Nat) := none
deriving DecidableEq, Repr

/-- The job side of Squeeze or of AES-XTS: contexts 0 to 7 (engines 0 and 1 of AES-XTS), jobs ended so far, and per direction
the ring last served and the jobs it has taken in a row (R322). -/
structure JobUnit where
  ctx : Vector JobCtx 8 := Vector.replicate 8 {}
  ended : Nat := 0
  turn : Vector (Option (Nat × Nat)) 2 := Vector.replicate 2 none
  /-- input and output bytes short of a whole KiB in the counters (R335) -/
  cinRem : Nat := 0
  coutRem : Nat := 0
  doutRem : Nat := 0
deriving DecidableEq, Repr

/-- A key slot (R337): state VALID, OWNER, KEPOCH and the key pair. -/
structure KeySlot where
  valid : Bool := false
  owner : Nat := 0
  kepoch : Nat := 0
  key1 : List Nat := []
  key2 : List Nat := []
deriving DecidableEq, Repr

/-- A key-slot command that waits or runs (R338, R343). -/
structure KsOp where
  op : Nat
  wk : Nat
  slot : Nat
  group : Nat
  blob : List Nat
deriving DecidableEq, Repr

/-- CRYP beside its registers (R337 to R343, R459, R466, R468). -/
structure Cryp where
  /-- key slots; unlisted: EMPTY with KEPOCH 0 and OWNER 0 -/
  slots : List (Nat × KeySlot) := []
  /-- staged CRYP_KS_SEL and CRYP_KS_BLOB words per initiator (R338) -/
  ksSel : List (Initiator × Nat) := []
  ksBlob : List (Initiator × List (Nat × Nat)) := []
  /-- key-slot commands, the one that runs first; RESULT and slots erased of the one that runs -/
  ksOps : List KsOp := []
  ksRes : Nat × Nat := (0, 0)
  /-- WK2 and WK3 where loaded (R459), staged CRYP_WK_BLOB words -/
  wk2 : Option (List Nat) := none
  wk3 : Option (List Nat) := none
  wkBlob : List (Nat × Nat) := []
  /-- a start-up test of the entropy source runs (R466) -/
  rngTest : Bool := false
  /-- requests since the DRBG was last seeded (R466) -/
  rngCount : Nat := 0
deriving DecidableEq, Repr

/-- The fuses (R454, R458, R461, R467). -/
structure Fuses where
  /-- life-cycle counter LCC, and SCRAP (R454) -/
  lcc : Nat := 0
  scrap : Bool := false
  /-- DEVID, and whether it has been programmed (R458) -/
  devid : List Byte := List.replicate 16 0#8
  devidDone : Bool := false
  /-- device secret DEVSEC (R458, R459) -/
  devsec : Nat := 0
  /-- OEM public keys where programmed (R458) -/
  oem : Vector (Option (List Byte)) 2 := Vector.replicate 2 none
  /-- revoked keys, bit KEYIDX -/
  revoked : Nat := 0
  /-- security version numbers by image kind (R458, R463) -/
  svn : Vector Nat 3 := Vector.replicate 3 0
deriving DecidableEq, Repr

/-- What Wounser does for a command that takes time (R362, R364). -/
inductive MbRun where
  /-- ACT_LOAD of section n; its progress stands in the section -/
  | load (n : Fin 4)
  /-- ACT_UNLOAD of section n -/
  | unload (n : Fin 4)
  /-- ACT_SEEK of section n since a time, to a head and a target in 1/65,536 track -/
  | seek (n : Fin 4) (t0 head tgt : Nat)
  /-- OWN_TAKE of the units of a mask since a time -/
  | take (mask t0 : Nat)
  /-- OWN_GIVE, or the peer's OWN_TAKE, of the units of a mask since a time -/
  | give (mask t0 : Nat)
  /-- LC_MOVE: target state, and the time of the response -/
  | move (to_ : Nat)
deriving DecidableEq, Repr

/-- A mailbox channel beside its registers (R357 to R362, R368). -/
structure MbChan where
  /-- a request waits for Wounser -/
  wait : Bool := false
  /-- what Wounser still has to do for the command in service (R364) -/
  run : Option MbRun := none
  /-- kept response, 16 words (R360) -/
  kept : Option (List Nat) := none
  /-- time of the last accepted ring (R361) -/
  busyAt : Nat := 0
  /-- challenge and the time of its issue (R368) -/
  chal : Option (Nat × Nat) := none
  /-- staged token bytes (R368, R456) -/
  token : List (Nat × Nat) := []
deriving DecidableEq, Repr

/-- A band of a channel calibration table (R371). -/
structure BandCal where
  firstZone : Nat
  lastZone : Nat
  afe : Nat
  agc : Nat
  wpc0 : Nat
  wpc1 : Nat
  eq0 : List Nat
deriving DecidableEq, Repr

/-- A channel calibration table (R371): its bytes, its bands, equaliser sets 1 to 8. -/
structure ChCal where
  bytes : List Byte
  bands : List BandCal
  sets : List (List Nat)
deriving DecidableEq, Repr

/-- ACT_PARAMS of a section (R364). -/
structure ActParams where
  pset : Nat := 0
  parkTrack : Nat := 0
deriving DecidableEq, Repr

/-- A life-cycle transition that runs (R457): channel, target, whether LCS has programmed the fuse, time of the response. -/
structure LcRun where
  ch : Fin 16
  to_ : Nat
  done : Option Nat := none
deriving DecidableEq, Repr

/-- MBOX and what Wounser keeps (R357 to R375, R457). -/
structure Mbox where
  chans : Vector MbChan 16 := Vector.replicate 16 {}
  /-- channels whose requests wait, in the order of their rings (R362) -/
  order : List (Fin 16) := []
  /-- expiry of grants by index; unlisted: until released (R367) -/
  expiry : List (Nat × Nat) := []
  /-- grants whose warning has been sent (R370) -/
  warned : List Nat := []
  /-- RWG registers as Wounser's own loads left them; unlisted: the reset value (R369; log 47) -/
  cal : List (Nat × Word) := []
  /-- channel calibration tables by device head, ledge records and zone tables as loaded, by device head (R371, R446) -/
  chcal : List (Nat × ChCal) := []
  ledgeB : List (Nat × List Byte) := []
  zoneB : List (Nat × List Byte) := []
  act : Vector ActParams 4 := Vector.replicate 4 {}
  lc : Option LcRun := none
  /-- the peer's last PL_REPORT word (R364, R483), none again from a power-loss decision on -/
  plReport : Option Nat := none
  /-- PL_REPORT has been rung at the peer since the power-loss decision (R483) -/
  plTold : Bool := false
deriving DecidableEq, Repr

/-- What ROPE sends to the peer (R475 to R484). -/
inductive RopeTx where
  | heartbeat
  | peerSafe
  | msg (words : List Word)
  /-- a request of this Wounser on the peer's mailbox channel 15: words 0 and 1 (R479) -/
  | mbox (w0 w1 : Nat)
  /-- COPY, and the data of COPY_MARK: bytes for the peer's DRAM -/
  | copy (dst : Nat) (bytes : List Byte)
  /-- COPY_MARK's entry for the peer's dirty table, to be marked -/
  | mark (entry : Nat) (bytes : List Byte)
  | clean (entry : Nat)
  /-- an NVM subsystem reset (R483) -/
  | subsystemReset
deriving DecidableEq, Repr

/-- A mirror job that runs: TAG, and the STATUS it has met on this device (R481). -/
structure MirRun where
  tag : Nat
  status : Option Nat := none
deriving DecidableEq, Repr

/-- ROPE beside its registers (R470 to R484). -/
structure RopeSt where
  rx : LinkEnd := {}
  /-- time of the last accepted kick, of the last heartbeat received, of the link-down that stands -/
  kickAt : Option Nat := none
  hbAt : Nat := 0
  downAt : Option Nat := none
  /-- messages received and not popped, at most 16; messages that wait for the link, at most 16; staged TXMSG0 to 2 -/
  rxq : List (List Word) := []
  txq : List (List Word) := []
  txw : List (Nat × Nat) := []
  mir : Vector (Option MirRun) 4 := Vector.replicate 4 none
deriving DecidableEq, Repr


/-- What Chimney sends (R377 to R381), one whole message each. -/
inductive ChmTx where
  /-- an MCTP control response: command code, completion code, data -/
  | control (cmd code : Nat) (data : List Nat)
  /-- an NVMe-MI response: status, data -/
  | mi (status : Nat) (data : List Nat)
  /-- the response drive firmware wrote for a forwarded request (R380) -/
  | forwarded (bytes : List Nat)
  /-- a vendor response: SUB, STATUS, OFS, LEN, payload (R381) -/
  | vendor (sub status ofs len : Nat) (words : List Nat)
deriving DecidableEq, Repr

/-- An MCTP message in reassembly (R377): source endpoint, tag with its owner bit, next packet sequence, bytes so far. -/
structure MctpAsm where
  src : Nat
  tag : Nat
  seq : Nat
  bytes : List Byte
deriving DecidableEq, Repr

/-- MGMT beside its registers (R376 to R388). -/
structure Mgmt where
  asm : List MctpAsm := []
  /-- reassembled messages the management core has not served, oldest first -/
  rx : List (List Byte) := []
  /-- what Chimney has sent, oldest first -/
  sent : List ChmTx := []
  /-- MCTP transmission unit in bytes, SMBus frequency code of Configuration Set (R377, R378) -/
  unit : Nat := 64
  freq : Nat := 1
  /-- time of the last write of CHM_HLTH0, and whether its values count as fresh (R379) -/
  hlthAt : Nat := 0
  fresh : Bool := false
  /-- time of the forwarded request, whether More Processing Required was sent, requests that wait (R380) -/
  fwdAt : Nat := 0
  more : Bool := false
  fwdQ : List (List Byte) := []
  /-- a vendor MBOX request waits for channel 14 (R381) -/
  mboxWait : Bool := false
  /-- time of the last CW_CMD, of the last access of the window's holder or end of a command (R382, R383) -/
  cwAt : Nat := 0
  cwTouch : Nat := 0
  /-- slot of the service-1 command in service, and those whose command ended before CW_FW_DONE, oldest first (R385, R386) -/
  cwSlot : Option Nat := none
  cwLate : List Nat := []
deriving DecidableEq, Repr

/-- One actuator section, with its media scheduler, verify engine and what Wounser keeps for it. -/
structure Section where
  atb : Atb := {}
  chan : Chan := {}
  loop : Loop := {}
  act : Act := {}
  /-- ledge records in force per head (R76) -/
  ledge : Vector (Option LedgeRec) 8 := Vector.replicate 8 none
  /-- accepted zone table per head (R86, R87) and the one in force (R99) -/
  zoneNew : Vector (Option ZoneTable) 8 := Vector.replicate 8 none
  zone : Vector (Option ZoneTable) 8 := Vector.replicate 8 none
  load : Option LoadRun := none
  msch : Msch := {}
deriving DecidableEq, Repr

/-- The whole part. -/
structure State where
  /-- waiting commands, first in first out -/
  pending : List Instr := []
  /-- the Global Time Counter, ns (R440) -/
  gtc : Nat := 0
  /-- the AON PLL is locked and the GTC counts (R440) -/
  gtcRun : Bool := false
  /-- MODEL'S OWN FIELD: index of the next free value (log 12); no statement rests on its value -/
  free : Nat := 0
  /-- the register file: (internal address, word); an unlisted register holds its reset value (log 6) -/
  regs : List (Nat × Word) := []
  /-- latched upper halves of LO/HI pairs, by the address of HI (R15) -/
  hiLatch : List (Nat × Word) := []
  /-- the value the last register read returned to its reader -/
  lastRead : Word := 0#32
  /-- interrupts raised that no status register holds, oldest first -/
  irqs : List Irq := []
  /-- what the part has sent to the hosts, oldest first -/
  toHost : List HostTlp := []
  /-- DRAM data bytes by window offset (R266) -/
  dram : List Host.Cell := []
  /-- per 128-bit word of the DRAM: stored check bits XOR chk(stored data) (R266, R268); unlisted: never written (log 9) -/
  dramSyn : List (Nat × BitVec 16) := []
  /-- application shared SRAM by offset (R528) -/
  sram : List Host.Cell := []
  /-- Control Core SRAM by offset (R528) -/
  ccSram : List Host.Cell := []
  /-- Safe Store contents by byte address (R443); unlisted: erased (log 9) -/
  store : List Host.Cell := []
  pass : Passage := {}
  sump : Sump := {}
  maon : Maon := {}
  buf : Buf := {}
  pwr : Pwr := {}
  /-- coupling matrix and shift in force (R153): M[i][j] at 4i + j -/
  leM : Vector Int 16 := Vector.replicate 16 0
  leSh : Nat := 0
  spin : Spin := {}
  flow : Flow := {}
  mtr : Mtr := {}
  qeng : Qeng := {}
  mapc : Mapc := {}
  /-- the bytes the last load of a core from memory returned -/
  lastData : List Byte := []
  sqz : JobUnit := {}
  aes : JobUnit := {}
  cryp : Cryp := {}
  fuses : Fuses := {}
  mbox : Mbox := {}
  rope : RopeSt := {}
  /-- what the part has sent to the peer, oldest first -/
  toPeer : List RopeTx := []
  mgmt : Mgmt := {}
  /-- the four actuator sections -/
  secs : Vector Section 4 := Vector.replicate 4 {}
deriving DecidableEq, Repr

/-- The part right after power-on reset (R439 to R441): the GTC reads 0, AON, CCORE and MAON are ON and every other
domain is OFF (R452), every register holds its reset value, every list is empty. -/
def State.reset : State := {}

end Sys2Proof.Machine
end

