-- ==== Sys2Proof/Machine/Ops.lean ====
section
/-! DEFINITION. The named operations over the register file and the memories: canonical sparse maps, register and field
access, saturating counters, time, interrupts, byte access to each memory. Every read and write of a register or of a byte
of memory in the model goes through these. -/

namespace Sys2Proof.Machine

open Sys2Proof

/-! ### Canonical sparse maps -/

/-- Read a key: the listed value, else the default. -/
def spGet {α : Type} (d : α) : List (Nat × α) → Nat → α
  | [], _ => d
  | (k, v) :: r, a => if k = a then v else spGet d r a

/-- Insert a pair before the first greater key. -/
def spIns {α : Type} (a : Nat) (v : α) : List (Nat × α) → List (Nat × α)
  | [] => [(a, v)]
  | (k, w) :: r => if a < k then (a, v) :: (k, w) :: r else (k, w) :: spIns a v r

/-- Drop every pair of a key. -/
def spDel {α : Type} (a : Nat) : List (Nat × α) → List (Nat × α)
  | [] => []
  | (k, w) :: r => if k = a then spDel a r else (k, w) :: spDel a r

/-- Write a key: writing the default removes the entry. -/
def spPut {α : Type} [DecidableEq α] (d : α) (l : List (Nat × α)) (a : Nat) (v : α) : List (Nat × α) :=
  if v = d then spDel a l else spIns a v (spDel a l)

/-- Keys strictly rise from `lo` on and no entry equals the default of its key. -/
def spWfFrom {α : Type} [DecidableEq α] (d : Nat → α) (lo : Nat) : List (Nat × α) → Bool
  | [] => true
  | (k, v) :: r => decide (lo ≤ k) && decide (v ≠ d k) && spWfFrom d (k + 1) r

/-- The canonical form of a sparse map. -/
def spWf {α : Type} [DecidableEq α] (d : Nat → α) (l : List (Nat × α)) : Bool := spWfFrom d 0 l

/-! ### Memories -/

/-- What a byte of the DRAM or of the shared SRAM that nothing has written holds (log 9). -/
def unlistedByte : Byte := 0#8

/-- What a byte of the Safe Store that nothing has written holds: erased (log 9). -/
def erasedByte : Byte := 0xFF#8

/-- The canonical form of a memory whose unlisted bytes read as `d`. -/
def Memory.wf (d : Byte) (m : List Host.Cell) : Bool := spWf (fun _ => d) m

/-- Read one byte. -/
def Memory.read (d : Byte) (m : List Host.Cell) (a : Nat) : Byte := spGet d m a

/-- Write one byte. -/
def Memory.write (d : Byte) (m : List Host.Cell) (a : Nat) (b : Byte) : List Host.Cell := spPut d m a b

/-- Write bytes at consecutive addresses. -/
def Memory.writeBytes (d : Byte) (m : List Host.Cell) (a : Nat) : List Byte → List Host.Cell
  | [] => m
  | b :: r => Memory.writeBytes d (Memory.write d m a b) (a + 1) r

/-- Read `n` bytes at consecutive addresses. -/
def Memory.readBytes (d : Byte) (m : List Host.Cell) (a n : Nat) : List Byte :=
  (List.range n).map (fun k => Memory.read d m (a + k))

/-! ### Bits of a word held as a number -/

/-- Replace the bits [hi:lo] of `x` by `v`. -/
def putBits (x hi lo v : Nat) : Nat :=
  x - bitsOf x hi lo * 2 ^ lo + v % 2 ^ (hi + 1 - lo) * 2 ^ lo

/-! ### Registers -/

/-- The word a register holds. -/
def State.reg (s : State) (a : Nat) : Word := spGet (resetOf a) s.regs a

/-- The value a register holds. -/
def State.rd (s : State) (a : Nat) : Nat := (s.reg a).toNat

/-- The bits [hi:lo] of a register. -/
def State.fld (s : State) (a hi lo : Nat) : Nat := bitsOf (s.rd a) hi lo

/-- Bit `k` of a register. -/
def State.bit (s : State) (a k : Nat) : Bool := bitOf (s.rd a) k

/-- Set a register. -/
def State.setReg (s : State) (a v : Nat) : State :=
  { s with regs := spPut (resetOf a) s.regs a (BitVec.ofNat 32 v) }

/-- Set the bits [hi:lo] of a register. -/
def State.setFld (s : State) (a hi lo v : Nat) : State := s.setReg a (putBits (s.rd a) hi lo v)

/-- Set or clear bit `k` of a register. -/
def State.setBit (s : State) (a k : Nat) (b : Bool) : State := s.setFld a k k (b2n b)

/-- Add to a counter register, saturating at 0xFFFF_FFFF. -/
def State.bumpBy (s : State) (a k : Nat) : State := s.setReg a (satU 32 (s.rd a + k))

/-- Count one event in a counter register, saturating. -/
def State.bump (s : State) (a : Nat) : State := s.bumpBy a 1

/-- The 64-bit value of a LO and HI register pair. -/
def State.rd64 (s : State) (lo hi : Nat) : Nat := s.rd lo + 2 ^ 32 * s.rd hi

/-- Set a LO and HI register pair. -/
def State.setReg64 (s : State) (lo hi v : Nat) : State := (s.setReg lo (v % 2 ^ 32)).setReg hi (v / 2 ^ 32 % 2 ^ 32)

/-- Put every register of an address range back to its reset value (R14). -/
def State.resetRange (s : State) (lo hi : Nat) : State :=
  { s with regs := s.regs.filter (fun p => p.1 < lo || hi ≤ p.1) }

/-- Put every register of a set of addresses back to its reset value (R14). -/
def State.resetRegs (s : State) (f : Nat → Bool) : State :=
  { s with regs := s.regs.filter (fun p => !f p.1) }

/-! ### Time, free values, interrupts -/

/-- Take the next free value's index. -/
def State.useFree (s : State) : State := { s with free := s.free + 1 }

/-- Raise an interrupt that no status register holds. -/
def State.irq (s : State) (target : IrqTarget) (cause : IrqCause) : State :=
  { s with irqs := s.irqs ++ [⟨target, cause⟩] }

/-- A cause bit of an interrupt status register, and its interrupt where the enable register has the bit (log 93). -/
def State.raiseInt (s : State) (stat en k : Nat) (t : IrqTarget) (src : Nat) : State :=
  let s := s.setBit stat k true
  if s.bit en k then s.irq t (.unit src) else s

/-- Application core number `c`. -/
def appTarget (c : Nat) : IrqTarget := .app ⟨c % 4, Nat.mod_lt _ (by decide)⟩

/-- Send a TLP to a host. -/
def State.sendHost (s : State) (m : HostTlp) : State := { s with toHost := s.toHost ++ [m] }

/-- Rope sends something to the peer while its link is up (R475). -/
def State.sendPeer (s : State) (m : RopeTx) : State :=
  if s.reg R.ROPE_STATUS &&& 1#32 = 1#32 then { s with toPeer := s.toPeer ++ [m] } else s

/-! ### Power domains -/

/-- State of domain `d`: 0 OFF, 1 UP, 2 ON, 3 DOWN (R435). -/
def State.dom (s : State) (d : Nat) : Nat := s.fld (R.PWR_DOM_CTRL d) 3 2

/-- Domain `d` is ON. -/
def State.domOn (s : State) (d : Nat) : Bool := s.dom d == 2

/-- The domain that holds an address is ON (R433). -/
def State.addrOn (s : State) (a : Nat) : Bool :=
  match domainOf a with
  | some d => s.domOn d
  | none => false

/-- Passage carries flits (R36). -/
def State.linkUp (s : State) : Bool := s.bit R.PASSH_STATUS 0

/-- The life-cycle state (R455): 0 BLANK, 1 MAKER_TEST, 2 OEM_BUILD, 3 FIELD, 4 RETURN, 5 SCRAP. -/
def State.lcState (s : State) : Nat := s.fld R.LCS_STATE 2 0

/-- The safe state holds (R399). -/
def State.safe (s : State) : Bool := s.bit R.SUMP_STATUS 0

/-! ### Sections -/

/-- Actuator section `n`. -/
def State.sec (s : State) (n : Fin 4) : Section := s.secs[n]

/-- Replace actuator section `n`. -/
def State.setSec (s : State) (n : Fin 4) (x : Section) : State := { s with secs := s.secs.set n x }

/-- Change the Angle Timebase of section `n`. -/
def State.onAtb (s : State) (n : Fin 4) (f : Atb → Atb) : State :=
  s.setSec n { s.sec n with atb := f (s.sec n).atb }

/-- Change the channel of section `n`. -/
def State.onChan (s : State) (n : Fin 4) (f : Chan → Chan) : State :=
  s.setSec n { s.sec n with chan := f (s.sec n).chan }

/-- Change the loop unit of section `n`. -/
def State.onLoop (s : State) (n : Fin 4) (f : Loop → Loop) : State :=
  s.setSec n { s.sec n with loop := f (s.sec n).loop }

/-- Change the actuator drive of section `n`. -/
def State.onAct (s : State) (n : Fin 4) (f : Act → Act) : State :=
  s.setSec n { s.sec n with act := f (s.sec n).act }

/-- Do something for every section, in ascending order. -/
def State.forSecs (s : State) (f : Fin 4 → State → State) : State := f 3 (f 2 (f 1 (f 0 s)))

/-- Ownership unit `u` (0 the spindle, 1 to 4 ACT0 to ACT3) is granted to this device (R470, R472). -/
def State.owned (s : State) (u : Nat) : Bool := s.bit R.ROPE_OWN (8 + u)

/-- This device owns section `n` (R472). -/
def State.ownsAct (s : State) (n : Fin 4) : Bool := s.owned (n.val + 1)

/-- This device owns the spindle (R472). -/
def State.ownsSpin (s : State) : Bool := s.owned 0

/-! ### The initiators -/

/-- Index of an initiator's staging words: 0 the Control Core, 1 to 4 the application cores (R54). -/
def iniIdx : Initiator → Nat
  | .cc => 0
  | .app c => c.val + 1
  | .mgmt => 5
  | .hostA => 6
  | .hostB => 7
  | .peer => 8

/-- Whether an initiator is an application core. -/
def iniIsApp : Initiator → Bool
  | .app _ => true
  | _ => false

/-- Whether an initiator is the Control Core. -/
def iniIsCc : Initiator → Bool
  | .cc => true
  | _ => false

/-- Read a list of pairs by initiator. -/
def iniGet {α : Type} (d : α) : List (Initiator × α) → Initiator → α
  | [], _ => d
  | (k, v) :: r, i => if k = i then v else iniGet d r i

/-- Write a list of pairs by initiator. -/
def iniPut {α : Type} (l : List (Initiator × α)) (i : Initiator) (v : α) : List (Initiator × α) :=
  (i, v) :: l.filter (fun p => p.1 ≠ i)

/-! ### Rings (R17, R537) -/

/-- The next index of a ring of `size` entries. -/
def ringNext (i size : Nat) : Nat := (i + 1) % size

/-- A ring is full when the producer index plus 1 equals the consumer index modulo the size (R537). -/
def ringFull (prod cons size : Nat) : Bool := (prod + 1) % size == cons % size

/-- A ring is empty when the indices are equal (R537). -/
def ringEmpty (prod cons : Nat) : Bool := prod == cons

end Sys2Proof.Machine
end

