-- ==== Sys2Proof/Machine/Trace.lean ====
section
/-! DEFINITION. What other blocks feed into Flowstone and the counter unit: triggers (R411 to R413, R417, R419), counted events
(R422 to R425, R428), and the passage of time (R8, R440). -/

namespace Sys2Proof.Machine

open Sys2Proof

/-! ### Flowstone triggers -/

/-- Word 0 and word 1 of definition `d`. -/
def State.flowW0 (s : State) (d : Nat) : Nat := s.rd (R.FLOW_DEF_W0 d)

/-- Definition `d` is enabled with source `src`. -/
def State.flowDefOn (s : State) (d src : Nat) : Bool := bitOf (s.flowW0 d) 0 && bitsOf (s.flowW0 d) 2 1 == src

/-- A trigger of definition `d` fires: ONCE clears EN, and the trigger enters the FIFO or is dropped (R412, R413, R417). -/
def State.flowFire (s : State) (d src gtc info0 info1 : Nat) : State :=
  if s.bit R.FLOW_STATUS 2 then s.bump R.FLOW_CNT_IGNORED
  else
    let s := if bitOf (s.flowW0 d) 3 then s.setFld (R.FLOW_DEF_W0 d) 0 0 0 else s
    if s.flow.fifo.length < 16 then
      { s with flow := { s.flow with fifo := s.flow.fifo ++ [⟨d, src, gtc, info0, info1⟩] } }
    else { s.bump R.FLOW_CNT_MISSED with flow := { s.flow with missed := satU 16 (s.flow.missed + 1) } }

/-- Fire every enabled definition of a list that meets `f`, in order (R412). -/
def State.flowFireAll (s : State) (f : State → Nat → Bool) (src gtc info0 info1 : Nat) : List Nat → State
  | [] => s
  | d :: r => State.flowFireAll (if f s d then s.flowFire d src gtc info0 info1 else s) f src gtc info0 info1 r

/-- Triggers fire only while FLOW_CTRL.EN is 1 (R411). -/
def State.flowOn (s : State) : Bool := s.bit R.FLOW_CTRL 0 && s.domOn 11

/-- A software trigger (R411). -/
def State.flowSw (s : State) (d : Nat) : State :=
  if s.flowOn then s.flowFireAll (fun s d => s.flowDefOn d 0) 0 s.gtc (s.rd R.FLOW_SWTRIG_VAL) 0 [d] else s

/-- A SNAPSHOT names definition `d` at an angle (R411, R413). -/
def State.flowSnapshot (s : State) (d gtc ang atb rev : Nat) : State :=
  if s.flowOn then s.flowFireAll (fun s d => s.flowDefOn d 1) 1 gtc (ang % 2 ^ 25 + 67108864 * atb) rev [d] else s

/-- Sump accepts a message (R411). -/
def State.flowFault (s : State) (src kind addr : Nat) : State :=
  if s.flowOn then
    s.flowFireAll (fun s d =>
      let w := s.flowW0 d
      s.flowDefOn d 2 && (bitsOf w 9 4 == 0 || bitsOf w 9 4 == kind)
        && (src &&& bitsOf w 29 20) == (bitsOf w 19 10 &&& bitsOf w 29 20))
      2 s.gtc (addr % 2 ^ 32) (addr / 2 ^ 32 % 65536 + kind % 64 * 65536 + src % 1024 * 4194304) (List.range 64)
  else s

/-- Counter `n` overflows (R411). -/
def State.flowCounter (s : State) (n : Nat) : State :=
  if s.flowOn then
    s.flowFireAll (fun s d => s.flowDefOn d 3 && bitsOf (s.flowW0 d) 16 10 == n) 3 s.gtc n 0 (List.range 64)
  else s

/-! ### Counters -/

/-- Value of counter `n`. -/
def State.pmuCnt (s : State) (n : Nat) : Nat := s.rd64 (R.PMU_CNT_LO n) (R.PMU_CNT_HI n)

/-- An overflow that is reported: OVF bit, interrupt, triggers (R424). -/
def State.pmuReport (s : State) (n : Nat) : State :=
  let s := s.setBit (R.PMU_OVF (n / 32)) (n % 32) true
  let s := if s.bit (R.PMU_EVSEL n) 12 then s.irq (appTarget (s.fld R.PMU_CTRL 5 4)) (.pmuOverflow n) else s
  s.flowCounter n

/-- Counter n overflows: an even counter of a chained pair only counts in its partner, which wraps in its turn (R424). -/
def State.pmuOverflow (s : State) (n : Nat) : State :=
  if n % 2 = 0 ∧ s.bit (R.PMU_EVSEL (n + 1)) 11 then
    if s.bit (R.PMU_EVSEL (n + 1)) 10 then
      let v := s.pmuCnt (n + 1) + 1
      let s := s.setReg64 (R.PMU_CNT_LO (n + 1)) (R.PMU_CNT_HI (n + 1)) (v % 2 ^ 48)
      if 2 ^ 48 ≤ v then s.pmuReport (n + 1) else s
    else s
  else s.pmuReport n

/-- Counter n adds `k` (R422). -/
def State.pmuInc (s : State) (n k : Nat) : State :=
  let v := s.pmuCnt n + k
  let s := s.setReg64 (R.PMU_CNT_LO n) (R.PMU_CNT_HI n) (v % 2 ^ 48)
  if 2 ^ 48 ≤ v then s.pmuOverflow n else s

/-- Numbers and events of the counters that count an event of their own. -/
def State.pmuSelected (s : State) : List (Nat × Nat) :=
  s.regs.filterMap (fun p =>
    if R.PMU_EVSEL 0 ≤ p.1 ∧ p.1 < R.PMU_EVSEL 128 ∧ bitOf p.2.toNat 10 then
      let n := (p.1 - R.PMU_EVSEL 0) / 4
      if n % 2 = 1 ∧ bitOf p.2.toNat 11 then none else some (n, bitsOf p.2.toNat 9 0)
    else none)

/-- Counting is possible: the unit is ON and not frozen (R425). -/
def State.pmuOn (s : State) : Bool := s.domOn 11 && !s.bit R.PMU_CTRL 0

/-- Add what `f` gives for its event to every selected counter. -/
def State.pmuAddAll (s : State) (f : Nat → Nat) : List (Nat × Nat) → State
  | [] => s
  | (n, ev) :: r =>
    let k := f ev
    State.pmuAddAll (if k = 0 then s else s.pmuInc n k) f r

/-- An H-die event occurs (R422, R428). -/
def State.pmuH (s : State) (ev k : Nat) : State :=
  match s.pmuSelected with
  | [] => s
  | l => if s.pmuOn then s.pmuAddAll (fun e => if e = ev then k else 0) l else s

/-- An event of an M-die block joins the local sums, which saturate at 2^16 − 1 (R423). -/
def State.pmuM (s : State) (ev : Nat) : State :=
  let v := spGet 0 s.flow.msums ev
  let s := if v = 65535 then s.setBit R.PMU_STATUS 2 true else s
  { s with flow := { s.flow with msums := spPut 0 s.flow.msums ev (min 65535 (v + 1)) } }

/-- `k` events of an M-die block join the local sums (R423). -/
def State.pmuMBy (s : State) (ev k : Nat) : State :=
  let v := spGet 0 s.flow.msums ev
  let s := if 65535 < v + k then s.setBit R.PMU_STATUS 2 true else s
  { s with flow := { s.flow with msums := spPut 0 s.flow.msums ev (min 65535 (v + k)) } }

/-- Count an M-die event in a counter register and in the sums. -/
def State.countM (s : State) (a ev : Nat) : State := (s.bump a).pmuM ev

/-- Event number k of section n (R428). -/
def secEv (n k : Nat) : Nat := 0x100 + 0x40 * n + k

/-- SRC_ACT: the disk-angle source is in use (R198): SRC is 1, SPIN is in RUN, the named ATB is out of MASTER, and the source has
not been lost since SP_TGT was written. -/
def State.srcAct (s : State) : Bool :=
  s.bit R.SP_TGT 16 && s.fld R.SP_STATUS 3 0 == 4 && !s.spin.srcLost && s.fld (R.ATB_STATUS (s.fld R.SP_TGT 18 17)) 2 0 != 0

/-! ### Time -/

/-- What a span of GTC time adds to an event that counts time (R428). -/
def State.timeEvents (s : State) (t0 t1 ev : Nat) : Nat :=
  let us := t1 / 1000 - t0 / 1000
  if ev = 1 then t1 - t0
  else if ev = 0x107 ∨ ev = 0x147 ∨ ev = 0x187 ∨ ev = 0x1C7 then
    if s.fld (R.ATB_STATUS ((ev - 0x107) / 0x40)) 2 0 = 3 then us else 0
  else if ev = 0x18 then us * (1024 - s.fld R.QENG_SLOT_FREE 10 0)
  else if ev = 0x207 then (if s.bit R.SP_STATUS 13 && s.srcAct then us else 0)
  else if ev = 0x133 ∨ ev = 0x173 ∨ ev = 0x1B3 ∨ ev = 0x1F3 then
    (if s.bit (R.MSCH_STATUS ((ev - 0x133) / 0x40)) 9 then us else 0)
  else 0

/-- The step takes place at GTC time `t`; the GTC never goes back and stands until its PLL locks (R8, R440; log 1). Counters of
time events follow. -/
def State.at (s : State) (t : Nat) : State :=
  if s.gtcRun ∧ s.gtc < t then
    let s' := { s with gtc := t }
    match s.pmuSelected with
    | [] => s'
    | l => if s.pmuOn then s'.pmuAddAll (s.timeEvents s.gtc t) l else s'
  else s

end Sys2Proof.Machine
end

