-- ==== Sys2Proof/Machine/Flags.lean ====
section
/-! DEFINITION. Status and interrupt flags that many units set: fault messages towards Sump as their sources hold and
merge them (R390, R391), the kinds (R396), and the M-die's copy of the GTC (R35). -/

namespace Sys2Proof.Machine

/-! ### Kinds (R396) -/

def kCE : Nat := 0x01
def kUE : Nat := 0x02
def kPOISON : Nat := 0x03
def kUNINIT : Nat := 0x04
def kPARITY : Nat := 0x05
def kTIMEOUT : Nat := 0x06
def kPROTOCOL : Nat := 0x07
def kOVERRUN : Nat := 0x08
def kLOCKSTEP : Nat := 0x09
def kLINKUE : Nat := 0x0A
def kOFFTRACK : Nat := 0x0B
def kSHOCK : Nat := 0x0C
def kVBUSOV : Nat := 0x0D
def kCHOPPER : Nat := 0x0E
def kOVERCURRENT : Nat := 0x0F
def kOVERTEMP : Nat := 0x10
def kLEDGELOSS : Nat := 0x11
def kSPINSYNC : Nat := 0x12
def kHEARTBEAT : Nat := 0x13
def kCONFIG : Nat := 0x14
def kLOGRAM : Nat := 0x15
def kPOWERLOSS : Nat := 0x16
def kENCODER : Nat := 0x17
def kPREAMP : Nat := 0x18
def kSAFEREQ : Nat := 0x19

/-- The messages a source holds after it raises one more: a message of the same source and kind still held is merged,
its count saturating at 255 (R391). -/
def mergeHeld (src kind addr : Nat) : List HeldMsg → List HeldMsg
  | [] => [⟨src, kind, addr, 0, false⟩]
  | m :: r =>
    if m.src = src ∧ m.kind = kind ∧ m.inj = false then { m with merge := satU 8 (m.merge + 1) } :: r
    else m :: mergeHeld src kind addr r

/-- A source is on the M-die (blocks 32 and above: 512 and up). -/
def srcOnM (src : Nat) : Bool := 512 ≤ src

/-- A block sends a fault message: it holds it until Sump accepts it (R391). While Passage is down MAON takes messages of
the M-die up to 64 (SOURCE, KIND) pairs; the others stay with their sources. -/
def State.sendFault (s : State) (src kind addr : Nat) : State :=
  let sump := { s.sump with held := mergeHeld src kind addr s.sump.held }
  let maon :=
    if srcOnM src ∧ s.linkUp = false ∧ s.maon.holds.length < 64 ∧ (src, kind) ∉ s.maon.holds
    then { s.maon with holds := s.maon.holds ++ [(src, kind)] } else s.maon
  { s with sump := sump, maon := maon }

/-- A PROTOCOL message with address field `addr`. -/
def State.protocol (s : State) (src addr : Nat) : State := s.sendFault src kPROTOCOL addr

/-- A fault address field with an angle in [40:16] and a TAG in [15:0] (R390). -/
def angleAddr (ang tag : Nat) : Nat := ang % 2 ^ 25 * 65536 + tag % 65536

/-- The M-die's copy of the GTC: within 2 ns of the GTC while the link is up, free running otherwise (R35; log 4). -/
def State.gtcM (s : State) : Nat :=
  let d := Config.gtcSkew s.gtc
  ((s.gtc : Int) + (if s.linkUp then clampI (-2) 2 d else d)).toNat

/-- The source ID of unit `n` of a section block: ATB, CHAN, LOOP and ACTDRV, preamp (R393). -/
def srcAtb (n : Nat) : Nat := 544 + n
def srcChan (n : Nat) : Nat := 560 + n
def srcLoop (n : Nat) : Nat := 576 + n
def srcPreamp (n : Nat) : Nat := 608 + n

end Sys2Proof.Machine
end

