-- ==== Sys2Proof/Machine/Operands.lean ====
section
/-! DEFINITION. The operand forms of a register command: which initiator may write which register (R12, R25, R26), when a write
reaches its block (R31, R433), and what a written word does to each field of a register (R10, R12, R13, R16, R17). -/

namespace Sys2Proof.Machine

open Sys2Proof

/-- A register's writers name an initiator (R26, R357, R382, R432, R453): the blocks' tables name the Control Core and the application
cores, so a `core` register takes no write of another initiator (log 7). -/
def Who.allows (w : Who) (i : Initiator) : Bool :=
  match w, i with
  | .core, .cc => true
  | .core, .app _ => true
  | .cc, .cc => true
  | .app, .app _ => true
  | .mgmt, .mgmt => true
  | .path, _ => true
  | .mbox, _ => true
  | .ssPort, _ => true
  | _, _ => false

/-- A write by `i` to the register at `a` takes the effect `f` when it reaches its block: PASSH discards it while the link is
down and sends TIMEOUT with the register's address (R31); PWR discards it while the block's domain is not ON and sends
PROTOCOL (R433); a writer that the register does not accept has no effect (R26). -/
def State.onWrite (s : State) (i : Initiator) (a : Nat) (w : Who) (f : State → State) : State :=
  if inMWindow a ∧ s.linkUp = false then s.sendFault 208 kTIMEOUT a
  else if s.addrOn a = false then s.protocol 0 0
  else if w.allows i then f s
  else s

/-- Who writes the register at an address. -/
def whoAt (a : Nat) : Who :=
  match regAt a with
  | some (_, _, r, _) => r.who
  | none => .core

/-- A write by `i` to the register at `a`, by the writers its table names. -/
def State.onReg (s : State) (i : Initiator) (a : Nat) (f : State → State) : State := s.onWrite i a (whoAt a) f

/-! ### Fields of a written word -/

/-- The value a register takes in one field when `w` is written over `old`, and whether the field refused a reserved
encoding. Fields that software may not set keep their value (R12, R16). -/
def Fld.apply (f : Fld) (old w : Nat) : Nat × Bool :=
  let o := bitsOf old f.hi f.lo
  let n := bitsOf w f.hi f.lo
  match f.acc with
  | .rw => if f.chk.ok n then (n, false) else (o, true)
  | .rwg => if f.chk.ok n then (n, false) else (o, true)
  | .rwl => if f.chk.ok n then (n, false) else (o, true)
  | .w1c => (o &&& (2 ^ (f.hi + 1 - f.lo) - 1 - n), false)
  | .w1s => (o ||| n, false)
  | .ro => (o, false)
  | .rc => (o, false)
  | .wo => (0, !f.chk.ok n)

/-- The word a register holds after `w` is written to it, and whether any field refused its value. -/
def applyFields (old w : Nat) : List Fld → Nat × Bool
  | [] => (old, false)
  | f :: r =>
    let (v, bad) := f.apply old w
    let (x, bad') := applyFields old w r
    (putBits x f.hi f.lo v, bad || bad')

/-- The word after a read that clears RC fields (R12). -/
def clearRc (old : Nat) : List Fld → Nat
  | [] => old
  | f :: r => if f.acc = .rc then putBits (clearRc old r) f.hi f.lo 0 else clearRc old r

/-- A register has a field of an access code. -/
def RegRow.has (r : RegRow) (a : Acc) : Bool := r.fields.any (fun f => f.acc == a)

/-- An access lies within one aligned word (R10). -/
def inWord (addr nbytes : Nat) : Bool := 1 ≤ nbytes && addr / 4 == (addr + nbytes - 1) / 4

/-- The bytes of a word that a narrow read returns (R10). -/
def narrow (w addr nbytes : Nat) : Nat := w / 2 ^ (8 * (addr % 4)) % 2 ^ (8 * nbytes)

end Sys2Proof.Machine
end

