-- ==== Sys2Proof/Machine/Memory.lean ====
section
/-! DEFINITION. Buffer memory behind the 128-bit code: the code of R268 to R272, what a requester sees (R273 to R276), the
merge buffer (R278, R287), and byte access for engines. Offsets here are offsets in the DRAM window (base 0x4_0000_0000). -/

namespace Sys2Proof.Machine

open Sys2Proof

/-! ### The (144,128) code -/

/-- One step of chk() of R269 for data bit `b`. -/
def chkStep (r : Nat) (b : Bool) : Nat :=
  let fb := bitOf r 15 != b
  let r' := r * 2 % 65536
  if fb then r' ^^^ 0x6F63 else r'

/-- chk() over data bits i-1 down to 0. -/
def chkFrom (d : Nat) : Nat → Nat → Nat
  | 0, r => r
  | i + 1, r => chkFrom d i (chkStep r (bitOf d i))

/-- The check value of a 128-bit word (R269). -/
def chk (d : Nat) : Nat := chkFrom d 128 0

/-- Multiply by α in GF(2^8) with field polynomial 0x11D. -/
def gfDbl (x : Nat) : Nat := if x < 128 then x * 2 else (x * 2) ^^^ 0x11D

/-- Multiply in GF(2^8): `k` bits of `y`, from bit k-1 down. -/
def gfMulFrom (x y : Nat) : Nat → Nat → Nat
  | 0, r => r
  | k + 1, r => gfMulFrom x y k (gfDbl r ^^^ (if bitOf y k then x else 0))

/-- Multiplication in GF(2^8). -/
def gfMul (x y : Nat) : Nat := gfMulFrom x y 8 0

/-- α^p. -/
def gfPow : Nat → Nat
  | 0 => 1
  | p + 1 => gfDbl (gfPow p)

/-- Evaluate the 16-bit polynomial `sy` at `x`, coefficients from bit k-1 down (Horner). -/
def gfEvalFrom (sy x : Nat) : Nat → Nat → Nat
  | 0, r => r
  | k + 1, r => gfEvalFrom sy x k (gfMul r x ^^^ b2n (bitOf sy k))

/-- s(x) over GF(2^8). -/
def gfEval (sy x : Nat) : Nat := gfEvalFrom sy x 16 0

/-- Positions p below `k` with α^p in `f`, where `x` is α^k walked upward: the positions of a shortened codeword. -/
def gfFind (f : Nat → Bool) : Nat → Nat → Nat → List Nat
  | 0, _, _ => []
  | k + 1, p, x => if f x then p :: gfFind f k (p + 1) (gfDbl x) else gfFind f k (p + 1) (gfDbl x)

/-- Class of a syndrome (R270). -/
inductive EccClass where
  | clean
  | ce1 (p : Nat)
  | ce2 (p q : Nat)
  | poison
  | ue
deriving DecidableEq, Repr

/-- The single-error position of a syndrome, if the CE1 condition of R270 holds. -/
def ce1Pos (sy : Nat) : Option Nat :=
  let s1 := gfEval sy 2
  let s3 := gfEval sy 8
  if s1 ≠ 0 ∧ s3 = gfMul s1 (gfMul s1 s1) then (gfFind (fun x => x == s1) 144 0 1).head? else none

/-- The two positions of a syndrome, if the CE2 condition of R270 holds: both roots of X² + S1·X + (S1³ + S3)/S1. -/
def ce2Pos (sy : Nat) : Option (Nat × Nat) :=
  let s1 := gfEval sy 2
  let s3 := gfEval sy 8
  let c := gfMul s1 (gfMul s1 s1) ^^^ s3
  if s1 ≠ 0 ∧ c ≠ 0 then
    match gfFind (fun x => gfMul s1 (gfMul x x) ^^^ gfMul (gfMul s1 s1) x ^^^ c == 0) 144 0 1 with
    | [p, q] => some (p, q)
    | _ => none
  else none

/-- The POISON syndrome (R270, R271). -/
def poisonSyn : Nat := 0xA5C3

/-- Decode as a memory does (R270). -/
def eccClass (sy : Nat) : EccClass :=
  if sy = 0 then .clean
  else if sy = poisonSyn then .poison
  else match ce1Pos sy with
    | some p => .ce1 p
    | none => match ce2Pos sy with
      | some (p, q) => .ce2 p q
      | none => if (ce1Pos (sy ^^^ poisonSyn)).isSome then .poison else .ue

/-- Decode as a link receiver does: without the POISON tests (R272). -/
def eccLinkClass (sy : Nat) : EccClass :=
  if sy = 0 then .clean
  else match ce1Pos sy with
    | some p => .ce1 p
    | none => match ce2Pos sy with
      | some (p, q) => .ce2 p q
      | none => .ue

/-- Flip codeword position `p` of a data word: positions 0 to 15 are check bits, 16 + i is data bit i (R268). -/
def flipData (d p : Nat) : Nat := if p < 16 then d else d ^^^ 2 ^ (p - 16)

/-! ### Words of the DRAM -/

/-- Base of the DRAM window (R528). -/
def dramBase : Nat := 0x400000000

/-- Usable data capacity in bytes, from BUF_DRAM_CFG.DENS (R265). -/
def State.usable (s : State) : Nat :=
  match s.fld R.BUF_DRAM_CFG 1 0 with
  | 0 => 0x70000000
  | 1 => 0xE0000000
  | _ => 0x1C0000000

/-- Syndrome of a word that nothing has written since power-up: classed UE (log 9). -/
def unwrittenSyn : BitVec 16 := 0x0015#16

/-- The stored data bits of word `w`. -/
def State.dramWord (s : State) (w : Nat) : Nat := ofBytes (Memory.readBytes unlistedByte s.dram (16 * w) 16)

/-- The syndrome of word `w`. -/
def State.dramSynOf (s : State) (w : Nat) : Nat := (spGet unwrittenSyn s.dramSyn w).toNat

/-- Store a word with a syndrome; a waiting CE write-back of the word is dropped (R274, R287). -/
def State.storeWord (s : State) (w d sy : Nat) : State :=
  { s with dram := Memory.writeBytes unlistedByte s.dram (16 * w) (toBytes 16 d)
           dramSyn := spPut unwrittenSyn s.dramSyn w (BitVec.ofNat 16 sy)
           buf := { s.buf with ceQ := s.buf.ceQ.filter (fun e => e.1 ≠ w) } }

/-- The INIT flag of the region of window offset `o` (R275). -/
def State.initFlag (s : State) (o : Nat) : Bool :=
  let r := o / 1048576
  s.bit (R.BUF_INIT (r / 32)) (r % 32)

/-- Requesters of buffer memory: the REQ codes of BUF_ERR_INFO. -/
def reqOf : Initiator → Nat
  | .cc => 0
  | .app c => c.val + 1
  | .mgmt => 0
  | .hostA => 5
  | .hostB => 5
  | .peer => 0

/-- Record a non-CLEAN outcome: BUF_ERR_ADDR and BUF_ERR_INFO (R274). -/
def State.bufErrInfo (s : State) (w cls req sy : Nat) : State :=
  let a := dramBase + 16 * w
  ((s.setReg R.BUF_ERR_ADDR_LO (a % 2 ^ 32)).setReg R.BUF_ERR_ADDR_HI (a / 2 ^ 32)).setReg
    R.BUF_ERR_INFO (cls + 16 * req + 65536 * sy)

/-- A cause of BUF: its status bit and the interrupts of R292. -/
def State.bufInt (s : State) (k : Nat) : State :=
  let s := s.raiseInt R.BUF_INT_STATUS R.BUF_INT_EN k (appTarget (s.fld R.BUF_INT_EN 9 8)) 32
  if k = 5 ∨ k = 6 then s.irq .cc (.unit 32) else s

/-- The accounting of a CE: the counter, the status bit, and one message for every CE_THR-th (R274). -/
def State.bufCe (s : State) (w cls req sy : Nat) : State :=
  let s := (((s.bump R.BUF_CNT_CE).pmuH 0x22 1).bufInt 1).bufErrInfo w cls req sy
  let run := s.buf.ceRun + 1
  if s.fld R.BUF_ECC_CFG 15 8 ≤ run then
    ({ s with buf := { s.buf with ceRun := 0 } }).sendFault 32 kCE (dramBase + 16 * w)
  else { s with buf := { s.buf with ceRun := run } }

/-- The accounting of a POISON, UE or UNINIT outcome. -/
def State.bufBad (s : State) (cls w req sy src : Nat) : State :=
  let a := dramBase + 16 * w
  let s := s.bufErrInfo w cls req sy
  match cls with
  | 3 => (((s.bump R.BUF_CNT_POISON).pmuH 0x24 1).bufInt 3).sendFault src kPOISON a
  | 4 => (((s.bump R.BUF_CNT_UE).pmuH 0x23 1).bufInt 2).sendFault src kUE a
  | _ => ((s.bump R.BUF_CNT_UNINIT).bufInt 4).sendFault src kUNINIT a

/-- What one read of a word of buffer memory returns: data and the error indication (R273). -/
structure WordRead where
  st : State
  data : Nat
  err : Bool

/-- Read one word of the DRAM for requester `req` (R267, R273, R274). -/
def State.readWord (s : State) (req w : Nat) : WordRead :=
  if s.usable ≤ 16 * w then ⟨s.protocol 32 (dramBase + 16 * w), 0, false⟩
  else
    let d := s.dramWord w
    let sy := s.dramSynOf w
    match eccClass sy with
    | .clean => ⟨s, d, false⟩
    | c =>
      if s.initFlag (16 * w) then
        match c with
        | .clean => ⟨s, d, false⟩
        | .ce1 p =>
          let d' := flipData d p
          let s := s.bufCe w 1 req sy
          ⟨if s.bit R.BUF_ECC_CFG 0 then { s with buf := { s.buf with ceQ := s.buf.ceQ ++ [(w, d')] } } else s, d', false⟩
        | .ce2 p q =>
          let d' := flipData (flipData d p) q
          let s := s.bufCe w 2 req sy
          ⟨if s.bit R.BUF_ECC_CFG 0 then { s with buf := { s.buf with ceQ := s.buf.ceQ ++ [(w, d')] } } else s, d', false⟩
        | .poison => ⟨s.bufBad 3 w req sy 32, d, true⟩
        | .ue => ⟨s.bufBad 4 w req sy 32, d, true⟩
      else ⟨s.bufBad 5 w req sy 32, 0, false⟩

/-- What a read of bytes returns. -/
structure BytesRead where
  st : State
  bytes : List Byte
  err : Bool

/-- Read `k` words from word `w` on. -/
def State.readWords (s : State) (req : Nat) : Nat → Nat → BytesRead
  | _, 0 => ⟨s, [], false⟩
  | w, k + 1 =>
    let r := s.readWord req w
    let rest := State.readWords r.st req (w + 1) k
    ⟨rest.st, toBytes 16 r.data ++ rest.bytes, r.err || rest.err⟩

/-- Read `n` bytes of the DRAM at window offset `o`. While BUF is not ON the read fails with the error indication (R433). -/
def State.bufReadOfs (s : State) (req o n : Nat) : BytesRead :=
  if n = 0 then ⟨s, [], false⟩
  else if s.domOn 7 then
    let w0 := o / 16
    let k := (o + n - 1) / 16 + 1 - w0
    let r := (s.pmuH 0x20 ((n + 63) / 64)).readWords req w0 k
    ⟨r.st, (r.bytes.drop (o % 16)).take n, r.err⟩
  else ⟨s, List.replicate n 0#8, true⟩

/-- The bytes of `old` with those of `new` laid over them from position `at_` on. -/
def overlay (old : List Byte) (at_ : Nat) (new : List Byte) : List Byte :=
  old.take at_ ++ new ++ old.drop (at_ + new.length)

/-- Merge a partial write into word `w` (R278). -/
def State.mergeWord (s : State) (w at_ : Nat) (new : List Byte) : State :=
  let s := s.pmuH 0x25 1
  let d := s.dramWord w
  let sy := s.dramSynOf w
  let put (s : State) (base syn : Nat) : State :=
    s.storeWord w (ofBytes (overlay (toBytes 16 base) at_ new)) syn
  match eccClass sy with
  | .clean => put s d 0
  | c =>
    if s.initFlag (16 * w) then
      match c with
      | .clean => put s d 0
      | .ce1 p => put (s.bufCe w 1 12 sy) (flipData d p) 0
      | .ce2 p q => put (s.bufCe w 2 12 sy) (flipData (flipData d p) q) 0
      | .poison => put (s.bufBad 3 w 12 sy 32) d poisonSyn
      | .ue => put (s.bufBad 4 w 12 sy 32) d poisonSyn
    else put (s.bufBad 5 w 12 sy 32) 0 0

/-- Write the part of `bytes` that falls into word `w`, from byte `at_` of the word on. -/
def State.writeWordPart (s : State) (w at_ : Nat) (bytes : List Byte) : State :=
  if s.usable ≤ 16 * w then s.protocol 32 (dramBase + 16 * w)
  else if at_ = 0 ∧ bytes.length = 16 then s.storeWord w (ofBytes bytes) 0
  else s.mergeWord w at_ bytes

/-- Write bytes over `k` words from word `w`, byte `at_` of the first on. -/
def State.writeWords (s : State) : Nat → Nat → Nat → List Byte → State
  | 0, _, _, _ => s
  | k + 1, w, at_, bytes =>
    let part := bytes.take (16 - at_)
    State.writeWords (s.writeWordPart w at_ part) k (w + 1) 0 (bytes.drop (16 - at_))

/-- Write bytes to the DRAM at window offset `o`. While BUF is not ON the write is lost (R433). -/
def State.bufWriteOfs (s : State) (o : Nat) (bytes : List Byte) : State :=
  if bytes.length = 0 then s
  else if s.domOn 7 then
    (s.pmuH 0x21 ((bytes.length + 63) / 64)).writeWords ((o + bytes.length - 1) / 16 + 1 - o / 16) (o / 16) (o % 16) bytes
  else s

/-- An internal address lies in the DRAM window. -/
def inDram (a : Nat) : Bool := dramBase ≤ a && a < 0x600000000

/-- Read bytes at an internal address for an engine: the DRAM window or the shared SRAM; anything else fails. -/
def State.busRead (s : State) (req a n : Nat) : BytesRead :=
  if inDram a then s.bufReadOfs req (a - dramBase) n
  else if 0x20000000 ≤ a ∧ a + n ≤ 0x20400000 ∧ s.domOn 5 then
    ⟨s, Memory.readBytes unlistedByte s.sram (a - 0x20000000) n, false⟩
  else ⟨s, List.replicate n 0#8, true⟩

/-- Write bytes at an internal address for an engine. -/
def State.busWrite (s : State) (a : Nat) (bytes : List Byte) : State :=
  if inDram a then s.bufWriteOfs (a - dramBase) bytes
  else if 0x20000000 ≤ a ∧ a + bytes.length ≤ 0x20400000 ∧ s.domOn 5 then
    { s with sram := Memory.writeBytes unlistedByte s.sram (a - 0x20000000) bytes }
  else s

/-- The bytes of 32-bit words, least significant byte first (R5). -/
def wordsToBytes (ws : List Nat) : List Byte := ws.flatMap (toBytes 4)

/-- The 32-bit word at byte offset `o` of a list of bytes. -/
def wordAt (bytes : List Byte) (o : Nat) : Nat := ofBytes ((bytes.drop o).take 4)

/-- The 64-bit value at byte offset `o` of a list of bytes. -/
def dwordAt (bytes : List Byte) (o : Nat) : Nat := ofBytes ((bytes.drop o).take 8)

/-! ### CRC-32C (R90) -/

/-- One bit of the reflected CRC-32C. -/
def crcBit (r : Nat) : Nat := if r % 2 = 1 then (r / 2) ^^^ 0x82F63B78 else r / 2

/-- One byte of the CRC-32C. -/
def crcByte (r : Nat) (b : Byte) : Nat :=
  crcBit (crcBit (crcBit (crcBit (crcBit (crcBit (crcBit (crcBit (r ^^^ b.toNat))))))))

/-- CRC-32C with initial value and final XOR of 0xFFFF_FFFF (R90). -/
def crc32c (bytes : List Byte) : Nat := bytes.foldl crcByte 0xFFFFFFFF ^^^ 0xFFFFFFFF

end Sys2Proof.Machine
end

