-- ==== Sys2Proof/Machine/Gates.lean ====
section
/-! DEFINITION. What the Angle Timebase and the channel of a section share: the angle and its arithmetic (R44 to R46), the
ATB's status fields (R48, R69), sector results (R116), and the write-inhibit path (R66, R67, R120, R184). -/

namespace Sys2Proof.Machine

open Sys2Proof

/-! ### Angles -/

/-- Counts in one revolution (R44). -/
def REV_COUNTS : Nat := 25165824

/-- Counts in one wedge interval (R9). -/
def WEDGE_COUNTS : Nat := 262144

/-- ext_dist() of R45: forward distance modulo 256 revolutions. -/
def extDist (revEv angEv revNow angNow : Nat) : Nat :=
  let span := 256 * REV_COUNTS
  (revEv % 256 * REV_COUNTS + angEv + span - (revNow % 256 * REV_COUNTS + angNow)) % span

/-- is_future() of R45 and R46. -/
def isFuture (d : Nat) : Bool := 1 ≤ d && d < 128 * REV_COUNTS

/-- counts_to_ns() of R45. -/
def countsToNs (d nsPerRev : Nat) : Nat := d * nsPerRev / REV_COUNTS

/-- Signed distance of an event that may be overdue: within ±128 revolutions. -/
def signedDist (d : Nat) : Int := if d < 128 * REV_COUNTS then (d : Int) else (d : Int) - 256 * REV_COUNTS

/-- A difference of two angles as the shorter signed way round. -/
def shortWay (x : Int) : Int :=
  let r := x % (REV_COUNTS : Int)
  if 2 * r > REV_COUNTS then r - REV_COUNTS else r

/-- Current angle of ATBn (R69). -/
def State.angle (s : State) (n : Fin 4) : Nat := s.rd (R.ATB_ANGLE n)

/-- Revolution counter of ATBn (R45). -/
def State.rev (s : State) (n : Fin 4) : Nat := s.rd (R.ATB_REV n)

/-- Set angle and revolution counter from an extended angle, which wraps with the 32-bit counter (R44, R45). -/
def State.setExt (s : State) (n : Fin 4) (e : Int) : State :=
  let m : Int := 4294967296 * REV_COUNTS
  let x := (e % m).toNat
  (s.setReg (R.ATB_ANGLE n) (x % REV_COUNTS)).setReg (R.ATB_REV n) (x / REV_COUNTS)

/-- Extended angle of ATBn (R45). -/
def State.ext (s : State) (n : Fin 4) : Nat := s.rev n * REV_COUNTS + s.angle n

/-- The surface has turned to raw angle `ang`: the angle runs forward and the counter increments past the index (R44; log 3). -/
def State.turnTo (s : State) (n : Fin 4) (ang : Nat) : State :=
  let a := ang % REV_COUNTS
  s.setExt n ((s.ext n + (a + REV_COUNTS - s.angle n % REV_COUNTS) % REV_COUNTS : Nat) : Int)

/-! ### Status of an ATB -/

/-- STATE codes (R48). -/
def stMASTER : Nat := 0
def stWEDGE : Nat := 1
def stLEDGE : Nat := 2
def stHOLDOVER : Nat := 3

/-- STATE of ATBn. -/
def State.atbState (s : State) (n : Fin 4) : Nat := s.fld (R.ATB_STATUS n) 2 0

/-- Selected head of section n. -/
def State.head (s : State) (n : Fin 4) : Nat := s.fld (R.ATB_STATUS n) 10 8

/-- Write inhibit as latched (R67, R69). -/
def State.winh (s : State) (n : Fin 4) : Bool := s.bit (R.ATB_STATUS n) 4

/-- Section n is fenced (R403). -/
def State.fenced (s : State) (n : Fin 4) : Bool := s.bit R.SUMP_FENCED n

/-- Retract machine of section n runs (R182). -/
def State.retracting (s : State) (n : Fin 4) : Bool := s.bit (R.ACT_STATUS n) 5

/-- Section n is parked (R182). -/
def State.parked (s : State) (n : Fin 4) : Bool := s.bit (R.ACT_STATUS n) 6

/-- Every section is parked. -/
def State.allParked (s : State) : Bool := s.parked 0 && s.parked 1 && s.parked 2 && s.parked 3

/-- The Wounser of the device that does not own the spindle rings PL_REPORT at the peer, once after a power-loss decision, when
every section it owns reads PARKED and its dump has ended (R364, R483). -/
def State.plTell (s : State) : State :=
  let d := s.fld R.BUF_DUMP_STATUS 1 0
  if s.bit R.MB_VER 31 && s.bit R.ROPE_STATUS 1 && !s.ownsSpin && s.maon.powerLossAt.isSome && s.allParked && decide (2 ≤ d)
      && !s.mbox.plTold then
    let w := (List.range 4).foldl (fun x k => x + 2 ^ (k + 1) * b2n (s.owned (k + 1))) 0
    let seq := (Config.freeWord s.free).toNat % 65536
    let s := { s.useFree with mbox := { s.mbox with plTold := true } }
    s.sendPeer (.mbox (0x83 + 65536 * seq) (w + 256 * b2n (d == 2) + 512 * b2n (d == 3) + 1024))
  else s

/-! ### Sector results (R116) -/

def resGOOD : Nat := 0
def resGOODHOLD : Nat := 1
def resUNCONV : Nat := 2
def resMARKMISS : Nat := 3
def resNOSLOT : Nat := 4
def resNOTREAD : Nat := 5
def resRECOVERED : Nat := 6
def resUNRECOVERED : Nat := 7
def resWRITTEN : Nat := 8
def resWRCUT : Nat := 9
def resUNDERRUN : Nat := 10

/-- A result word (R116). -/
def resWord (res iter step : Nat) (slot : Option Nat) (ofs0 ofs1 : Int) : Nat :=
  res + 16 * (iter % 128) + 2048 * (step % 16) + 32768 * (slot.getD 0 % 8) + 262144 * b2n slot.isSome
    + 524288 * ofS 6 ofs0 + 33554432 * ofS 6 ofs1

/-- Deliver a sector result towards the media DMA and copy it to CH_LAST_RES (R116). -/
def State.deliver (s : State) (n : Fin 4) (sid w : Nat) (block : Option (List Byte)) : State :=
  (s.onChan n (fun c => { c with up := c.up ++ [⟨sid, BitVec.ofNat 32 w, block⟩] })).setReg (R.CH_LAST_RES n) w

/-- A write sector ends: its result is delivered and its place in the write buffer is freed (R116, R117). -/
def State.endWrite (s : State) (n : Fin 4) (sid res : Nat) : State :=
  (s.onChan n (fun c => { c with wbuf := c.wbuf.filter (fun b => b.sid ≠ sid), firstW := none })).deliver n sid
    (resWord res 0 0 none 0 0) none

/-- Cut the open write fragment: the write gate drops; the sector is WR_CUT, at its LAST fragment (R96, R112, R118). -/
def State.cutWrite (s : State) (n : Fin 4) : State :=
  match (s.sec n).chan.wr with
  | none => s.onChan n (fun c => { c with wg := false })
  | some w =>
    let s := s.onChan n (fun c => { c with wg := false, wr := none, firstW := none })
    if w.frag.last then s.endWrite n w.sid resWRCUT else s

/-! ### The write-inhibit path (R66) -/

/-- An input of the table of R66 stands for section n. -/
def State.winhStanding (s : State) (n : Fin 4) : Bool :=
  s.bit (R.LOOP_STATUS n) 8                -- off-track
  || s.atbState n != stLEDGE               -- not in LEDGE, ledge loss
  || s.bit (R.ACT_STATUS n) 7              -- shock
  || s.bit (R.ACT_STATUS n) 12             -- preamp fault
  || s.sump.safeLine || s.maon.safe        -- safe state
  || s.maon.powerLossAt.isSome             -- power loss
  || !s.linkUp                             -- Passage down
  || s.fenced n || s.bit (R.ACT_STATUS n) 8 || s.retracting n || !s.ownsAct n

/-- Write inhibit is asserted: latched since an input last stood, or an input stands now (R66, R67). -/
def State.inhibited (s : State) (n : Fin 4) : Bool := s.winh n || s.winhStanding n

/-- Write inhibit asserts: the write gate drops, an open write is cut at the present angle, and the assist element is
turned off (R66, R67, R120). -/
def State.assertWinh (s : State) (n : Fin 4) : State :=
  let ang := s.angle n
  let open_ := (s.sec n).chan.wg
  let s := s.setBit (R.ATB_STATUS n) 4 true
  let s := s.onChan n (fun c => { c with assist := 0 })
  if open_ then (s.cutWrite n).onChan n (fun c => { c with cut := some ang }) else s

/-- Write inhibit asserts in every section. -/
def State.assertWinhAll (s : State) : State := s.forSecs (fun n s => s.assertWinh n)

/-- The off-track input cuts an asserted write: an OFFTRACK_WRITE message and its count beside the cut (R184). -/
def State.offtrackCut (s : State) (n : Fin 4) (tag : Nat) : State :=
  let ang := s.angle n
  if (s.sec n).chan.wg then
    ((s.assertWinh n).sendFault (srcLoop n) kOFFTRACK (angleAddr ang tag)).bump (R.ACT_CNT_OFFWR n)
  else s.assertWinh n

end Sys2Proof.Machine
end

