-- ==== Sys2Proof/Machine/Atb.lean ====
section
/-! DEFINITION. The Angle Timebase: event entries, their order and checks (R53 to R61), completion records and their holds
(R62, R63), steps (R52, R53), wedge syncs and the period (R47, R79 to R81), lock and loss (R48, R49), and the commands of
the event lists and of the tracking of the angle. -/

namespace Sys2Proof.Machine

open Sys2Proof

/-- What a meaning answers. -/
abbrev Res := Host.Outcome State Fault Refusal

/-! ### Entries (R55) -/

def Event.w (e : Event) : Nat := bitsOf e.w0.toNat 24 18
def Event.raw (e : Event) : Nat := bitsOf e.w0.toNat 24 0
def Event.rev (e : Event) : Nat := bitsOf e.w1.toNat 7 0
def Event.typ (e : Event) : Nat := bitsOf e.w1.toNat 11 8
def Event.cpl (e : Event) : Bool := bitOf e.w1.toNat 12
def Event.tag (e : Event) : Nat := bitsOf e.w1.toNat 31 16
def Event.p0 (e : Event) : Nat := e.w2.toNat
def Event.p1 (e : Event) : Nat := e.w3.toNat
def Event.sid (e : Event) : Nat := bitsOf e.w2.toNat 31 16

/-- Event types (R56). -/
def tyMARKER : Nat := 0
def tyRDON : Nat := 1
def tyRDOFF : Nat := 2
def tyWRON : Nat := 3
def tyWROFF : Nat := 4
def tyFMARK : Nat := 5
def tySERVOWIN : Nat := 6
def tyASSIST : Nat := 7
def tySNAPSHOT : Nat := 8
def tyHEADSW : Nat := 9
def tySETPOINT : Nat := 10
def tyLOOPMODE : Nat := 11
def tyMICROJOG : Nat := 12

/-- A motion type (R56). -/
def isMotion (t : Nat) : Bool := 9 ≤ t && t ≤ 12

/-- The order of types at one extended angle (R59). -/
def fireRank (t : Nat) : Nat :=
  match t with
  | 4 => 1
  | 2 => 2
  | 9 => 3
  | 11 => 4
  | 10 => 5
  | 12 => 6
  | 6 => 7
  | 5 => 8
  | 7 => 9
  | 3 => 10
  | 1 => 11
  | 8 => 12
  | _ => 13

/-- Completion statuses (R62). -/
def csDONE : Nat := 0
def csPASSED : Nat := 1
def csFULL : Nat := 2
def csBADANGLE : Nat := 3
def csBADTYPE : Nat := 4
def csINHIBITED : Nat := 5
def csHELD : Nat := 6
def csSKIPPED : Nat := 7
def csCANCELLED : Nat := 8
def csLINK : Nat := 9
def csCONFLICT : Nat := 10
def csFLUSHED : Nat := 11

/-- Signed distance of an entry from the present angle of ATBn (R45). -/
def State.evDist (s : State) (n : Fin 4) (e : Event) : Int :=
  signedDist (extDist e.rev e.raw (s.rev n) (s.angle n))

/-- The entry that fires next: least signed distance, then the order of R59, then load order. -/
def earliest (d : Event → Int) : List Event → Option Event
  | [] => none
  | e :: r =>
    match earliest d r with
    | none => some e
    | some f =>
      if d f < d e ∨ (d f = d e ∧ fireRank f.typ < fireRank e.typ) then some f else some e

/-- The entry of both lists that fires next. -/
def State.nextEvent (s : State) (n : Fin 4) : Option Event :=
  earliest (s.evDist n) ((s.sec n).atb.motion ++ (s.sec n).atb.data)

/-- Take an entry out of the list that holds it. -/
def State.dropEvent (s : State) (n : Fin 4) (e : Event) : State :=
  s.onAtb n (fun a => if isMotion e.typ then { a with motion := a.motion.erase e } else { a with data := a.data.erase e })

/-! ### Completion records (R62, R63) -/

/-- The record of an entry. `hold`: it fired while STATE was HOLDOVER (R62). -/
def State.mkRec (s : State) (n : Fin 4) (e : Event) (hold : Bool) (status ang : Nat) : CplRec :=
  let g := s.gtcM
  ⟨BitVec.ofNat 32 (e.tag + 65536 * status + 1048576 * e.typ + 16777216 * b2n e.late
      + 33554432 * b2n hold + 67108864 * s.atbState n),
   BitVec.ofNat 32 (ang % 2 ^ 25), BitVec.ofNat 32 (g % 2 ^ 32), BitVec.ofNat 32 (g / 2 ^ 32)⟩

/-- The bytes of a record. -/
def CplRec.bytes (r : CplRec) : List Byte := wordsToBytes [r.w0.toNat, r.w1.toNat, r.w2.toNat, r.w3.toNat]

/-- Write a 16-byte record into a ring at `lo`/`hi`, and advance the producer index (R63). -/
def State.ringWrite (s : State) (lo hi size prod : Nat) (rec_ : List Byte) (len : Nat) : State :=
  let i := s.rd prod
  (s.busWrite (s.rd64 lo hi + len * i) rec_).setReg prod (ringNext i (s.rd size))

/-- A destination can take a record: the link is up, the ring has room, the scheduler is there (R63). -/
def State.cplReady (s : State) (n : Fin 4) (d : CplDest) : Bool :=
  s.linkUp &&
  match d with
  | .data => !ringFull (s.rd (R.ATB_CPLD_PROD n)) (s.rd (R.ATB_CPLD_CONS n)) (s.rd (R.ATB_CPLD_SIZE n))
  | .motion => !ringFull (s.rd (R.ATB_CPLM_PROD n)) (s.rd (R.ATB_CPLM_CONS n)) (s.rd (R.ATB_CPLM_SIZE n))
  | .sched => s.domOn 7

/-- The hold of a destination. -/
def Atb.hold (a : Atb) : CplDest → List CplRec
  | .data => a.holdData
  | .motion => a.holdMotion
  | .sched => a.holdSched

/-- Replace the hold of a destination. -/
def Atb.setHold (a : Atb) (d : CplDest) (l : List CplRec) : Atb :=
  match d with
  | .data => { a with holdData := l }
  | .motion => { a with holdMotion := l }
  | .sched => { a with holdSched := l }

/-- Hand a record to its destination. -/
def State.sendRec (s : State) (n : Fin 4) (d : CplDest) (r : CplRec) : State :=
  match d with
  | .data =>
    s.ringWrite (R.ATB_CPLD_BASE_LO n) (R.ATB_CPLD_BASE_HI n) (R.ATB_CPLD_SIZE n) (R.ATB_CPLD_PROD n) r.bytes 16
  | .motion =>
    s.ringWrite (R.ATB_CPLM_BASE_LO n) (R.ATB_CPLM_BASE_HI n) (R.ATB_CPLM_SIZE n) (R.ATB_CPLM_PROD n) r.bytes 16
  | .sched => s.setSec n { s.sec n with msch := { (s.sec n).msch with notes := (s.sec n).msch.notes ++ [r] } }

/-- A record towards its destination: at once when nothing waits before it, else into the hold of 16; a record that finds
the hold full is lost (R63). -/
def State.putRec (s : State) (n : Fin 4) (d : CplDest) (e : Event) (r : CplRec) : State :=
  let h := (s.sec n).atb.hold d
  if h.isEmpty && s.cplReady n d then s.sendRec n d r
  else if h.length < 16 then s.onAtb n (fun a => a.setHold d (a.hold d ++ [r]))
  else (s.bump (R.ATB_CNT_LOST n)).sendFault (srcAtb n) kOVERRUN (angleAddr e.raw e.tag)

/-- REC's own entries write no record in any outcome (R55, R125). -/
def Event.isRec (e : Event) : Bool := 0xFFF0 ≤ e.tag

/-- Dispose of an entry with a status at an angle: records of events that are not executed are always written, that of an
executed one when CPL is 1 (R55). `hold`: STATE was HOLDOVER when the entry fell due (R62; log 91). -/
def State.complete (s : State) (n : Fin 4) (e : Event) (hold : Bool) (status ang : Nat) : State :=
  let s := if status = csDONE then s.pmuM (secEv n 0) else if status = csINHIBITED then s.pmuM (secEv n 3)
    else if status = csHELD then s.pmuM (secEv n 4) else s
  if e.isRec then s
  else if status = csDONE ∧ e.cpl = false then s
  else s.putRec n e.dest e (s.mkRec n e (hold && status == csDONE) status ang)

/-- Dispose of several entries with one status at the present angle (R62). -/
def State.completeAll (s : State) (n : Fin 4) (status : Nat) : List Event → State
  | [] => s
  | e :: r => State.completeAll (s.complete n e false status (s.angle n)) n status r

/-- Remove from both lists every entry that meets `f`, each completing with `status`. -/
def State.removeEvents (s : State) (n : Fin 4) (f : Event → Bool) (status : Nat) : State :=
  let a := (s.sec n).atb
  let out := (a.motion ++ a.data).filter f
  (s.onAtb n (fun a => { a with motion := a.motion.filter (fun e => !f e), data := a.data.filter (fun e => !f e) })).completeAll
    n status out

/-- Empty both lists: each entry completes FLUSHED if Passage is up, and without a record otherwise. -/
def State.flushEvents (s : State) (n : Fin 4) : State :=
  if s.linkUp then s.removeEvents n (fun _ => true) csFLUSHED
  else s.onAtb n (fun a => { a with motion := [], data := [] })

/-! ### Angle steps (R52, R53) -/

/-- Step the angle by a signed number of counts. Events strictly inside an interval skipped forward complete SKIPPED. -/
def State.stepAngle (s : State) (n : Fin 4) (delta : Int) : State :=
  let skipped := fun e => decide (0 < s.evDist n e ∧ s.evDist n e < delta)
  let s' := s.setExt n ((s.ext n : Int) + delta)
  if 0 < delta then s'.removeEvents n skipped csSKIPPED else s'

/-- The offset of head `h` of section n from the Master Angle (R51). -/
def State.headOfs (s : State) (n : Fin 4) (h : Nat) : Nat := s.fld (R.ATB_HEAD_OFS n h) 24 0

/-- Angle counts of one encoder count (R50). -/
def State.encStep (s : State) : Nat := REV_COUNTS / (4 * s.fld R.SP_ENC 12 0)

/-- The Master Angle: the angle of the last encoder edge, interpolated at the measured edge period up to, and not onto, the
next count (R50, R195; log 26). -/
def State.master (s : State) : Nat :=
  let base := s.fld R.SP_MANGLE 24 0
  match s.spin.edges with
  | (t1, fwd) :: (t0, _) :: _ =>
    let step := s.encStep
    let d := min (step - 1) ((s.gtc - t1) * step / max 1 (t1 - t0))
    if fwd then (base + d) % REV_COUNTS else (base + REV_COUNTS - d % REV_COUNTS) % REV_COUNTS
  | _ => base

/-- Period that SPIN's measured speed gives, 0 while no speed is known (R47). -/
def State.spinPeriod (s : State) : Nat :=
  let q := s.fld R.SP_SPEED 15 0
  if s.bit R.SP_SPEED 17 = false ∨ s.bit R.SP_SPEED 16 = true ∨ q < 120 then 0 else 240000000000 / q

/-- ATB_LEAD_CNT of a period: 2 µs in counts, rounded up; all ones at period 0 (R47). -/
def leadCnt (nsPerRev : Nat) : Nat :=
  if nsPerRev = 0 then 0xFFFFFFFF else (2000 * REV_COUNTS + nsPerRev - 1) / nsPerRev

/-- Present a revolution period, and the lead that follows from it (R47). -/
def State.setPeriod (s : State) (n : Fin 4) (p : Nat) : State :=
  (s.setReg (R.ATB_NS_PER_REV n) p).setReg (R.ATB_LEAD_CNT n) (leadCnt p)

/-- Follow SPIN's measured speed where R47 presents it: in MASTER, until 96 syncs have passed, and at no speed. -/
def State.refreshPeriod (s : State) (n : Fin 4) : State :=
  let p := s.spinPeriod
  if p = 0 ∨ s.atbState n = stMASTER ∨ (s.sec n).atb.syncCount < 96 then s.setPeriod n p else s

/-- Change STATE, with LOCK held in LEDGE alone. -/
def State.setAtbState (s : State) (n : Fin 4) (st : Nat) : State :=
  (s.setFld (R.ATB_STATUS n) 2 0 st).setBit (R.ATB_STATUS n) 3 (st == stLEDGE)

/-- Enter MASTER: the angle steps to Master Angle plus the selected head's offset (R52). Write inhibit stands (R66). -/
def State.enterMaster (s : State) (n : Fin 4) : State :=
  let s := s.assertWinh n
  let target := (s.master + s.headOfs n (s.head n)) % REV_COUNTS
  let s := s.stepAngle n (shortWay ((target : Int) - s.angle n))
  let s := s.setAtbState n stMASTER
  (s.onAtb n (fun a => { a with syncCount := 0, syncs := [], prevBad := none, slew := 0 })).refreshPeriod n

/-- An open read fragment runs on, its data marked as taken in HOLDOVER (R68). -/
def State.markHoldover (s : State) (n : Fin 4) : State :=
  s.onChan n (fun c => { c with rd := c.rd.map (fun sec =>
    { sec with frags := match sec.frags.reverse with
        | f :: r => ({ f with hold := true } :: r).reverse
        | [] => [] }) })

/-- Ledge loss is decided: HOLDOVER, write inhibit, a LEDGE_LOSS message and its count (R49, R41, R66). -/
def State.ledgeLoss (s : State) (n : Fin 4) : State :=
  let s := s.setAtbState n stHOLDOVER
  let s := s.onAtb n (fun a => { a with holdoverAt := s.gtc, lowRun := 0 })
  let s := s.markHoldover n
  ((s.countM (R.ATB_CNT_LEDGE_LOSS n) (secEv n 0x5)).sendFault (srcAtb n) kLEDGELOSS (angleAddr (s.angle n) 0)).assertWinh n

/-! ### Loading entries (R54 to R58) -/

/-- Stage word `k` (0 to 2) of an initiator's entry (R54). -/
def State.stageWord (s : State) (n : Fin 4) (i k : Nat) (w : Word) : State :=
  if h : i < 5 then
    if hk : k < 3 then
      s.onAtb n (fun a => { a with staging := a.staging.set i (a.staging[i].set k w) })
    else s
  else s

/-- Check an entry at insertion and take the first outcome of R57 that applies. `isCc`: it comes from the Control Core. -/
def State.insertEvent (s : State) (n : Fin 4) (isCc : Bool) (e : Event) : State :=
  let a := (s.sec n).atb
  let e := { e with dest := if isMotion e.typ then .motion else if e.tag / 16384 = 2 then .sched else .data }
  let d := extDist e.rev e.raw (s.rev n) (s.angle n)
  let fault (s : State) (kind : Nat) : State := s.sendFault (srcAtb n) kind (angleAddr e.raw e.tag)
  if 13 ≤ e.typ ∨ (isMotion e.typ ∧ isCc = false) ∨ e.isRec then
    (fault s kPROTOCOL).putRec n e.dest e (s.mkRec n e false csBADTYPE (s.angle n))
  else if 96 ≤ e.w then
    (fault s kPROTOCOL).putRec n e.dest e (s.mkRec n e false csBADANGLE (s.angle n))
  else if (if isMotion e.typ then 64 ≤ a.motion.length else 256 ≤ a.data.length) then
    (fault s kOVERRUN).putRec n e.dest e (s.mkRec n e false csFULL (s.angle n))
  else if !isFuture d then
    ((fault s kOVERRUN).countM (R.ATB_CNT_PASSED n) (secEv n 0x2)).putRec n e.dest e (s.mkRec n e false csPASSED (s.angle n))
  else
    let late := decide (d < s.rd (R.ATB_LEAD_CNT n))
    let e := { e with late := late, at_ := s.gtc }
    let s := if late then s.countM (R.ATB_CNT_LATE n) (secEv n 0x1) else s
    s.onAtb n (fun a => if isMotion e.typ then { a with motion := a.motion ++ [e] } else { a with data := a.data ++ [e] })

/-- An entry's class for R27: motion entries come from the Control Core only. -/
def EventInFlight.event (f : EventInFlight) : Event := { w0 := f.w0, w1 := f.w1, w2 := f.w2, w3 := f.w3 }

/-- The first entry in flight towards section n, and the rest. -/
def takeFlight (n : Fin 4) : List EventInFlight → Option (EventInFlight × List EventInFlight)
  | [] => none
  | f :: r => if f.sec = n then some (f, r) else (takeFlight n r).map (fun p => (p.1, f :: p.2))

/-- EVENT_COMMIT: a write to ATB_EVT_W3 commits the initiator's staged entry into Passage's event-load class (R54, R30).
While Passage is down the entry is discarded and PASSH sends TIMEOUT (R31). -/
def State.eventCommit (s : State) (n : Fin 4) (i : Initiator) (w3 : Word) : State :=
  if h : iniIdx i < 5 then
    let st := (s.sec n).atb.staging[iniIdx i]
    if s.linkUp then
      { s with pass := { s.pass with events := s.pass.events ++ [⟨i, n, st[0], st[1], st[2], w3⟩] } }
    else s.sendFault 208 kTIMEOUT (R.ATB_EVT_W n 3)
  else s

/-- EVENT_INSERT: the next entry in flight to section n completes insertion at angle `ang` and is checked (R57, R58). -/
def State.eventInsert (s : State) (n : Fin 4) (ang : Nat) : State :=
  match takeFlight n s.pass.events with
  | none => s
  | some (f, rest) =>
    let s := { s with pass := { s.pass with events := rest } }
    (s.turnTo n ang).insertEvent n (iniIsCc f.ini) f.event

/-- ATB_CANCEL: the matching entries complete CANCELLED; from an application core in the data list alone (R69). REC's
entries are not affected (R125). -/
def State.atbCancel (s : State) (n : Fin 4) (i : Initiator) (w : Nat) : State :=
  let tag := w % 65536
  let mask := w / 65536
  s.removeEvents n (fun e =>
    (e.tag &&& mask) == (tag &&& mask) && !e.isRec && (iniIsCc i || !isMotion e.typ)) csCANCELLED

/-- COMPLETION_RECORD_DELIVER: the oldest record of a hold leaves it once its destination can take it (R63). -/
def State.deliverHeld (s : State) (n : Fin 4) (d : CplDest) : State :=
  match (s.sec n).atb.hold d with
  | [] => s
  | r :: rest => if s.cplReady n d then (s.onAtb n (fun a => a.setHold d rest)).sendRec n d r else s

/-- ATB_HEAD_OFS_WRITE: in MASTER for the selected head the angle steps at once (R51, R52). -/
def State.writeHeadOfs (s : State) (n : Fin 4) (h v : Nat) : State :=
  let old := s.headOfs n h
  let s := s.setFld (R.ATB_HEAD_OFS n h) 24 0 v
  if s.atbState n = stMASTER ∧ s.head n = h then s.stepAngle n (shortWay ((s.headOfs n h : Int) - old)) else s

/-! ### Wedge results (R78 to R81) -/

/-- The check of a wedge word: the remainder of W·x^5 divided by x^5 + x^2 + 1 (R78). -/
def wedgeCheckFrom (r : Nat) : Nat → Nat
  | 0 => r
  | k + 1 => wedgeCheckFrom (if bitOf r (k + 5) then r ^^^ (0x25 * 2 ^ k) else r) k

/-- The five check bits of wedge index `w`. -/
def wedgeCheck (w : Nat) : Nat := wedgeCheckFrom (w * 32) 7

/-- Gray decoding of a track ID (R78): the XOR of all right shifts. -/
def grayDecode (g : Nat) : Nat :=
  let a := g ^^^ (g / 2 ^ 16)
  let b := a ^^^ (a / 2 ^ 8)
  let c := b ^^^ (b / 2 ^ 4)
  let d := c ^^^ (c / 2 ^ 2)
  d ^^^ (d / 2)

/-- The angle of the wedge sync of wedge `w`: W:0x0_0D00 (R79). -/
def syncAngle (w : Nat) : Nat := w * WEDGE_COUNTS + 0xD00

/-- The period that syncs give: from the oldest sync within the last 96 intervals to the present one (R47). -/
def syncPeriod (now : SyncRec) (old : List SyncRec) : Option Nat :=
  match (old.filter (fun r => r.idx < now.idx && now.idx ≤ r.idx + 96)).getLast? with
  | none => none
  | some r => some ((now.gtc - r.gtc) * 96 / (now.idx - r.idx))

/-- The angle report of a wedge sync, which every SAM found in a window gives (R80), written while ATB_RPT_ADDR_HI is not 0 (R64). -/
def State.angleReport (s : State) (n : Fin 4) : State :=
  let g := s.gtcM
  let ws := [s.angle n + 2 ^ 25 * s.atbState n, s.rev n, g % 2 ^ 32, g / 2 ^ 32, s.rd (R.ATB_NS_PER_REV n), 0, 0, 0]
  if s.rd (R.ATB_RPT_ADDR_HI n) ≠ 0 ∧ s.linkUp then
    s.busWrite (s.rd64 (R.ATB_RPT_ADDR_LO n) (R.ATB_RPT_ADDR_HI n)) (wordsToBytes ws)
  else s

/-- SPIN compares the named ATB's angle with the reference that advances from the GTC at SP_TGT.RPM (R198; log 27). -/
def State.diskSync (s : State) (n : Fin 4) : State :=
  if s.srcAct ∧ s.fld R.SP_TGT 18 17 = n.val then
    let ref := s.gtcM * s.fld R.SP_TGT 13 0 * REV_COUNTS / 60000000000 % REV_COUNTS
    let d := (shortWay ((s.angle n : Int) - ref)).natAbs
    let tol := s.fld R.SP_LOCK 31 16
    let s := s.setBit R.SP_STATUS 13 (decide (d ≤ tol))
    let x := s.spin
    let synced := x.synced || decide (d ≤ tol)
    let bad := if synced ∧ 4 * tol < d then x.syncBad + 1 else 0
    if 2 ≤ bad then
      ({ s with spin := { x with srcLost := true, synced := false, syncBad := 0 } }.setBit R.SP_STATUS 13 false).sendFault
        528 kSPINSYNC 0
    else { s with spin := { x with synced := synced, syncBad := bad } }
  else s

/-- A wedge sync is taken at wedge `w`: the angle is stepped or slewed to the sync's absolute angle, MASTER is left for
WEDGE, and the period is recomputed (R47, R52, R79, R81). -/
def State.takeSync (s : State) (n : Fin 4) (w : Nat) : State :=
  let wasMaster := s.atbState n == stMASTER
  let err := shortWay ((syncAngle w : Int) - s.angle n)
  let s :=
    if wasMaster ∨ err.natAbs > 1024 then (s.stepAngle n err).onAtb n (fun a => { a with slew := 0 })
    else s.onAtb n (fun a => { a with slew := err })
  let s := if wasMaster then (s.setAtbState n stWEDGE).onAtb n (fun a => { a with syncCount := 0, syncs := [] }) else s
  let now : SyncRec := ⟨s.gtcM, s.rev n * 96 + w⟩
  let old := (s.sec n).atb.syncs
  let s := s.onAtb n (fun a =>
    { a with syncs := now :: old.filter (fun r => now.idx ≤ r.idx + 96), syncCount := min 96 (a.syncCount + 1), prevBad := none })
  if s.spinPeriod = 0 ∨ (s.sec n).atb.syncCount < 96 then s.refreshPeriod n
  else match syncPeriod now old with
    | some p => s.setPeriod n p
    | none => s

/-- The wedge result words of a window (R80). -/
def wedgeWord0 (widx : Nat) (wok samf agree : Bool) : Nat := widx + 128 * b2n wok + 256 * b2n samf + 512 * b2n agree

/-- A load counts consecutive results with WOK 1 and AGREE 1 (R181 step 4). -/
def State.loadWedge (s : State) (n : Fin 4) (good : Bool) : State :=
  s.setSec n { s.sec n with load := (s.sec n).load.map (fun l => { l with good := if good then l.good + 1 else 0 }) }

/-- The wedge detector delivers the result of the open window (R80, R81). `ang`: the ATB's angle at the end of the last
SAM cell, or at the end of the window when no SAM was found. -/
def State.wedgeResult (s : State) (n : Fin 4) (ang : Nat) (samf : Bool) (word gray bursts : Nat) : State :=
  match (s.sec n).atb.win with
  | none => s
  | some (start, len) =>
    let s := (s.turnTo n ang).onAtb n (fun a => { a with win := none })
    let inside := decide ((s.angle n + REV_COUNTS - start) % REV_COUNTS < len)
    let found := samf && inside
    let widx := word / 32 % 128
    let wok := found && word % 32 == wedgeCheck widx && decide (widx ≤ 95)
    let agree := found && widx == s.angle n / WEDGE_COUNTS
    let prev := (s.sec n).atb.prevBad
    let follows := match prev with
      | some p => (p + 1) % 96 == widx
      | none => false
    let s := s.onAtb n (fun a => { a with
      wedge0 := BitVec.ofNat 32 (if found then wedgeWord0 widx wok true agree else 0)
      wedge1 := BitVec.ofNat 32 (if found then grayDecode gray else 0)
      wedge2 := BitVec.ofNat 32 (if found then bursts else 0)
      prevBad := if wok && !agree then some widx else none })
    let s := s.loadWedge n (wok && agree)
    let s := if wok then s else s.pmuM (secEv n 6)
    let s := if found then (s.setReg (R.LOOP_TRK n) (grayDecode gray)).onLoop n (fun l => { l with burstNew := true }) else s
    let s := if wok && (agree || follows) then s.takeSync n widx else s
    if found then (s.diskSync n).angleReport n else s

/-! ### The commands -/

/-- EVENT_COMMIT (R54). -/
def execEventCommit (t : Nat) (i : Initiator) (n : Fin 4) (w3 : BitVec 32) (s : State) : Res :=
  .next ((s.at t).eventCommit n i w3)

/-- EVENT_INSERT (R57). -/
def execEventInsert (t : Nat) (n : Fin 4) (ang : Nat) (s : State) : Res :=
  .next ((s.at t).eventInsert n ang)

/-- COMPLETION_RECORD_DELIVER (R63). -/
def execCompletionRecordDeliver (t : Nat) (n : Fin 4) (dest : CplDest) (s : State) : Res :=
  .next ((s.at t).deliverHeld n dest)

/-- HOLDOVER_TIMEOUT: two wedge intervals have passed in HOLDOVER without lock; the ATB moves to WEDGE (R49). -/
def State.holdoverTimeout (s : State) (n : Fin 4) : State :=
  if s.atbState n = stHOLDOVER ∧ s.rd (R.ATB_NS_PER_REV n) / 48 ≤ s.gtc - (s.sec n).atb.holdoverAt
  then s.setAtbState n stWEDGE else s

/-- HOLDOVER_TIMEOUT (R49). -/
def execHoldoverTimeout (t : Nat) (n : Fin 4) (s : State) : Res :=
  .next ((s.at t).holdoverTimeout n)

/-- TONE_PHASE_LOSS: four consecutive tone cycles beyond 2 × LOCK_TOL: ledge loss from LEDGE (R49). -/
def execTonePhaseLoss (t : Nat) (n : Fin 4) (s : State) : Res :=
  let s := s.at t
  .next (if s.atbState n = stLEDGE then s.ledgeLoss n else s)

end Sys2Proof.Machine
end

