-- ==== Sys2Proof/Machine/Format.lean ====
section
/-! DEFINITION. The media format: placement of sectors (R82 to R85), ledge records (R76) and the demodulator's
conversion (R74), zone tables and their checks (R86, R87), the information block (R89 to R91), the scrambler (R93) and the
sector code (R92, R94, R95). -/

namespace Sys2Proof.Machine

open Sys2Proof

/-! ### Positions and placement -/

/-- Bit positions of a data region: L of R82. -/
def regionLen (n : Nat) : Nat := 245504 * n / 262144

/-- Angle of bit position `p` of wedge interval `w` (R82). -/
def bitAngle (n w p : Nat) : Nat := w * 262144 + 0x4000 + p * 262144 / n

/-- A fragment as place() puts it (R84): sector, logical region, bit position, columns, FM_CONT. -/
structure Placed where
  s : Nat
  w : Nat
  p : Nat
  m : Nat
  cont : Bool
deriving DecidableEq, Repr

/-- place() of R84 for the sectors from `s` on, `left` of them. -/
def placeFrom (len : Nat) : (left s w pos : Nat) → Option (List Placed)
  | 0, _, _, _ => some []
  | left + 1, s, w, pos =>
    if 95 < w then none
    else if pos + 38016 ≤ len then
      (placeFrom len left (s + 1) w (pos + 38016)).map (fun r => ⟨s, w, pos, 74, false⟩ :: r)
    else
      let room := if pos + 128 < len then len - pos - 128 else 0
      let m := room / 512
      if 8 ≤ m then
        if 95 < w + 1 then none
        else (placeFrom len left (s + 1) (w + 1) (128 + 512 * (74 - m))).map
          (fun r => ⟨s, w, pos, m, false⟩ :: ⟨s, w + 1, 0, 74 - m, true⟩ :: r)
      else if 95 < w + 1 then none
      else (placeFrom len left (s + 1) (w + 1) 38016).map (fun r => ⟨s, w + 1, 0, 74, false⟩ :: r)

/-- place(): none if the zone cannot hold `count` sectors (R84). -/
def place (n count : Nat) : Option (List Placed) := placeFrom (regionLen n) count 0 0 0

/-- The zone of a table that covers track `t` (R88). -/
def ZoneTable.zoneOf (z : ZoneTable) (t : Nat) : Option Zone :=
  z.zones.find? (fun e => e.first ≤ t && t < e.first + e.count)

/-- The physical wedge interval of logical region `w` of track `t` (R85). -/
def Zone.wedge (z : Zone) (w t : Nat) : Nat := (w + z.baseSkew + z.trackSkew * (t - z.first)) % 96

/-! ### Ledge records and position samples -/

/-- pes_from() of R74. -/
def pesFrom (a b : Nat) (lin : List Int) : Int :=
  let d : Int := (a : Int) - b
  let t : Int := (a : Int) + b
  let rho := if t = 0 then 0 else satS 16 (divT (d * 32768) t)
  let x := (rho + 32768).toNat
  let k := x / 2048
  let f : Int := (x % 2048 : Nat)
  let l0 := lin.getD k 0
  let l1 := lin.getD (k + 1) 0
  satS 16 (l0 + asr ((l1 - l0) * f + 1024) 11)

/-- A list of integers rises strictly. -/
def strictlyRising : List Int → Bool
  | [] => true
  | [_] => true
  | a :: b :: r => decide (a < b) && strictlyRising (b :: r)

/-- Read a ledge record of 80 bytes: HEAD and the record, rejected under R76. -/
def parseLedge (bytes : List Byte) : Option (Nat × LedgeRec) :=
  let u16 (o : Nat) : Nat := ofBytes ((bytes.drop o).take 2)
  let lin := (List.range 33).map (fun k => toS 16 (u16 (8 + 2 * k)))
  let m := u16 2
  if bytes.length = 80 ∧ wordAt bytes 76 = crc32c (bytes.take 76) ∧ strictlyRising lin ∧ m % 4096 ≠ 0
  then some (u16 0, ⟨m % 4096, toS 16 (u16 4), lin⟩) else none

/-! ### Zone tables -/

/-- Read one zone entry of 16 bytes (R86). -/
def parseZone (b : List Byte) : Zone :=
  ⟨wordAt b 0, wordAt b 4, wordAt b 8, ofBytes ((b.drop 12).take 2), ofBytes ((b.drop 14).take 1), ofBytes ((b.drop 15).take 1)⟩

/-- The fields of a zone lie in their ranges (R82, R86). -/
def Zone.ok (z : Zone) : Bool :=
  z.first < 2 ^ 24 && 1 ≤ z.count && 65536 ≤ z.n && z.n ≤ 1048560 && z.n % 16 == 0 && 1 ≤ z.s && z.s ≤ 4095
    && z.trackSkew ≤ 95 && z.baseSkew ≤ 95

/-- Zones stand in ascending order and do not overlap (R87). -/
def zonesOrdered : List Zone → Bool
  | [] => true
  | [_] => true
  | a :: b :: r => decide (a.first + a.count ≤ b.first) && zonesOrdered (b :: r)

/-- The channel rate of N at a speed stays within 8.0 Gb/s: N × 96 × rpm / 60 (R82, R87). -/
def rateOk (n rpm : Nat) : Bool := n * 96 * rpm ≤ 8000000000 * 60

/-- Read and check a zone table for device head `head` at the highest speed configured (R86, R87). -/
def parseZoneTable (head maxRpm : Nat) (b : List Byte) : Option ZoneTable :=
  let cnt := ofBytes ((b.drop 6).take 2)
  let tracks := wordAt b 8
  let zs := (List.range cnt).map (fun k => parseZone ((b.drop (16 + 16 * k)).take 16))
  let len := 16 + 16 * cnt
  if wordAt b 0 = 0x5A540001 ∧ ofBytes ((b.drop 4).take 2) = head ∧ 1 ≤ cnt ∧ cnt ≤ 256 ∧ 1 ≤ tracks ∧ tracks ≤ 16777216
      ∧ wordAt b 12 = 0 ∧ len + 4 ≤ b.length ∧ wordAt b len = crc32c (b.take len)
      ∧ zs.all Zone.ok ∧ zonesOrdered zs ∧ zs.all (fun z => z.first + z.count ≤ tracks)
      ∧ zs.all (fun z => (place z.n z.s).isSome) ∧ zs.all (fun z => rateOk z.n maxRpm)
  then some ⟨tracks, zs⟩ else none

/-! ### The scrambler (R93) -/

/-- One step of the scrambler: output bit and next state. -/
def scrStep (s : Nat) : Nat × Nat :=
  let fb := b2n ((bitOf s 15 != bitOf s 13) != (bitOf s 12 != bitOf s 10))
  (b2n (bitOf s 15), (s * 2 + fb) % 65536)

/-- The next `k` scrambler outputs as a number, first output lowest, and the state after them. -/
def scrBits : Nat → Nat → Nat × Nat
  | 0, s => (0, s)
  | k + 1, s =>
    let o := scrStep s
    let r := scrBits k o.2
    (o.1 + 2 * r.1, r.2)

/-- Scramble or descramble bytes from state `s` on. -/
def scrambleFrom : Nat → List Byte → List Byte
  | _, [] => []
  | s, b :: r =>
    let o := scrBits 8 s
    (b ^^^ BitVec.ofNat 8 o.1) :: scrambleFrom o.2 r

/-- The seed of an LBA (R93, R97). -/
def scrSeed (lba : Nat) : Nat :=
  let s := (lba % 65536) ^^^ 0x5A5A
  if s = 0 then 1 else s

/-- scramble() of R93 over the bytes of an information block. -/
def scramble (lba : Nat) (bytes : List Byte) : List Byte := scrambleFrom (scrSeed lba) bytes

/-! ### The sector code (R92, R94, R95) -/

/-- rot(x, s)[i] = x[(i + s) mod 512]. -/
def rot512 (x s : Nat) : Nat := x / 2 ^ s + x % 2 ^ s * 2 ^ (512 - s)

/-- Information columns of a block: 66 columns of 512 bits (R92). -/
def infoCols (bytes : List Byte) : List Nat :=
  (List.range 66).map (fun c => ofBytes ((bytes.drop (64 * c)).take 64))

/-- Shift s(r, c) (R94). -/
def ldpcShift (r c : Nat) : Nat := (r * c * c + 17 * r + 5 * c) % 512

/-- Information column `c` has a non-zero block in row `r` (R94). -/
def ldpcHas (r c : Nat) : Bool :=
  r == c % 8 || r == (c + 1) % 8 || r == (c + 3) % 8 || r == (c + 7) % 8

/-- lam[r] of R95 over the columns from `c` on. -/
def lamFrom (r : Nat) : Nat → List Nat → Nat
  | _, [] => 0
  | c, u :: us => (if ldpcHas r c then rot512 u (ldpcShift r c) else 0) ^^^ lamFrom r (c + 1) us

/-- The eight parity columns of 66 information columns (R95). -/
def parityCols (u : List Nat) : List Nat :=
  let lam (r : Nat) : Nat := lamFrom r 0 u
  let q0 := lam 0 ^^^ lam 1 ^^^ lam 2 ^^^ lam 3 ^^^ lam 4 ^^^ lam 5 ^^^ lam 6 ^^^ lam 7
  let q1 := lam 0 ^^^ rot512 q0 1
  let q2 := lam 1 ^^^ q1
  let q3 := lam 2 ^^^ q2
  let q4 := lam 3 ^^^ q3 ^^^ q0
  let q5 := lam 4 ^^^ q4
  let q6 := lam 5 ^^^ q5
  let q7 := lam 6 ^^^ q6
  [q0, q1, q2, q3, q4, q5, q6, q7]

/-- The codeword of a block, as 74 columns (R92 to R95). -/
def encodeCols (seed : Nat) (bytes : List Byte) : List Nat :=
  let u := infoCols (scramble seed bytes)
  u ++ parityCols u

/-! ### The information block (R89, R91) -/

/-- What a media operation descriptor gives one sector's block. -/
structure BlockFields where
  lba : Nat
  wstamp : Nat
  ktag : Nat
  ctag : Nat
  nsid : Nat
  hmdLen : Nat
  hmd : List Byte
deriving DecidableEq, Repr

/-- The 128 bytes of device metadata without the CRC: HMD to byte 4,219 (R89). -/
def metaBytes (f : BlockFields) : List Byte :=
  let h := f.hmd.take f.hmdLen
  h ++ List.replicate (16 - h.length) 0#8 ++ toBytes 8 (f.lba % 2 ^ 36) ++ toBytes 8 f.wstamp ++ toBytes 4 f.ktag
    ++ toBytes 4 f.ctag ++ toBytes 4 f.nsid ++ [0x01#8] ++ toBytes 1 f.hmdLen ++ List.replicate 78 0#8

/-- Build an information block of 4,224 bytes (R89, R91). -/
def buildBlock (data : List Byte) (f : BlockFields) : List Byte :=
  let b := data ++ metaBytes f
  b ++ toBytes 4 (crc32c b)

/-- The CRC of a block matches (R39, R123). -/
def blockCrcOk (b : List Byte) : Bool := wordAt b 4220 == crc32c (b.take 4220)

end Sys2Proof.Machine
end

