-- ==== Sys2Proof/Machine/Channel.lean ====
section
/-! DEFINITION. The read/write channels: fragments and gates (R109 to R115, R117, R118), the iteration pool and the decoder
(R104 to R106, R116, R131), the sample buffer (R107, R108), the recovery sequencer REC (R122 to R130), and their commands. -/

namespace Sys2Proof.Machine

open Sys2Proof

/-! ### Fragment descriptors (R109, R111) -/

/-- A fragment descriptor in P0 and P1 of an RD_ON or WR_ON. -/
structure Desc where
  m : Nat
  kind : Nat
  last : Bool
  sid : Nat
  seed : Nat
  rmode : Nat
  eqset : Nat
  keep : Bool
  accum : Bool
  nosync : Bool
deriving DecidableEq, Repr

/-- The descriptor an entry carries (R109). -/
def Event.desc (e : Event) : Desc :=
  ⟨bitsOf e.p0 6 0, bitsOf e.p0 7 7, bitOf e.p0 8, bitsOf e.p0 31 16, bitsOf e.p1 15 0, bitsOf e.p1 17 16,
   bitsOf e.p1 21 18, bitOf e.p1 22, bitOf e.p1 23, bitOf e.p1 24⟩

/-- The channel accepts a descriptor (R111; log 22: a non-zero reserved bit is ignored, as R13 has it for registers). -/
def Desc.ok (d : Desc) (write : Bool) : Bool :=
  8 ≤ d.m && d.m ≤ 74 && (if write then d.rmode == 0 && d.eqset == 0 else d.rmode ≤ 2 && d.eqset ≤ 8)
    && !(d.kind == 1 && !d.last) && !(d.kind == 0 && d.m < 74 && d.last)

/-- An angle and TAG address of an entry for a channel message. -/
def State.chanProtocol (s : State) (n : Fin 4) (e : Event) : State :=
  s.sendFault (srcChan n) kPROTOCOL (angleAddr e.raw e.tag)

/-! ### Slots (R107, R108) -/

/-- The slot that holds samples of a sector under the same SID and head. -/
def Chan.heldSlot (c : Chan) (sid head : Nat) : Option (Fin 8) :=
  (List.finRange 8).find? (fun k => match c.slots[k] with
    | some t => t.sector.sid == sid && t.sector.head == head
    | none => false)

/-- The lowest free slot. -/
def Chan.freeSlot (c : Chan) : Option (Fin 8) := (List.finRange 8).find? (fun k => c.slots[k].isNone)

/-- HELD: bit n is 1 while slot n is held (R132). -/
def Chan.heldMask (c : Chan) : Nat :=
  (List.finRange 8).foldl (fun m k => m + if c.slots[k].isSome then 2 ^ k.val else 0) 0

/-- Place a sector's samples: added into the held slot under ACCUM, else into the lowest free slot (R108). -/
def State.placeSlot (s : State) (n : Fin 4) (sec : Sector) : State × Option Nat :=
  let c := (s.sec n).chan
  match (if sec.accum then c.heldSlot sec.sid sec.head else none) with
  | some k =>
    (s.onChan n (fun c => { c with slots := c.slots.set k (c.slots[k].map (fun t => { t with reads := t.reads + 1 })) }), some k.val)
  | none =>
    match c.freeSlot with
    | some k => (s.onChan n (fun c => { c with slots := c.slots.set k (some ⟨sec, 1⟩) }), some k.val)
    | none => (s, none)

/-- Mark offsets of the first and second fragment of a sector. -/
def Sector.ofs0 (x : Sector) : Int := match x.frags with
  | f :: _ => f.ofs
  | [] => 0
def Sector.ofs1 (x : Sector) : Int := match x.frags with
  | _ :: f :: _ => f.ofs
  | _ => 0

/-- A sector read in normal service ends with a result: counters, a slot where R108 gives one, and delivery (R116). While
Passage is down the block does not cross: NOTREAD, the samples kept as long as room remains (R33, R538). -/
def State.endRead (s : State) (n : Fin 4) (sec : Sector) (res : Nat) (block : Option (List Byte)) : State :=
  let failed := res == resUNCONV || res == resMARKMISS
  let lost := !s.linkUp
  let s := s.countM (R.CH_CNT_SECT n) (secEv n 0x10)
  let p := if failed || sec.keep || sec.accum || lost then s.placeSlot n sec else (s, none)
  let res := if failed && p.2.isNone then resNOSLOT else if lost && !failed then resNOTREAD else res
  let s := p.1
  let s := if res = resUNCONV then s.countM (R.CH_CNT_UNCONV n) (secEv n 0x11)
    else if res = resMARKMISS then s.countM (R.CH_CNT_MARKMISS n) (secEv n 0x12)
    else if res = resNOSLOT then s.bump (R.CH_CNT_NOSLOT n) else s
  s.deliver n sec.sid (resWord res sec.iters 0 p.2 sec.ofs0 sec.ofs1) (if lost then none else block)

/-- A sector ends as NOTREAD: nothing was decoded and no slot is taken (R111, R112). -/
def State.endNotread (s : State) (n : Fin 4) (sid : Nat) : State :=
  s.deliver n sid (resWord resNOTREAD 0 0 none 0 0) none

/-! ### The decoder (R105, R106) -/

/-- Iterations a codeword's transfer time credits: whole 592 ns intervals in 37,888 bit times (R106). -/
def poolCredit (zoneN nsPerRev : Nat) : Nat := if zoneN = 0 then 0 else 37888 * nsPerRev / (zoneN * 96) / 592

/-- Start the next iteration of normal service: a sector at MAX, or with the pool empty, ends UNCONV and the next one is
judged (R106). -/
def State.startIter : Nat → State → Fin 4 → State
  | 0, s, _ => s
  | fuel + 1, s, n =>
    match (s.sec n).chan.inq with
    | [] => s
    | j :: rest =>
      if j.running then s
      else if s.fld (R.CH_ITER n) 6 0 ≤ j.iters ∨ (s.sec n).chan.pool = 0 then
        let s := s.onChan n (fun c => { c with inq := rest })
        State.startIter fuel (s.endRead n j resUNCONV none) n
      else
        (s.onChan n (fun c => { c with
          pool := c.pool - 1
          inq := { j with running := true, iters := j.iters + 1 } :: rest })).countM (R.CH_CNT_ITER n) (secEv n 0x13)

/-- A codeword enters the decoder input buffer: the pool is credited; with five codewords held the oldest is abandoned as
UNCONV first (R106). -/
def State.enterDecoder (s : State) (n : Fin 4) (sec : Sector) : State :=
  let cred := poolCredit (s.sec n).chan.zoneN (s.rd (R.ATB_NS_PER_REV n))
  let s := s.onChan n (fun c => { c with pool := min (c.pool + cred) (s.fld (R.CH_ITER n) 14 8) })
  let s := match (s.sec n).chan.inq with
    | j :: rest =>
      if 5 ≤ (s.sec n).chan.inq.length then
        (s.onChan n (fun c => { c with inq := rest })).endRead n { j with running := false } resUNCONV none
      else s
    | [] => s
  State.startIter 6 (s.onChan n (fun c => { c with inq := c.inq ++ [sec] })) n

/-- One decoder iteration of normal service ends (R105). `info`: the information bytes as decoded, still scrambled. -/
def State.decoderIteration (s : State) (n : Fin 4) (conv : Bool) (info : List Byte) : State :=
  match (s.sec n).chan.inq with
  | [] => s
  | j :: rest =>
    if j.running then
      let j := { j with running := false }
      if conv then
        let s := s.onChan n (fun c => { c with inq := rest })
        let res := if j.frags.any (fun f => f.hold) then resGOODHOLD else resGOOD
        State.startIter 6 (s.endRead n j res (some (scramble j.seed info))) n
      else State.startIter 6 (s.onChan n (fun c => { c with inq := j :: rest })) n
    else s

/-! ### The mark search (R113, R114) -/

/-- The better of two candidates: the smaller |d|, then the higher C, then −d. -/
def betterMark (a b : Int × Nat) : Int × Nat :=
  if b.1.natAbs < a.1.natAbs then b
  else if a.1.natAbs < b.1.natAbs then a
  else if a.2 < b.2 then b
  else if b.2 < a.2 then a
  else if b.1 < a.1 then b else a

/-- The winning offset among the scores C(d) of a window of half-width `win` at threshold `thr`. -/
def markSearch (win thr : Nat) (scores : List (Int × Nat)) : Option Int :=
  match scores.filter (fun p => p.1.natAbs ≤ win && thr ≤ p.2) with
  | [] => none
  | p :: r => some (r.foldl betterMark p).1

/-- Settle a fragment's mark: the search of its open window, or d = 0 without one (R113 to R115). -/
def Frag.settle (f : Frag) (nosync : Bool) (scores : List (Int × Nat)) : Frag :=
  if f.searched then f
  else match f.window, nosync with
    | some (win, thr), false =>
      match markSearch win thr scores with
      | some d => { f with searched := true, ofs := d }
      | none => { f with searched := true, missed := true }
    | _, _ => { f with searched := true, ofs := 0 }

/-- Settle the newest fragment of a sector. -/
def Sector.settle (x : Sector) (scores : List (Int × Nat)) : Sector :=
  match x.frags.reverse with
  | f :: r => { x with frags := (f.settle x.nosync scores :: r).reverse }
  | [] => x

/-- A sector's last body column is in: an orphan second fragment is NOTREAD, a missed mark MARKMISS, anything else goes to
the decoder (R105, R112, R115). -/
def State.sectorIn (s : State) (n : Fin 4) (x : Sector) : State :=
  match x.frags with
  | [f] => if f.kind = 1 then s.endNotread n x.sid
    else if f.missed then s.endRead n x resMARKMISS none else s.enterDecoder n x
  | fs => if fs.any (fun f => f.missed) then s.endRead n x resMARKMISS none else s.enterDecoder n x

/-- CODEWORD_ARRIVE: the last body bit of the open LAST fragment is sampled (R105, R106). -/
def State.codewordArrive (s : State) (n : Fin 4) (scores : List (Int × Nat)) : State :=
  match (s.sec n).chan.arriving with
  | some x => (s.onChan n (fun c => { c with arriving := none })).sectorIn n x
  | none =>
    match (s.sec n).chan.rd with
    | none => s
    | some x =>
      match x.frags.getLast? with
      | some f =>
        if f.last ∧ (s.sec n).chan.rdDone = false then
          let x := x.settle scores
          (s.onChan n (fun c => { c with rd := some x, rdDone := true })).sectorIn n x
        else s
      | none => s

/-! ### The read gate (R112) -/

/-- Cut the open read fragment: its sector is NOTREAD, unless its body had all arrived. -/
def State.cutRead (s : State) (n : Fin 4) : State :=
  match (s.sec n).chan.rd with
  | none => s
  | some x =>
    let done := (s.sec n).chan.rdDone
    let s := s.onChan n (fun c => { c with rd := none, rdDone := false })
    if done then s else s.endNotread n x.sid

/-- Open the read gate for one fragment of an entry (R101, R102, R111, R112). -/
def State.openRead (s : State) (n : Fin 4) (e : Event) : State :=
  let d := e.desc
  let s := s.cutRead n
  if !d.ok false then (s.chanProtocol n e).endNotread n d.sid
  else
    let f : Frag := { m := d.m, kind := d.kind, last := d.last, ang := e.raw, rev := e.rev, hold := s.atbState n == stHOLDOVER }
    let fresh : Sector := { sid := d.sid, seed := d.seed, head := s.head n, rmode := d.rmode, eqset := d.eqset,
                            keep := d.keep, accum := d.accum, nosync := d.nosync, frags := [f] }
    match (s.sec n).chan.first with
    | some x =>
      if d.kind = 0 then
        let s := s.onChan n (fun c => { c with first := none, rd := some fresh, rdDone := false })
        if x.sid = d.sid then s else s.endNotread n x.sid
      else if x.sid = d.sid then
        s.onChan n (fun c => { c with
          first := none
          rdDone := false
          rd := some { fresh with frags := x.frags ++ [f] } })
      else s.onChan n (fun c => { c with rd := some fresh, rdDone := false })
    | none => s.onChan n (fun c => { c with rd := some fresh, rdDone := false })

/-- An FMARK of the read class: the search window, from its own fields under OVR or from CH_SYNC; refused under R110. -/
def State.fmarkRead (s : State) (n : Fin 4) (e : Event) : State :=
  let ovr := bitOf e.p0 15
  let thr := bitsOf e.p0 14 8
  if bitsOf e.p0 7 4 ≠ 0 ∨ e.p1 ≠ 0 ∨ (ovr ∧ (thr < 33 ∨ 64 < thr)) then s.chanProtocol n e
  else
    let w := if ovr then (bitsOf e.p0 3 0, thr) else (s.fld (R.CH_SYNC n) 3 0, s.fld (R.CH_SYNC n) 14 8)
    match (s.sec n).chan.rd with
    | some x =>
      if x.sid = e.sid then
        match x.frags.reverse with
        | f :: r => s.onChan n (fun c => { c with rd := some { x with frags :=
            ({ f with window := some w, fmAng := some (e.raw, e.rev) } :: r).reverse } })
        | [] => s
      else s
    | none => s

/-! ### The write gate (R117, R118, R121) -/

/-- The checks of R111 and R117 at a WR_ON that no gate rule stops: the completion status and the state after it. -/
def State.openWrite (s : State) (n : Fin 4) (e : Event) : State × Nat :=
  let d := e.desc
  let s := if (s.sec n).chan.wr.isSome then s.cutWrite n else s
  if !d.ok true then ((s.chanProtocol n e).endWrite n d.sid resWRCUT, csDONE)
  else match (s.sec n).chan.wbuf.find? (fun b => b.sid == d.sid) with
    | none =>
      (((s.sendFault (srcChan n) kOVERRUN (angleAddr e.raw e.tag)).countM (R.CH_CNT_UNDERRUN n) (secEv n 0x17)).endWrite n d.sid resUNDERRUN,
        csINHIBITED)
    | some b =>
      if ofBytes ((b.bytes.drop 4112).take 2) ≠ d.seed then ((s.chanProtocol n e).endWrite n d.sid resWRCUT, csINHIBITED)
      else
        let cols := encodeCols d.seed b.bytes
        let mine := if d.kind = 0 then cols.take d.m else cols.drop (74 - d.m)
        let f : Frag := { m := d.m, kind := d.kind, last := d.last, ang := e.raw, rev := e.rev }
        let spoilt := d.kind == 1 && (s.sec n).chan.firstW != some d.sid
        (s.onChan n (fun c => { c with
          wg := true
          cut := none
          firstW := if d.kind = 0 then none else c.firstW
          wr := some { sid := d.sid, frag := f, cols := mine, spoilt := spoilt, tag := e.tag } }), csDONE)

/-- An FMARK of the write class writes the mark at its own position (R110, R118). -/
def State.fmarkWrite (s : State) (n : Fin 4) (e : Event) : State :=
  if bitsOf e.p0 15 0 ≠ 0 ∨ e.p1 ≠ 0 then s.chanProtocol n e
  else match (s.sec n).chan.wr with
    | some w =>
      if w.sid = e.sid ∧ w.marked = false then
        s.onChan n (fun c => { c with wr := some { w with marked := true, frag := { w.frag with fmAng := some (e.raw, e.rev) } } })
      else s
    | none => s

/-- WRITE_MARK_TIMEOUT: no FMARK for the SID within 64 positions: the gate drops and the sector is WR_CUT (R118). -/
def State.writeMarkTimeout (s : State) (n : Fin 4) : State :=
  match (s.sec n).chan.wr with
  | some w => if w.marked then s else s.cutWrite n
  | none => s

/-- FRAGMENT_END: the end of the end pad; the open gate closes (R112, R116, R118). -/
def State.fragmentEnd (s : State) (n : Fin 4) (scores : List (Int × Nat)) : State :=
  match (s.sec n).chan.wr with
  | some w =>
    if w.marked then
      let s := s.onChan n (fun c => { c with wg := false, wr := none })
      if w.frag.last then
        if w.spoilt then s.endWrite n w.sid resWRCUT else (s.endWrite n w.sid resWRITTEN).pmuM (secEv n 0x16)
      else s.onChan n (fun c => { c with firstW := some w.sid })
    else s.cutWrite n
  | none =>
    match (s.sec n).chan.rd with
    | none => s
    | some x =>
      let done := (s.sec n).chan.rdDone
      let x := x.settle scores
      let s := s.onChan n (fun c => { c with rd := none, rdDone := false })
      if done then s
      else match x.frags.getLast? with
        | some f =>
          if f.last then s.onChan n (fun c => { c with arriving := some x })
          else s.onChan n (fun c => { c with first := some x })
        | none => s

/-- WRITE_BLOCK_ARRIVE: the next block on Passage takes a place of the write buffer of three (R117). -/
def State.writeBlockArrive (s : State) (n : Fin 4) : State :=
  match (s.sec n).chan.down with
  | [] => s
  | b :: rest =>
    if s.linkUp ∧ (s.sec n).chan.wbuf.length < 3 then
      s.onChan n (fun c => { c with down := rest, wbuf := c.wbuf ++ [b] })
    else s

/-! ### REC (R122 to R130) -/

/-- REC_STATUS.OUTCOME codes (R132). -/
def ocRECOVERED : Nat := 1
def ocUNRECOVERED : Nat := 2
def ocSTOPPED : Nat := 3
def ocABORTED : Nat := 4
def ocBADSLOT : Nat := 5

/-- Offsets of step 3 in Q1.15 of pitch, to the nearest unit: +5, -5, +10, -10, +15, -15 % (R122, R126). -/
def recOffset (k : Nat) : Int :=
  match k with
  | 0 => 1638
  | 1 => -1638
  | 2 => 3277
  | 3 => -3277
  | 4 => 4915
  | _ => -4915

/-- Equaliser sets 1 to 8 whose VALID is 1 (R133). -/
def State.validSets (s : State) (n : Fin 4) : List Nat :=
  ((List.range 8).map (· + 1)).filter (fun k => s.bit (R.CH_EQ n (64 * k)) 0)

/-- How many reads or re-decodes step `k` of the ladder makes (R122). -/
def State.recCount (s : State) (n : Fin 4) (media : Bool) (frags k : Nat) : Nat :=
  match k with
  | 1 => 1
  | 2 => if media then s.fld (R.CH_REC_CFG n) 1 0 else 0
  | 3 => if media then 6 else 0
  | 4 => (s.validSets n).length
  | 5 => 8 * frags
  | 6 => if media then s.fld (R.CH_REC_CFG n) 7 4 - 1 else 0
  | 7 => 2
  | 8 => if s.fld (R.CH_REC_CFG n) 11 8 = 0 then 0 else 1
  | _ => 0

/-- A step that reads the media (R122). -/
def recIsMedia (k : Nat) : Bool := k == 2 || k == 3 || k == 6

/-- Free slots of a channel. -/
def Chan.freeSlots (c : Chan) (ks : List Nat) : Chan :=
  { c with slots := Vector.ofFn (fun k : Fin 8 => if ks.contains k.val then none else c.slots[k]) }

/-- REC stops with an outcome: releases under REL and CH_SBUF_REL take effect, the recovery offset returns to 0 (R126,
R128, R129). -/
def State.recStop (s : State) (n : Fin 4) (outcome : Nat) : State :=
  match (s.sec n).chan.rcv with
  | none => s
  | some r =>
    let s := (s.setBit (R.CH_REC_STATUS n) 0 false).setFld (R.CH_REC_STATUS n) 10 8 outcome
    let s := s.onChan n (fun c => { (c.freeSlots ((if r.rel then [r.slot] else []) ++ c.relPend)) with rcv := none, relPend := [] })
    s.onAct n (fun a => { a with recCmd := 0 })

/-- Offset of re-decode `i` of a fragment in the alignment sweep: +1, −1, +2, −2, … , −4 (R122). -/
def sweepOfs (i : Nat) : Int := if i % 2 = 0 then (i / 2 + 1 : Nat) else -((i / 2 + 1 : Nat) : Int)

/-- The mark offsets that REC's present re-decode uses: those its own read found in step 3, the swept ones in step 5, those of
the slot in every other step (R116, R122; log 92). -/
def Rec.ofs (r : Rec) (x : Sector) : Int × Int :=
  if r.step = 3 then (r.ofs0, r.ofs1)
  else if r.step = 5 then
    if r.idx < 8 then (x.ofs0 + sweepOfs r.idx, x.ofs1) else (x.ofs0, x.ofs1 + sweepOfs (r.idx - 8))
  else (x.ofs0, x.ofs1)

/-- The ladder has run to TO: UNRECOVERED, by step 9, when step 8 has run without success, else STOPPED (R122, R132). -/
def State.recFinish (s : State) (n : Fin 4) (r : Rec) : State :=
  if r.step = 8 then
    let sec := ((s.sec n).chan.slots[r.slot % 8]'(Nat.mod_lt _ (by decide))).map (fun t => t.sector)
    let s := (s.recStop n ocUNRECOVERED).bump (R.CH_CNT_UNREC n)
    match sec with
    | some x => s.deliver n x.sid (resWord resUNRECOVERED r.iters 9 (if r.rel then none else some r.slot) x.ofs0 x.ofs1) none
    | none => s
  else s.recStop n ocSTOPPED

/-- Go to the first step from `k` on that has something to do; `fuel` bounds the ladder. -/
def State.recGo : Nat → State → Fin 4 → Rec → Nat → State
  | 0, s, n, r, _ => s.recFinish n r
  | fuel + 1, s, n, r, k =>
    if r.to_ < k then s.recFinish n r
    else
      let slot := (s.sec n).chan.slots[r.slot % 8]'(Nat.mod_lt _ (by decide))
      let frags := match slot with
        | some t => t.sector.frags.length
        | none => 0
      if s.recCount n r.media frags k = 0 then State.recGo fuel s n r (k + 1)
      else
        let s := s.setFld (R.CH_REC_STATUS n) 4 1 k
        let sameHead := match slot with
          | some t => t.sector.head == s.head n
          | none => false
        if recIsMedia k && !sameHead then
          (s.onChan n (fun c => { c with rcv := some { r with step := k } })).recStop n ocABORTED
        else
          let s := if k = 3 then s.onAct n (fun a => { a with recCmd := recOffset 0 }) else s
          s.onChan n (fun c => { c with rcv := some { r with step := k, idx := 0, reading := recIsMedia k, unfired := 0 } })

/-- REC_START: a write of CH_REC_CMD (R122, R129, R132). -/
def State.recStart (s : State) (n : Fin 4) (w : Nat) : State :=
  let slot := bitsOf w 2 0
  let from_ := bitsOf w 7 4
  let to_ := bitsOf w 11 8
  let media := bitOf w 12
  if (s.sec n).chan.rcv.isSome then s.protocol (srcChan n) 0
  else if from_ = 0 ∨ 8 < from_ ∨ 8 < to_ ∨ to_ < from_ then s.protocol (srcChan n) 0
  else
    let base := 32 * b2n media + 2048 * slot
    if ((s.sec n).chan.slots[slot % 8]'(Nat.mod_lt _ (by decide))).isNone then
      s.setReg (R.CH_REC_STATUS n) (base + 256 * ocBADSLOT)
    else
      let r : Rec := { slot := slot, to_ := to_, step := 0, media := media, rel := bitOf w 13 }
      State.recGo 9 ((s.setReg (R.CH_REC_STATUS n) (base + 1)).onChan n (fun c => { c with rcv := some r })) n r from_

/-- REC holds the read gate: a media step is running (R124). -/
def Chan.recMedia (c : Chan) : Bool := match c.rcv with
  | some r => recIsMedia r.step
  | none => false

/-- The next read or re-decode of the step, or the next step. -/
def State.recNext (s : State) (n : Fin 4) (r : Rec) : State :=
  let frags := match (s.sec n).chan.slots[r.slot % 8]'(Nat.mod_lt _ (by decide)) with
    | some t => t.sector.frags.length
    | none => 0
  if r.idx + 1 < s.recCount n r.media frags r.step then
    s.onChan n (fun c => { c with rcv := some { r with idx := r.idx + 1, reading := recIsMedia r.step, unfired := 0 } })
  else State.recGo 9 s n r (r.step + 1)

/-- Give a re-read sector's fragments the offsets their own searches found, d = 0 where the mark was missed (R115, R127). -/
def Sector.reread (x : Sector) (win thr : Nat) (sc0 sc1 : List (Int × Nat)) : Sector :=
  { x with frags := match x.frags with
      | f :: g :: r => { f with ofs := (markSearch win thr sc0).getD 0 } :: { g with ofs := (markSearch win thr sc1).getD 0 } :: r
      | [f] => [{ f with ofs := (markSearch win thr sc0).getD 0 }]
      | [] => [] }

/-- REC_MEDIA_READ: a read that REC inserted fires or not (R125 to R128). `status`: the status of the ATB for it. -/
def State.recMediaRead (s : State) (n : Fin 4) (status : Nat) (sc0 sc1 : List (Int × Nat)) : State :=
  match (s.sec n).chan.rcv with
  | none => s
  | some r =>
    if !r.reading then s
    else if status = csDONE ∧ s.atbState n = stLEDGE then
      let win := s.fld (R.CH_SYNC n) 3 0
      let thr := s.fld (R.CH_SYNC n) 14 8
      let k : Fin 8 := ⟨r.slot % 8, Nat.mod_lt _ (by decide)⟩
      let s := s.onChan n (fun c => { c with
        rcv := some { r with
          reading := false
          unfired := 0
          ofs0 := if r.step = 3 then (markSearch win thr sc0).getD 0 else r.ofs0
          ofs1 := if r.step = 3 then (markSearch win thr sc1).getD 0 else r.ofs1 }
        slots :=
          if r.step = 2 then c.slots.set k (c.slots[k].map (fun t => { sector := t.sector.reread win thr sc0 sc1, reads := 1 }))
          else if r.step = 6 then c.slots.set k (c.slots[k].map (fun t => { t with reads := t.reads + 1 }))
          else c.slots })
      if r.step = 3 then s.onAct n (fun a => { a with recCmd := if r.idx + 1 < 6 then recOffset (r.idx + 1) else 0 }) else s
    else if 3 ≤ r.unfired then s.recStop n ocABORTED
    else s.onChan n (fun c => { c with rcv := some { r with unfired := r.unfired + 1 } })

/-- REC_DECODE_DONE: a re-decode ends. It recovers the sector when every parity check is satisfied, the CRC matches and the
LBA agrees with SEED (R123); otherwise the ladder goes on. It runs only while no sector of normal service waits. `iters`: the
iterations it took to converge, at most MAXIT; a re-decode that does not converge takes MAXIT. -/
def State.recDecodeDone (s : State) (n : Fin 4) (conv : Bool) (iters : Nat) (info : List Byte) : State :=
  match (s.sec n).chan.rcv with
  | none => s
  | some r =>
    if r.reading ∨ (s.sec n).chan.inq ≠ [] then s
    else match (s.sec n).chan.slots[r.slot % 8]'(Nat.mod_lt _ (by decide)) with
      | none => s.recStop n ocABORTED
      | some t =>
        let maxIt := s.fld (R.CH_REC_CFG n) 18 12
        let r := { r with iters := if conv then min iters maxIt else maxIt }
        let s := ((s.pmuM (secEv n 0x14)).bumpBy (R.CH_CNT_ITER n) r.iters).pmuMBy (secEv n 0x13) r.iters
        let o := r.ofs t.sector
        let b := scramble t.sector.seed info
        if conv ∧ blockCrcOk b ∧ ofBytes ((b.drop 4112).take 2) = t.sector.seed then
          let s := (s.recStop n ocRECOVERED).countM (R.CH_CNT_RECOV n) (secEv n 0x15)
          s.deliver n t.sector.sid
            (resWord resRECOVERED r.iters r.step (if r.rel then none else some r.slot) o.1 o.2) (some b)
        else s.recNext n r

/-- SBUF_RELEASE: a 1 releases slot n; for the slot REC is using, when REC stops (R129). -/
def State.sbufRelease (s : State) (n : Fin 4) (w : Nat) : State :=
  let ks := (List.range 8).filter (fun k => bitOf w k)
  let busy := match (s.sec n).chan.rcv with
    | some r => [r.slot]
    | none => []
  s.onChan n (fun c =>
    { (c.freeSlots (ks.filter (fun k => !busy.contains k))) with relPend := c.relPend ++ ks.filter (fun k => busy.contains k) })

/-- SBUF_DATA_READ: three samples, a free value since the model holds no analogue samples (log 21), while the slot is held;
the internal position advances by 3 (R132). -/
def State.sbufDataRead (s : State) (n : Fin 4) : State :=
  let slot := s.fld (R.CH_SBUF_ADDR n) 2 0
  let held := ((s.sec n).chan.slots[slot % 8]'(Nat.mod_lt _ (by decide))).isSome
  let v := if held then Config.freeWord s.free &&& 0x3FFFFFFF#32 else 0#32
  ({ s.useFree with lastRead := v }).onChan n (fun c => { c with sbufPos := c.sbufPos + 3 })

/-- A section reset or fence of the channel: REC stops with ABORTED, slots, write buffer and pending fragments empty (R130).
An open gate closes. -/
def State.chanReset (s : State) (n : Fin 4) : State :=
  let s := s.recStop n ocABORTED
  s.onChan n (fun c => { c with rd := none, rdDone := false, first := none, arriving := none, inq := [], wbuf := [], wg := false,
                                wr := none, firstW := none, slots := Vector.replicate 8 none, relPend := [] })

/-! ### The commands -/

/-- CODEWORD_ARRIVE (R106). -/
def execCodewordArrive (t : Nat) (n : Fin 4) (scores : List (Int × Nat)) (s : State) : Res :=
  .next ((s.at t).codewordArrive n scores)

/-- DECODER_ITERATION (R105). -/
def execDecoderIteration (t : Nat) (n : Fin 4) (conv : Bool) (info : List Byte) (s : State) : Res :=
  .next ((s.at t).decoderIteration n conv info)

/-- FRAGMENT_END (R112). -/
def execFragmentEnd (t : Nat) (n : Fin 4) (scores : List (Int × Nat)) (s : State) : Res :=
  .next ((s.at t).fragmentEnd n scores)

/-- WRITE_MARK_TIMEOUT (R118). -/
def execWriteMarkTimeout (t : Nat) (n : Fin 4) (s : State) : Res :=
  .next ((s.at t).writeMarkTimeout n)

/-- WRITE_BLOCK_ARRIVE (R117). -/
def execWriteBlockArrive (t : Nat) (n : Fin 4) (s : State) : Res :=
  .next ((s.at t).writeBlockArrive n)

/-- REC_MEDIA_READ (R125). -/
def execRecMediaRead (t : Nat) (n : Fin 4) (status : BitVec 4) (scores0 scores1 : List (Int × Nat)) (s : State) : Res :=
  .next ((s.at t).recMediaRead n status.toNat scores0 scores1)

/-- REC_DECODE_DONE (R123). -/
def execRecDecodeDone (t : Nat) (n : Fin 4) (conv : Bool) (iters : Nat) (info : List Byte) (s : State) : Res :=
  .next ((s.at t).recDecodeDone n conv iters info)

end Sys2Proof.Machine
end

