-- ==== Sys2Proof/Machine/Actuator.lean ====
section
/-! DEFINITION. The actuator drives: what drives the coil (R159, R160), offsets (R170, R171), the profile generator (R161 to
R168), the bridge (R172 to R174), the preamp port (R176, R177), the retract machine (R182), shock (R183), and their commands. -/

namespace Sys2Proof.Machine

open Sys2Proof

/-- Safe state as the sections see it: the die safe-request line or MAON's own decision (R399). -/
def State.safeStands (s : State) : Bool := s.sump.safeLine || s.maon.safe

/-- A message of LOOP or ACTDRV of section n with the present angle (R390). -/
def State.actFault (s : State) (n : Fin 4) (kind : Nat) : State :=
  s.sendFault (srcLoop n) kind (angleAddr (s.angle n) 0)

/-! ### Who drives the coil (R159) -/

/-- Sources of the VCM bridge. -/
inductive Bridge where
  | retract
  | velocity
  | loop
  | none
deriving DecidableEq, Repr

/-- The source that has the bridge of section n. -/
def State.bridge (s : State) (n : Fin 4) : Bridge :=
  if s.retracting n then .retract
  else if s.bit (R.ACT_STATUS n) 8 then .none
  else if s.bit (R.VD_VMODE n) 0 then .velocity
  else .loop

/-- LOOP_IFS of section n. -/
def State.ifs (s : State) (n : Fin 4) : Nat := s.fld (R.LOOP_IFS n) 15 0

/-- The measured coil current of the last PWM period in Q1.15 of LOOP_IFS (R160). -/
def State.coilUv (s : State) (n : Fin 4) : Int :=
  satS 16 (divT (toS 16 (s.fld (R.VD_MEAS n) 15 0) * 32768) (s.ifs n))

/-! ### Offsets (R170, R171) -/

/-- Applied OFS of section n. -/
def State.ofsApp (s : State) (n : Fin 4) : Int := toS 16 (s.fld (R.MJ_APPLIED n) 15 0)

/-- Applied RECOFS of section n. -/
def State.recApp (s : State) (n : Fin 4) : Int := toS 16 (s.fld (R.MJ_APPLIED n) 31 16)

/-- Move `x` toward `c` by at most `st`. -/
def rampTo (x c st : Int) : Int := x + clampI (-st) st (c - x)

/-- The offsets of one sample: a waiting MICROJOG takes effect, both commanded values are clamped, both applied values move
by at most MJ_STEP (R170, R171). -/
def State.offsetsStep (s : State) (n : Fin 4) : State :=
  let mx : Int := s.fld (R.MJ_CFG n) 15 0
  let st : Int := s.fld (R.MJ_CFG n) 31 16
  let s := match (s.sec n).act.pendMj with
    | none => s
    | some w =>
      let o := toS 16 (w.toNat % 65536)
      let c := clampI (-mx) mx o
      (s.setBit (R.ACT_STATUS n) 10 (c != o)).onAct n (fun a => { a with pendMj := none, ofsCmd := c })
  let a := (s.sec n).act
  let o := rampTo (s.ofsApp n) a.ofsCmd st
  let r := rampTo (s.recApp n) (clampI (-mx) mx a.recCmd) st
  s.setReg (R.MJ_APPLIED n) (ofS 16 o + 65536 * ofS 16 r)

/-- An applied offset differs from its command: MJRAMP (R171). -/
def State.mjRamp (s : State) (n : Fin 4) : Bool :=
  let mx : Int := s.fld (R.MJ_CFG n) 15 0
  s.ofsApp n != (s.sec n).act.ofsCmd || s.recApp n != clampI (-mx) mx (s.sec n).act.recCmd

/-! ### The profile generator (R161 to R168) -/

/-- One bit of the integer square root. -/
def isqrtGo (x : Nat) : Nat → Nat → Nat
  | 0, r => r
  | k + 1, r => isqrtGo x k (if (r + 2 ^ k) * (r + 2 ^ k) ≤ x then r + 2 ^ k else r)

/-- isqrt() of a value below 2^128. -/
def isqrt (x : Nat) : Nat := isqrtGo x 64 0

/-- Sign of an integer. -/
def sgn (x : Int) : Int := if 0 < x then 1 else if x < 0 then -1 else 0

/-- A profile set (R163). -/
structure PSet where
  vmax : Nat
  amax : Int
  abrk : Nat
  jmax : Int

/-- Profile set `k` of section n. -/
def State.pset (s : State) (n : Fin 4) (k : Nat) : PSet :=
  ⟨s.rd (R.PG_SET n (4 * k)), toS 32 (s.rd (R.PG_SET n (4 * k + 1))), s.rd (R.PG_SET n (4 * k + 2)),
   toS 32 (s.rd (R.PG_SET n (4 * k + 3)))⟩

/-- Generator values. -/
structure PgVals where
  p : Int
  v : Int
  a : Int

/-- pg_step() of R164. `alim`: the limit after the budget term; `miss`: a deadline miss, ades replaced by a (R168). -/
def pgStep (ps : PSet) (alim : Int) (tgt : Int) (halt miss : Bool) (g : PgVals) : PgVals :=
  let j := ps.jmax
  let d := tgt - g.p
  let s : Int := if d ≠ 0 then sgn d else if g.v ≠ 0 then -(sgn g.v) else if g.a ≠ 0 then -(sgn g.a) else 1
  let dm := s * d
  let vm := s * g.v
  let am := s * g.a
  let tj : Int := -((-(ps.abrk : Int)).fdiv j)
  let dd := dm - vm * tj
  let vdes : Int :=
    if 0 ≤ vm ∧ halt = false ∧ 0 < dd then min ((ps.vmax : Int) * 256) (isqrt (2 * ps.abrk * dd.toNat) : Nat) else 0
  let dv := vdes - vm
  let q := ofS 64 (divT ((dv.natAbs : Int) * 2) j)
  let n : Int := ((isqrt (4 * q + 1) : Int) - 1) / 2
  let ades := if miss then am else clampI (-alim) alim (sgn dv * n * j)
  let am := am + clampI (-j) j (ades - am)
  let vm := vm + am
  let a := wrapS 32 (s * am)
  let v := wrapS 40 (s * vm)
  ⟨wrapS 56 (g.p + v), v, a⟩

/-- Set the generator's values and the registers that present them (R161, R185). -/
def State.setPg (s : State) (n : Fin 4) (g : PgVals) : State :=
  let rpos := asr (g.p + 128) 8
  let s := s.onAct n (fun a => { a with p := g.p, v := g.v, a := g.a })
  let s := s.setReg64 (R.PG_POS_LO n) (R.PG_POS_HI n) (ofS 48 rpos)
  (s.setReg (R.PG_VEL n) (ofS 32 (satS 32 (asr g.v 8)))).setReg (R.PG_ACC n) (ofS 32 g.a)

/-- Set the generator's target. -/
def State.setTgt (s : State) (n : Fin 4) (tgt : Int) : State :=
  (s.onAct n (fun a => { a with tgt := tgt })).setReg64 (R.PG_TGT_LO n) (R.PG_TGT_HI n) (ofS 48 (asr tgt 8))

/-- The reference and feed-forward for the next sample (R161). -/
def State.reference (s : State) (n : Fin 4) : Int × Int × Int :=
  let a := (s.sec n).act
  let k (h l : Nat) : Int := toS 16 (s.fld (R.PG_KFF n) h l)
  (asr (a.p + 128) 8, satS 16 (asr (a.a * k 15 0 + 8388608) 24), satS 16 (asr (a.a * k 31 16 + 8388608) 24))

/-- The generator arrives: p at the target, v and a 0, ARRIVED and the arrival interrupt (R165). -/
def State.pgArrive (s : State) (n : Fin 4) : State :=
  let s := s.setPg n ⟨(s.sec n).act.tgt, 0, 0⟩
  let s := s.onAct n (fun a => { a with halt := false, settled := false })
  ((s.setBit (R.ACT_STATUS n) 0 false).setBit (R.ACT_STATUS n) 1 true).irq .cc (.arrival n)

/-- A SETPOINT that waits takes effect (R162, R165). -/
def State.takeSetpoint (s : State) (n : Fin 4) : State :=
  match (s.sec n).act.pendSet with
  | none => s
  | some (p0, p1, addr) =>
    let s := s.onAct n (fun a => { a with pendSet := none })
    let k := bitsOf p1.toNat 17 16
    if (s.pset n k).jmax = 0 then s.sendFault (srcLoop n) kPROTOCOL addr
    else
      let s := s.setTgt n (((p0.toNat % 2 ^ 24 * 65536 + p1.toNat % 65536) * 256 : Nat) : Int)
      let s := s.onAct n (fun a => { a with settled := false })
      ((s.setFld (R.ACT_STATUS n) 3 2 k).setBit (R.ACT_STATUS n) 0 true).setBit (R.ACT_STATUS n) 1 false

/-- The generator at one sample. `y`: the measured position; `auto`: MODE is AUTO; `cut`, `grant`: of the sample (R164 to
R168). A generator that has already arrived does not arrive again (log 23). -/
def State.pgSample (s : State) (n : Fin 4) (auto cut : Bool) (grant : Nat) (miss : Bool) (y : Int) : State :=
  let s := s.takeSetpoint n
  let ps := s.pset n (s.fld (R.ACT_STATUS n) 3 2)
  if auto = false ∨ ps.jmax = 0 then s.setPg n ⟨y * 256, 0, 0⟩
  else
    let a := (s.sec n).act
    let kacc := s.rd (R.PG_KACC n)
    let ab : Int := (grant * kacc / 1024 : Nat)
    let ab := ab - ab.tmod ps.jmax
    let alim := if cut ∧ kacc ≠ 0 then min ab ps.amax else ps.amax
    let g := pgStep ps alim a.tgt a.halt miss ⟨a.p, a.v, a.a⟩
    let s := s.setPg n g
    if a.halt ∧ g.v = 0 ∧ g.a = 0 then (s.setTgt n g.p).pgArrive n
    else
      let near := decide ((a.tgt - g.p).natAbs ≤ s.fld (R.PG_SNAP n) 15 0 * 256)
      if s.bit (R.ACT_STATUS n) 0 && near && decide ((g.v.natAbs : Int) ≤ ps.jmax) && decide ((g.a.natAbs : Int) ≤ ps.jmax)
      then s.pgArrive n else s

/-! ### The retract machine (R182) -/

/-- The retract machine of section n starts, which ends a load; ignored while it runs, while the section is not owned (R472) or
not ON. -/
def State.startRetract (s : State) (n : Fin 4) : State :=
  if (s.sec n).act.retract.isSome ∨ s.ownsAct n = false ∨ s.domOn (16 + n) = false then s
  else
    let s := (s.setBit (R.ACT_STATUS n) 5 true).setBit (R.ACT_STATUS n) 6 false
    let s := s.setSec n { s.sec n with load := none }
    let s := s.onAct n (fun a => { a with
      retract := some ⟨1, s.gtc⟩
      maHeld := true
      maCode := toS 16 (s.fld (R.MA_CFG n) 15 0) })
    s.assertWinh n

/-- RT_T1 has passed: constant outward current RT_IPARK (R182 step 4). -/
def State.retractParkCurrent (s : State) (n : Fin 4) : State :=
  match (s.sec n).act.retract with
  | none => s
  | some r =>
    if r.phase = 1 ∧ r.t0 + 1000000 * s.fld (R.RT_TIME n) 7 0 ≤ s.gtc then
      s.onAct n (fun a => { a with retract := some { r with phase := 2 } })
    else s

/-- The machine stops: gates deasserted, RETRACT clear, PARKED set, the ATB in MASTER. -/
def State.retractStop (s : State) (n : Fin 4) : State :=
  let s := s.onAct n (fun a => { a with retract := none, gatesOff := true, iCmd := 0 })
  ((s.setBit (R.ACT_STATUS n) 5 false).setBit (R.ACT_STATUS n) 6 true).enterMaster n

/-- RT_T1 + RT_T2 have passed (R182 step 5). -/
def State.retractEnd (s : State) (n : Fin 4) : State :=
  match (s.sec n).act.retract with
  | none => s
  | some r =>
    if r.t0 + 1000000 * (s.fld (R.RT_TIME n) 7 0 + s.fld (R.RT_TIME n) 15 8) ≤ s.gtc then
      ((s.retractStop n).bump (R.ACT_CNT_RETRACT n)).plTell
    else s

/-! ### The VCM bridge (R172 to R174) -/

/-- The velocity-mode current command (R173). KVEL is Q8.8; the product is brought to mA toward zero (log 24). -/
def velCmd (kvel : Nat) (target bemf lim : Int) : Int := clampI (-lim) lim (divT ((kvel : Int) * (target - bemf)) 256)

/-- The current command of a PWM period (R159, R172, R173, R182). -/
def State.periodCmd (s : State) (n : Fin 4) (bemf : Int) : Int :=
  let kvel := s.fld (R.VD_VGAIN n) 15 0
  match s.bridge n with
  | .none => 0
  | .loop => divT ((s.sec n).loop.uvApp * (s.ifs n)) 32768
  | .velocity =>
    let b : Int := s.fld (R.VD_VMODE n) 15 4
    let lim : Int := min (s.fld (R.VD_VMODE n) 31 16) (s.fld (R.LOOP_GRANT n) 15 0)
    velCmd kvel (if s.bit (R.VD_VMODE n) 1 then -b else b) bemf lim
  | .retract =>
    match (s.sec n).act.retract with
    | some ⟨2, _⟩ => (s.fld (R.RT_TIME n) 31 16 : Int)
    | _ => velCmd kvel (s.fld (R.RT_CFG n) 15 0) bemf (s.fld (R.RT_CFG n) 31 16)

/-- One PWM period of the bridge: sensing with the polarity of VD_CFG.POL, the overcurrent limiter, the current command.
`isns` in mA, `va` and `vb` in mV as the pins show them. -/
def State.pwmPeriod (s : State) (n : Fin 4) (isns va vb : Int) : State :=
  if s.domOn (16 + n) = false ∨ s.ownsAct n = false then s
  else
    let pol := s.bit (R.VD_CFG n) 0
    let i := satS 16 (if pol then -isns else isns)
    let v := if pol then vb - va else va - vb
    let bemf := satS 16 (v - divT (i * s.fld (R.VD_RCOIL n) 15 0) 1000)
    let s := s.setReg (R.VD_MEAS n) (ofS 16 i + 65536 * ofS 16 bemf)
    if s.bridge n ≠ .none ∧ s.fld (R.VD_ILIM n) 15 0 < i.natAbs then
      let run := (s.sec n).act.ocRun + 1
      let s := (s.bump (R.ACT_CNT_OC n)).onAct n (fun a => { a with ocRun := min run 3, gatesOff := true })
      let s := if run = 1 then s.actFault n kOVERCURRENT else s
      if 3 ≤ run ∧ s.retracting n = false ∧ s.bit (R.ACT_STATUS n) 8 = false then
        (s.setBit (R.ACT_STATUS n) 8 true).assertWinh n
      else s
    else
      let cmd := s.periodCmd n bemf
      s.onAct n (fun a => { a with ocRun := 0, gatesOff := s.bridge n == .none, iCmd := cmd })

/-! ### ACT_CTRL and VD_VMODE (R165, R174, R181, R182) -/

/-- PARK: the retract machine starts, in a section that reads PARKED too (R182, R480). -/
def State.park (s : State) (n : Fin 4) : State := s.startRetract n

/-- OC_CLR. -/
def State.ocClear (s : State) (n : Fin 4) : State := (s.setBit (R.ACT_STATUS n) 8 false).onAct n (fun a => { a with ocRun := 0 })

/-- HALT: vdes is forced to 0 until v and a are 0; the generator then arrives at its present position. -/
def State.haltGen (s : State) (n : Fin 4) : State := s.onAct n (fun a => { a with halt := true })

/-- A write of VD_VMODE: velocity mode inward unparks the heads (R181 step 2). -/
def State.writeVmode (s : State) (n : Fin 4) (w : Nat) : State :=
  let s := s.setReg (R.VD_VMODE n) (w % 2 ^ 32 - bitsOf w 3 2 * 4)
  if bitOf w 0 && bitOf w 1 && s.ownsAct n then s.setBit (R.ACT_STATUS n) 6 false else s

/-! ### The preamp port (R176, R177) -/

/-- Start the next frame of the port if none is in progress: head-select frames first; none while the safe state holds
(R399 step 5). -/
def State.preStart (s : State) (n : Fin 4) : State :=
  let a := (s.sec n).act
  if a.preFrame.isSome ∨ s.safeStands then s
  else match a.preHead, a.preQ with
    | f :: r, _ => s.onAct n (fun a => { a with preFrame := some f, preHead := r })
    | [], f :: r => s.onAct n (fun a => { a with preFrame := some f, preQ := r })
    | [], [] => s

/-- A frame of PRE_CMD is queued, or discarded when four are queued behind the frame in progress (R176). -/
def State.preCmd (s : State) (n : Fin 4) (w : Nat) : State :=
  if 4 ≤ (s.sec n).act.preQ.length then s.protocol (srcLoop n) 0
  else (s.onAct n (fun a => { a with preQ := a.preQ ++ [w % 2 ^ 24] })).preStart n

/-- The head-select frame of a HEAD_SW (R176). -/
def State.preHeadSelect (s : State) (n : Fin 4) (head : Nat) : State :=
  let data := (s.fld (R.PRE_CFG n) 28 16 * 8 + head) % 65536
  (s.onAct n (fun a => { a with preHead := a.preHead ++ [s.fld (R.PRE_CFG n) 6 0 * 65536 + data] })).preStart n

/-- The frame in progress ends; a read frame's data is latched (R176). -/
def State.preFrameEnd (s : State) (n : Fin 4) (data : Nat) : State :=
  match (s.sec n).act.preFrame with
  | none => s
  | some f =>
    let s := if bitOf f 23 then s.setFld (R.PRE_RESP n) 15 0 data else s
    (s.onAct n (fun a => { a with preFrame := none })).preStart n

/-- BUSY: a frame is being sent or a PRE_CMD frame is queued (R176). -/
def Act.preBusy (a : Act) : Bool := a.preFrame.isSome || !a.preQ.isEmpty || !a.preHead.isEmpty

/-! ### Commands -/

/-- A drive command that the section of a powered domain takes. -/
def State.ifSec (s : State) (n : Fin 4) (f : State → State) : State := if s.domOn (16 + n) then f s else s

/-- VCM_PWM_PERIOD (R172 to R174). -/
def execVcmPwmPeriod (t : Nat) (n : Fin 4) (isns va vb : Int) (s : State) : Res :=
  .next ((s.at t).pwmPeriod n isns va vb)

/-- RETRACT_PARK_CURRENT (R182). -/
def execRetractParkCurrent (t : Nat) (n : Fin 4) (s : State) : Res :=
  .next ((s.at t).retractParkCurrent n)

/-- RETRACT_END (R182). -/
def execRetractEnd (t : Nat) (n : Fin 4) (s : State) : Res :=
  .next ((s.at t).retractEnd n)

/-- PARK (R182). -/
def execPark (t : Nat) (i : Initiator) (n : Fin 4) (s : State) : Res :=
  .next ((s.at t).onReg i (R.ACT_CTRL n) (fun s => s.park n))

/-- OC_CLR (R174). -/
def execOcClr (t : Nat) (i : Initiator) (n : Fin 4) (s : State) : Res :=
  .next ((s.at t).onReg i (R.ACT_CTRL n) (fun s => s.ocClear n))

/-- HALT (R165). -/
def execHalt (t : Nat) (i : Initiator) (n : Fin 4) (s : State) : Res :=
  .next ((s.at t).onReg i (R.ACT_CTRL n) (fun s => s.haltGen n))

/-- PRE_CMD (R176). -/
def execPreCmd (t : Nat) (i : Initiator) (n : Fin 4) (w : BitVec 32) (s : State) : Res :=
  .next ((s.at t).onReg i (R.PRE_CMD n) (fun s => s.preCmd n w.toNat))

/-- PREAMP_FRAME_END (R176). -/
def execPreampFrameEnd (t : Nat) (n : Fin 4) (data : BitVec 16) (s : State) : Res :=
  .next ((s.at t).preFrameEnd n data.toNat)

/-- PREAMP_FAULT: ACTn_PFLT_N is asserted (R177, R396). -/
def execPreampFault (t : Nat) (n : Fin 4) (s : State) : Res :=
  .next ((s.at t).ifSec n (fun s =>
    if (s.sec n).act.pflt then s
    else
      let s := s.onAct n (fun a => { a with pflt := true })
      ((s.setBit (R.ACT_STATUS n) 12 true).assertWinh n).sendFault (srcPreamp n) kPREAMP (angleAddr (s.angle n) 0)))

/-- PFLT_N_DEASSERT: the preamp fault input falls; write inhibit clears at a position sample (R67, R177). -/
def execPfltNDeassert (t : Nat) (n : Fin 4) (s : State) : Res :=
  .next (((s.at t).onAct n (fun a => { a with pflt := false })).setBit (R.ACT_STATUS n) 12 false)

/-- SHOCK: the shock signal stands at `mv`; beyond SHK_CFG.THR it starts an episode or extends it (R183). -/
def execShock (t : Nat) (n : Fin 4) (mv : Int) (s : State) : Res :=
  .next ((s.at t).ifSec n (fun s =>
    if mv.natAbs ≤ s.fld (R.SHK_CFG n) 11 0 then s
    else
      let s := s.onAct n (fun a => { a with shockAt := s.gtc })
      if s.bit (R.ACT_STATUS n) 7 then s
      else ((((s.setBit (R.ACT_STATUS n) 7 true).assertWinh n).countM (R.ACT_CNT_SHOCK n) (secEv n 0x26)).actFault n kSHOCK)))

/-- SHOCK_HOLD_END: SHK_CFG.HOLD µs have passed since the signal last exceeded the threshold (R183). -/
def execShockHoldEnd (t : Nat) (n : Fin 4) (s : State) : Res :=
  let s := s.at t
  .next (if s.bit (R.ACT_STATUS n) 7 ∧ (s.sec n).act.shockAt + 1000 * s.fld (R.SHK_CFG n) 31 16 ≤ s.gtc
    then s.setBit (R.ACT_STATUS n) 7 false else s)

end Sys2Proof.Machine
end

