-- ==== Sys2Proof/Machine/Loop.lean ====
section
/-! DEFINITION. The Loop Engine: fixed-point primitives (R134, R135), regions (R146 to R150), the sample (R137 to R145, R151,
R153 to R155, R160), the position sample and the write permit (R73 to R75, R152), and their commands. -/

namespace Sys2Proof.Machine

open Sys2Proof

/-! ### Arithmetic (R134, R135) -/

/-- A value with the mark that a clamp has occurred on the way to it (R135). -/
structure SV where
  v : Int
  c : Bool := false

/-- sat40 of R134. -/
def SV.sat40 (x : SV) : SV := let y := satS 40 x.v; ⟨y, x.c || y != x.v⟩
def SV.mac (a : SV) (c x : Int) : SV := SV.sat40 ⟨a.v + c * x * 2, a.c⟩
def SV.msc (a : SV) (c x : Int) : SV := SV.sat40 ⟨a.v - c * x * 2, a.c⟩
def SV.shl (a : SV) (k : Nat) : SV := SV.sat40 ⟨a.v * 2 ^ k, a.c⟩
/-- rnd() of R134, half toward plus infinity. -/
def SV.rnd (a : SV) : SV := let r := asr (a.v + 32768) 16; let y := satS 16 r; ⟨y, a.c || y != r⟩
/-- up() of R134. -/
def upI (x : Int) : Int := x * 65536

/-- Σ over j of c[j] × x[j], added to `a`. -/
def macSum (a : SV) : List (Int × Int) → SV
  | [] => a
  | (c, x) :: r => macSum (a.mac c x) r

/-- Σ over j of c[j] × x[j], subtracted from `a`. -/
def mscSum (a : SV) : List (Int × Int) → SV
  | [] => a
  | (c, x) :: r => mscSum (a.msc c x) r

/-! ### Coefficients and regions (R146, R157) -/

/-- Value `k` of the coefficient bank of region `r` (R157). -/
def State.coef (s : State) (n : Fin 4) (r k : Nat) : Int :=
  toS 16 (s.fld (R.LOOP_BANK n (64 * r + k / 2)) (16 * (k % 2) + 15) (16 * (k % 2)))

/-- A list of values of a bank. -/
def State.coefs (s : State) (n : Fin 4) (r k len : Nat) : List Int := (List.range len).map (fun j => s.coef n r (k + j))

/-- A gain shift of a bank (R136): 0 SH_A, 1 SH_L, 2 SH_K, 3 SH_I. -/
def State.shift (s : State) (n : Fin 4) (r k : Nat) : Nat := ofS 16 (s.coef n r 74) / 2 ^ (3 * k) % 8

/-- Word `k` of the entry of region `r`. -/
def State.regionWord (s : State) (n : Fin 4) (r k : Nat) : Nat := s.rd (R.LOOP_REGION n (4 * r + k))

def State.rgFiner (s : State) (n : Fin 4) (r : Nat) : Nat := bitsOf (s.regionWord n r 0) 2 0
def State.rgCoarser (s : State) (n : Fin 4) (r : Nat) : Nat := bitsOf (s.regionWord n r 0) 5 3
def State.rgWp (s : State) (n : Fin 4) (r : Nat) : Bool := bitOf (s.regionWord n r 0) 6
def State.rgInt (s : State) (n : Fin 4) (r : Nat) : Nat := bitsOf (s.regionWord n r 0) 8 7
def State.rgMeas (s : State) (n : Fin 4) (r : Nat) : Bool := bitOf (s.regionWord n r 0) 9
def State.rgScale (s : State) (n : Fin 4) (r : Nat) : Nat := bitsOf (s.regionWord n r 0) 13 10
def State.rgDwell (s : State) (n : Fin 4) (r : Nat) : Nat := bitsOf (s.regionWord n r 0) 23 16
def State.rgZmax (s : State) (n : Fin 4) (r : Nat) : Nat := bitsOf (s.regionWord n r 3) 15 0
def State.rgUmax (s : State) (n : Fin 4) (r : Nat) : Int := bitsOf (s.regionWord n r 3) 31 16

/-- G = KI << SH_I of region `r` (R144). -/
def State.gain (s : State) (n : Fin 4) (r : Nat) : Int := s.coef n r 72 * 2 ^ s.shift n r 3

/-- zlim of region `r`, where G is not 0 (R144). -/
def State.zlim (s : State) (n : Fin 4) (r : Nat) : Int := (s.rgZmax n r * 2147483648 / (s.gain n r).natAbs : Nat)

/-- iterm(z) of R144. -/
def State.iterm (s : State) (n : Fin 4) (r : Nat) (z : Int) : SV :=
  SV.shl ⟨asr (s.coef n r 72 * z) 15, false⟩ (s.shift n r 3)

/-- MODE of the loop unit: 0 AUTO, 1 MANUAL, 2 IDLE. -/
def State.loopMode (s : State) (n : Fin 4) : Nat := s.fld (R.LOOP_STATUS n) 1 0

/-- Current region. -/
def State.region (s : State) (n : Fin 4) : Nat := s.fld (R.LOOP_STATUS n) 4 2

/-- The integrator state, presented in LOOP_Z. -/
def State.setZ (s : State) (n : Fin 4) (z : Int) : State :=
  (s.onLoop n (fun l => { l with z := z })).setReg (R.LOOP_Z n) (ofS 32 z)

/-- A change of region at a sample boundary (R150). -/
def State.enterRegion (s : State) (n : Fin 4) (r : Nat) : State :=
  let old := s.region n
  if r = old then s
  else
    let gOld := s.gain n old
    let gNew := s.gain n r
    let z := (s.sec n).loop.z
    let z := if gNew = 0 then z
      else let lim := s.zlim n r; clampI (-lim) lim (satS 32 (divT (z * gOld) gNew))
    let z := if s.rgInt n r = 2 then 0 else z
    ((s.setFld (R.LOOP_STATUS n) 4 2 r).onLoop n (fun l => { l with dwell := 0 })).setZ n z

/-- The start of a sample that completes: a LOOP_MODE that waits wins over the scheduler's move, and region 6 replaces a
ledge region without the ledge (R148 to R150, R403). A section that is not owned is in IDLE (R472). -/
def State.beginSample (s : State) (n : Fin 4) : State :=
  let l := (s.sec n).loop
  let ledge := s.atbState n == stLEDGE || s.atbState n == stHOLDOVER
  let six (s : State) (r : Nat) : Nat := if !ledge && !s.rgMeas n r then 6 else r
  let home := if s.bit (R.LOOP_STATUS n) 5 then l.forced else s.region n
  if s.fenced n ∨ s.ownsAct n = false then
    let s := (s.setFld (R.LOOP_STATUS n) 1 0 2).setBit (R.LOOP_STATUS n) 5 false
    (s.onLoop n (fun l => { l with pend := none, nextReg := none })).enterRegion n (six s (s.region n))
  else
    match l.pend with
    | some (p0, p1) =>
      let p := p0.toNat
      let r := bitsOf p 4 2
      let s := (s.setFld (R.LOOP_STATUS n) 1 0 (bitsOf p 1 0)).setBit (R.LOOP_STATUS n) 5 (bitOf p 5)
      let s := s.onLoop n (fun l => { l with
        pend := none
        nextReg := none
        forced := r
        manUv := if bitsOf p 1 0 = 1 then toS 16 (p1.toNat % 65536) else l.manUv
        manUm := if bitsOf p 1 0 = 1 then toS 16 (p1.toNat / 65536) else l.manUm })
      (s.enterRegion n (six s r)).onLoop n (fun l => { l with dwell := 0 })
    | none =>
      let r := match l.nextReg with
        | some r => r
        | none => if s.atbState n = stLEDGE then home else s.region n
      (s.onLoop n (fun l => { l with nextReg := none })).enterRegion n (six s r)

/-! ### The filters (R141, R142) -/

/-- One biquad section: output and new states x1, x2, y1, y2 (R142). All-zero coefficients bypass it. -/
def biquad (c : List Int) (st : Vector Int 4) (x : Int) : SV × Vector Int 4 :=
  if c.all (fun v => v == 0) then (⟨x, false⟩, st)
  else
    let a := macSum ⟨0, false⟩ [(c.getD 0 0, x), (c.getD 1 0, st[0]), (c.getD 2 0, st[1])]
    let y := (mscSum a [(c.getD 3 0, st[2]), (c.getD 3 0, st[2]), (c.getD 4 0, st[3])]).rnd
    (y, #v[x, st[0], y.v, st[2]])

/-- A chain of sections: output, new states, clamp mark. -/
def biquads (cs : List (List Int)) (sts : List (Vector Int 4)) (x : Int) : Int × List (Vector Int 4) × Bool :=
  match cs, sts with
  | c :: cr, st :: sr =>
    let (y, st') := biquad c st x
    let (o, sts', f) := biquads cr sr y.v
    (o, st' :: sts', y.c || f)
  | _, sts => (x, sts, false)

/-- burst_pes() of R139. -/
def burstPes (ba bb trk : Nat) : Int :=
  let t : Int := (ba : Int) + bb
  let v := if t = 0 then 0 else divT (((ba : Int) - bb) * 16384) t
  if trk % 2 = 1 then v else -v

/-! ### One sample of one unit (R137) -/

/-- What steps 1 and 2 leave for the later steps of a unit. -/
structure Smp where
  /-- a sample is in progress in the unit -/
  on : Bool := false
  /-- missed its deadline -/
  miss : Bool := false
  e : Int := 0
  absE : Nat := 0
  /-- the request before any cut: the VCM notch chain's output, or MAN_UV -/
  want : Int := 0
  /-- the command after the slew limiter -/
  uv : Int := 0
  um : Int := 0
  /-- request in mA -/
  req : Nat := 0
  /-- granted mA, and whether R155 clamped the command -/
  grant : Nat := 0
  cut : Bool := false
  sat : Bool := false

/-- The measured position of this sample (R139): the state with it, and whether there is a new measurement. -/
def State.measure (s : State) (n : Fin 4) : State × Bool :=
  let trk := s.fld (R.LOOP_TRK n) 23 0
  let a := (s.sec n).atb
  let l := (s.sec n).loop
  let s' := s.onLoop n (fun l => { l with burstNew := false })
  if s.rgMeas n (s.region n) then
    if l.burstNew then
      let w := a.wedge2.toNat
      (s'.onLoop n (fun l => { l with y := (trk : Int) * 65536 + 2 * burstPes (bitsOf w 7 0) (bitsOf w 15 8) trk }), true)
    else (s', false)
  else if bitOf a.posWord.toNat 28 then (s', false)
  else (s'.onLoop n (fun l => { l with y := (trk : Int) * 65536 + 2 * toS 16 (a.posWord.toNat % 65536) }), true)

/-- The integral term of a sample, with the bumpless transfer of R151 at the first AUTO sample after MANUAL: the state and
the term. `rest`: the other terms of av. -/
def State.integralTerm (s : State) (n : Fin 4) (rest : Int) : State × SV :=
  let r := s.region n
  let l := (s.sec n).loop
  if l.fromManual then
    let u := l.uvApp
    let want := upI u - rest
    let g := s.gain n r
    let s := s.onLoop n (fun l => { l with
      nv := Vector.replicate 4 (Vector.replicate 4 u), nm := Vector.replicate 2 (Vector.replicate 4 l.umApp) })
    if g = 0 then (s.setBit (R.LOOP_STATUS n) 9 (want != 0), ⟨0, false⟩)
    else
      let z := divT (want * 32768) g
      let lim := s.zlim n r
      let bump := decide (lim < (z.natAbs : Int))
      let z := satS 32 (clampI (-lim) lim z)
      let s := (s.setBit (R.LOOP_STATUS n) 9 bump).setZ n z
      (s, if bump then s.iterm n r z else ⟨want, false⟩)
  else (s, s.iterm n r l.z)

/-- The controller sum and the notch chains of MODE AUTO: requests before the clamp and the milliactuator command (R141). -/
def State.control (s : State) (n : Fin 4) (x : List Int) (ffv ffm : Int) : State × Int × Int × Bool :=
  let r := s.region n
  let av := mscSum ⟨0, false⟩ ((s.coefs n r 60 6).zip x)
  let am := mscSum ⟨0, false⟩ ((s.coefs n r 66 6).zip x)
  let avk := av.shl (s.shift n r 2)
  let rest := avk.v + upI ffv + upI (s.sec n).loop.cff
  let (s, it) := s.integralTerm n rest
  let av := (SV.sat40 ⟨rest + it.v, avk.c || it.c⟩).rnd
  let amk := am.shl (s.shift n r 2)
  let am := (SV.sat40 ⟨amk.v + upI ffm, amk.c⟩).rnd
  let secs (k cnt : Nat) : List (List Int) := (List.range cnt).map (fun j => s.coefs n r (k + 5 * j) 5)
  let (ov, nv, fv) := biquads (secs 76 4) (s.sec n).loop.nv.toList av.v
  let (om, nm, fm) := biquads (secs 96 2) (s.sec n).loop.nm.toList am.v
  let s := s.onLoop n (fun l => { l with
    nv := Vector.ofFn (fun k : Fin 4 => nv.getD k.val (Vector.replicate 4 0))
    nm := Vector.ofFn (fun k : Fin 2 => nm.getD k.val (Vector.replicate 4 0)) })
  (s, ov, om, av.c || am.c || fv || fm)

/-- The slew limiter (R169). -/
def State.slew (s : State) (n : Fin 4) (uv : Int) : State × Int :=
  if s.bridge n = .retract ∨ s.bridge n = .velocity then (s, uv)
  else
    let st : Int := s.fld (R.SL_STEP n) 15 0
    let p := (s.sec n).loop.uvApp
    let o := clampI (p - st) (p + st) uv
    (if o = uv then s else s.countM (R.ACT_CNT_SLEW n) (secEv n 0x25), o)

/-- The request of R154 in mA; IMAX while velocity mode holds the bridge (R173). -/
def State.request (s : State) (n : Fin 4) (uv : Int) : Nat :=
  if s.bridge n = .velocity then s.fld (R.VD_VMODE n) 31 16 else (uv.natAbs * s.ifs n + 32767) / 32768

/-- A deadline miss of a unit (R138): the off-track input stands, and the second consecutive miss sends TIMEOUT. -/
def State.loopMiss (s : State) (n : Fin 4) : State :=
  let run := (s.sec n).loop.missRun + 1
  let s := (s.countM (R.LOOP_CNT_MISS n) (secEv n 0x21)).onLoop n (fun l => { l with missRun := min run 3 })
  let tag := match (s.sec n).chan.wr with
    | some w => w.tag
    | none => 0
  let s := (s.offtrackCut n tag).setBit (R.LOOP_STATUS n) 8 true
  if run = 2 then s.actFault n kTIMEOUT else s

/-- Steps 1 and 2 of a unit. `miss`: its step 2 does not complete in time, or the shared step 3 does not; `bad`: a
coefficient read is uncorrectable, and the sample is abandoned (R138; log 25). -/
def State.sampleStart (s : State) (n : Fin 4) (miss bad : Bool) : State × Smp :=
  if s.domOn (16 + n) = false then (s, {})
  else
    let miss := miss || bad
    let s := s.pmuM (secEv n 0x20)
    let s := if miss then s else s.beginSample n
    let s := s.offsetsStep n
    let r := s.region n
    let (s, meas) := if bad then (s, false) else s.measure n
    let s := if meas ∧ s.bit (R.ACT_STATUS n) 11 then
        (s.setPg n ⟨(s.sec n).loop.y * 256, (s.sec n).act.v, (s.sec n).act.a⟩).setBit (R.ACT_STATUS n) 11 false
      else s
    let (rpos, ffv, ffm) := s.reference n
    let E := rpos + 2 * (s.ofsApp n + s.recApp n) - (s.sec n).loop.y
    let eRaw := asr E (1 + s.rgScale n r)
    let e := satS 16 eRaw
    let l := (s.sec n).loop
    let mode := s.loopMode n
    let held : Smp := { on := true, miss := true, e := e, absE := satU 32 E.natAbs, uv := l.uvApp, um := l.umApp,
                        req := s.request n l.uvApp }
    if bad then
      ((s.sendFault (srcLoop n) kUE (R.LOOP_BANK n (64 * r + (Config.freeWord s.free).toNat % 64))).useFree.onLoop n
        (fun l => { l with x := l.xp }), { held with e := toS 16 (s.fld (R.LOOP_ERR n) 15 0) })
    else if mode = 2 then
      let s := (s.onLoop n (fun l => { l with
        x := Vector.replicate 6 0
        xp := Vector.replicate 6 0
        nv := Vector.replicate 4 (Vector.replicate 4 0)
        nm := Vector.replicate 2 (Vector.replicate 4 0) })).setZ n 0
      let s := (s.setReg (R.LOOP_ERR n) (ofS 16 e)).setBit (R.LOOP_STATUS n) 10 meas
      (s, if miss then held else { on := true, e := e, absE := satU 32 E.natAbs, sat := e != eRaw,
                                   req := s.request n 0 })
    else
      let eps := if meas then (mscSum ⟨upI e, false⟩ ((s.coefs n r 48 6).zip l.xp.toList)).rnd else ⟨0, false⟩
      let shl := s.shift n r 1
      let xs := (l.xp.toList.zip (s.coefs n r 54 6)).map (fun p =>
        let g := (SV.mac ⟨0, false⟩ p.2 eps.v).shl shl
        (SV.sat40 ⟨upI p.1 + g.v, g.c⟩).rnd)
      let x := xs.map SV.v
      let s := s.onLoop n (fun l => { l with x := Vector.ofFn (fun k : Fin 6 => x.getD k.val 0) })
      let s := (s.setReg (R.LOOP_ERR n) (ofS 16 e + 65536 * ofS 16 eps.v)).setBit (R.LOOP_STATUS n) 10 meas
      let sat1 := e != eRaw || eps.c || xs.any SV.c
      let (s, want, um, sat2) := if mode = 0 then s.control n x ffv ffm else (s, l.manUv, l.manUm, false)
      let umax := s.rgUmax n r
      let (s, uv) := s.slew n (if mode = 0 then clampI (-umax) umax want else want)
      (s, if miss then { held with sat := sat1 || sat2 }
          else { on := true, e := e, absE := satU 32 E.natAbs, want := want, uv := uv, um := um,
                 req := s.request n uv, sat := sat1 || sat2 })

/-! ### The budget (R154, R155) -/

/-- Insert by ascending request, ties by the lower number. -/
def insReq (p : Nat × Nat) : List (Nat × Nat) → List (Nat × Nat)
  | [] => [p]
  | q :: r => if q.2 < p.2 ∨ (q.2 = p.2 ∧ q.1 < p.1) then q :: insReq p r else p :: q :: r

/-- The members of a set in ascending order of request. -/
def byRequest (l : List (Nat × Nat)) : List (Nat × Nat) := l.foldr insReq []

/-- fill(): shares of (number, request) pairs already in order, and what remains (R155). -/
def fillGo (rem : Nat) : List (Nat × Nat) → List (Nat × Nat) × Nat
  | [] => ([], rem)
  | p :: r =>
    let g := min p.2 (rem / (r.length + 1))
    let (gs, left) := fillGo (rem - g) r
    ((p.1, g) :: gs, left)

/-- The share of number `i`. -/
def shareOf (l : List (Nat × Nat)) (i : Nat) : Nat :=
  match l.find? (fun p => p.1 == i) with
  | some p => p.2
  | none => 0

/-- The grants of the four units (R155). `req`, `fol`: request and following, in order of unit. -/
def grants (avail cap : Nat) (req : List Nat) (fol : List Bool) : List Nat :=
  let idx := List.range 4
  let first := (idx.filter (fun i => fol.getD i false)).map (fun i => (i, min (req.getD i 0) cap))
  let (g1, rem) := fillGo avail (byRequest first)
  let second := idx.map (fun i => (i, req.getD i 0 - shareOf g1 i))
  let (g2, _) := fillGo rem (byRequest second)
  idx.map (fun i => shareOf g1 i + shareOf g2 i)

/-- avail of R154: 0 while LE_ISUP is 0 (R158). -/
def State.loopAvail (s : State) : Nat :=
  s.fld R.LE_ISUP 15 0 - max (s.fld R.LE_ISPIN_MEAS 15 0) (s.fld R.LE_ISPIN_RES 15 0)

/-- Step 3 for a unit: the clamp to its grant (R155). -/
def State.applyGrant (s : State) (n : Fin 4) (p : Smp) (grant : Nat) : State × Smp :=
  if p.on = false ∨ p.miss then (s, { p with grant := grant })
  else
    let lim : Int := (grant * 32768 / s.ifs n : Nat)
    let uv := clampI (-lim) lim p.uv
    let loopHas := s.bridge n == .loop || s.bridge n == .none
    let cut := uv != p.uv && loopHas && s.loopMode n != 2
    let s := if cut then s.countM (R.LOOP_CNT_BUDGET n) (secEv n 0x24) else s
    (s.setReg (R.LOOP_GRANT n) (satU 16 grant + 65536 * satU 16 p.req), { p with uv := uv, grant := grant, cut := cut })

/-! ### Steps 4 and 5 -/

/-- Step 4: the commands are applied; the milliactuator code (R137, R145, R160, R175). -/
def State.applyCmd (s : State) (n : Fin 4) (p : Smp) : State :=
  if p.on = false then s
  else
    let mode := s.loopMode n
    let uv := match s.bridge n with
      | .loop => if p.miss then p.uv else if mode = 2 then 0 else p.uv
      | _ => s.coilUv n
    let um := if p.miss then p.um else if mode = 2 then 0 else p.um
    let s := s.onLoop n (fun l => { l with uvApp := uv, umApp := um })
    let s := s.setReg (R.LOOP_OUT n) (ofS 16 uv + 65536 * ofS 16 um)
    let s := if p.miss then s else s.setBit (R.LOOP_STATUS n) 6 (mode != 2 && uv != p.want)
    let ofs := toS 16 (s.fld (R.MA_CFG n) 15 0)
    let free := !s.retracting n && mode != 2 && !p.miss
    let held := (s.sec n).act.maHeld && !free
    let c := satS 16 (um + ofs)
    let code := if held then ofs else if s.bit (R.MA_CFG n) 16 then satS 16 (-c) else c
    s.onAct n (fun a => { a with maHeld := held, maCode := code })

/-- The integrator of step 5 (R144, R145). -/
def State.integrate (s : State) (n : Fin 4) (p : Smp) : State :=
  let r := s.region n
  let g := s.gain n r
  if s.loopMode n = 0 ∧ s.rgInt n r = 1 ∧ g ≠ 0 then
    let dz := satS 32 (s.coef n r 73 * p.e * 2)
    let dir := sgn (p.want - (s.sec n).loop.uvApp)
    if s.bit (R.LOOP_STATUS n) 6 ∧ sgn (dz * s.coef n r 72) = dir then s
    else
      let lim := s.zlim n r
      s.setZ n (clampI (-lim) lim (satS 32 ((s.sec n).loop.z + dz)))
  else s

/-- The region of the next sample (R147). -/
def State.decideRegion (s : State) (n : Fin 4) (absE : Nat) : State :=
  let r := s.region n
  if s.loopMode n ≠ 0 ∨ s.bit (R.LOOP_STATUS n) 5 then s
  else if s.regionWord n r 2 < absE ∧ s.rgCoarser n r ≠ 7 then
    s.onLoop n (fun l => { l with nextReg := some (s.rgCoarser n r), dwell := 0 })
  else
    let f := s.rgFiner n r
    if f = 7 then s
    else
      let d := if absE < s.regionWord n f 1 then min 256 ((s.sec n).loop.dwell + 1) else 0
      s.onLoop n (fun l => { l with dwell := d, nextReg := if 1 ≤ d ∧ s.rgDwell n f ≤ d then some f else none })

/-- The prediction of step 5 from the commands actually applied (R141, R143). -/
def State.predict (s : State) (n : Fin 4) : State × Bool :=
  let r := s.region n
  let l := (s.sec n).loop
  if s.loopMode n = 2 then (s, false)
  else
    let xs := (List.range 6).map (fun i =>
      let a := macSum ⟨0, false⟩ ((s.coefs n r (6 * i) 6).zip l.x.toList)
      (((a.mac (s.coef n r (36 + i)) l.uvApp).mac (s.coef n r (42 + i)) l.umApp).shl (s.shift n r 0)).rnd)
    (s.onLoop n (fun l => { l with xp := Vector.ofFn (fun k : Fin 6 => (xs.map SV.v).getD k.val 0) }), xs.any SV.c)

/-- The coupling term of unit `i` for the next sample (R153). -/
def State.couple (s : State) (n : Fin 4) : Int × Bool :=
  let u (j : Fin 4) : Int := if s.loopMode j = 2 ∨ s.fenced j ∨ s.domOn (16 + j) = false then 0 else (s.sec j).loop.uvApp
  let m (j : Fin 4) : Int := s.leM[4 * n.val + j.val]
  let c := ((macSum ⟨0, false⟩ ((List.finRange 4).filterMap (fun j => if j = n then none else some (m j, u j)))).shl s.leSh).rnd
  (c.v, c.c)

/-- Step 5 of a unit. -/
def State.sampleEnd (s : State) (n : Fin 4) (p : Smp) (cpl : Int × Bool) : State :=
  if p.on = false then s
  else
    let (s, sat) := s.predict n
    let s := if p.miss then s.loopMiss n else
      let s := (s.integrate n p).decideRegion n p.absE
      s.onLoop n (fun l => { l with missRun := 0, fromManual := s.loopMode n == 1, absE := p.absE })
    let s := s.onLoop n (fun l => { l with cff := cpl.1 })
    let s := s.pgSample n (s.loopMode n == 0) p.cut p.grant p.miss (s.sec n).loop.y
    let sat := sat || p.sat || cpl.2
    let s := s.setBit (R.LOOP_STATUS n) 7 sat
    if sat then s.countM (R.LOOP_CNT_SAT n) (secEv n 0x22) else s

/-- A staged coupling commit takes effect at the start of the sample (R153). -/
def State.takeCoupling (s : State) : State :=
  if s.bit R.LE_STATUS 4 then
    let s := { s with
      leM := Vector.ofFn (fun k : Fin 16 => if k.val / 4 = k.val % 4 then 0 else toS 16 (s.fld (R.LE_CPL k) 15 0))
      leSh := s.fld R.LE_CPL_SH 2 0 }
    s.setBit R.LE_STATUS 4 false
  else s

/-- LOOP_SAMPLE: one sample of the four units and the shared block (R137). Bit n of `miss`: unit n misses its deadline; bit n
of `bad`: it meets an uncorrectable coefficient read. -/
def State.loopSample (s : State) (miss bad : Nat) : State :=
  let s := s.takeCoupling
  let (s, p0) := s.sampleStart 0 (bitOf miss 0) (bitOf bad 0)
  let (s, p1) := s.sampleStart 1 (bitOf miss 1) (bitOf bad 1)
  let (s, p2) := s.sampleStart 2 (bitOf miss 2) (bitOf bad 2)
  let (s, p3) := s.sampleStart 3 (bitOf miss 3) (bitOf bad 3)
  let fol (n : Fin 4) (p : Smp) : Bool := p.on && s.loopMode n == 0 && s.rgWp n (s.region n)
  let g := grants s.loopAvail (s.fld R.LE_FOLLOW_CAP 15 0) [p0.req, p1.req, p2.req, p3.req]
    [fol 0 p0, fol 1 p1, fol 2 p2, fol 3 p3]
  let (s, p0) := s.applyGrant 0 p0 (g.getD 0 0)
  let (s, p1) := s.applyGrant 1 p1 (g.getD 1 0)
  let (s, p2) := s.applyGrant 2 p2 (g.getD 2 0)
  let (s, p3) := s.applyGrant 3 p3 (g.getD 3 0)
  let s := (((s.applyCmd 0 p0).applyCmd 1 p1).applyCmd 2 p2).applyCmd 3 p3
  let c0 := s.couple 0
  let c1 := s.couple 1
  let c2 := s.couple 2
  let c3 := s.couple 3
  let s := (((s.sampleEnd 0 p0 c0).sampleEnd 1 p1 c1).sampleEnd 2 p2 c2).sampleEnd 3 p3 c3
  let m := b2n (p0.on && p0.miss) + 2 * b2n (p1.on && p1.miss) + 4 * b2n (p2.on && p2.miss) + 8 * b2n (p3.on && p3.miss)
  let s := s.setFld R.LE_STATUS 3 0 m
  if m = 0 then s else s.bump R.LE_CNT_MISS

/-! ### Position samples and the write permit (R73 to R75, R152) -/

/-- The position sample word that the demodulator forms for A and B, and the PES it carries (R73 to R76). -/
def State.posWord (s : State) (n : Fin 4) (a b : Nat) : Nat × Int :=
  let h : Fin 8 := ⟨s.head n % 8, Nat.mod_lt _ (by decide)⟩
  let held := (s.sec n).atb.lastPes[h]
  let ho := 536870912 * b2n (s.atbState n == stHOLDOVER)
  match (s.sec n).ledge[h] with
  | none => (ofS 16 held + 268435456 + ho, held)
  | some rec_ =>
    let sum := (a + b) / 2
    if sum < rec_.ldgMin then (ofS 16 held + 65536 * sum + 268435456 + ho, held)
    else
      let pes := satS 16 (pesFrom a b rec_.lin + rec_.readerOfs)
      (ofS 16 pes + 65536 * sum + ho, pes)

/-- The off-track input of R152 at a position sample with the given PES. -/
def State.offtrackNow (s : State) (n : Fin 4) (sinceBad : Nat) (bad : Bool) : Bool :=
  s.loopMode n != 0 || !s.rgWp n (s.region n) || s.recApp n != 0 || bad
    || decide (sinceBad < s.fld (R.LOOP_WINH n) 23 16) || (s.sec n).loop.missRun != 0

/-- POSITION_SAMPLE at angle `ang` with amplitudes `a` and `b`: the word of R73, the loss decision of R49, the off-track
judgement of R152 with its cut (R184) and count, the clearing of write inhibit (R67), and SETTLED (R245). -/
def State.positionSample (s : State) (n : Fin 4) (ang a b : Nat) : State :=
  let s := s.turnTo n ang
  let h : Fin 8 := ⟨s.head n % 8, Nat.mod_lt _ (by decide)⟩
  let (w, pes) := s.posWord n a b
  let low := bitOf w 28
  let run := if low then min 3 ((s.sec n).atb.lowRun + 1) else 0
  let s := s.onAtb n (fun t => { t with
    posWord := BitVec.ofNat 32 w
    lowRun := run
    lastPes := if low then t.lastPes else t.lastPes.set h pes })
  let s := if run = 2 ∧ s.atbState n = stLEDGE then s.ledgeLoss n else s
  let bad := decide (s.fld (R.LOOP_WINH n) 15 0 < (pes - s.ofsApp n).natAbs)
  let since := if bad then 0 else min 256 ((s.sec n).loop.sinceBad + 1)
  let off := s.offtrackNow n since bad
  let s := if off && !(s.sec n).loop.offLast then s.countM (R.LOOP_CNT_OFFTRACK n) (secEv n 0x23) else s
  let tag := match (s.sec n).chan.wr with
    | some wr => wr.tag
    | none => 0
  let s := if off && !s.bit (R.LOOP_STATUS n) 8 then s.offtrackCut n tag else s
  let s := (s.setBit (R.LOOP_STATUS n) 8 off).onLoop n (fun l => { l with sinceBad := since, offLast := off })
  let s := if s.winhStanding n then s else s.setBit (R.ATB_STATUS n) 4 false
  if off = false ∧ s.bit (R.ACT_STATUS n) 1 ∧ (s.sec n).act.settled = false ∧ s.linkUp then
    -- SETTLED notice (R245)
    let s := s.onAct n (fun a => { a with settled := true })
    s.setSec n { s.sec n with msch := { (s.sec n).msch with settled := true } }
  else s

/-- LEDGE_LOCK: 64 consecutive tone cycles within LOCK_TOL; STATE becomes LEDGE for a head with a valid record (R49, R76). -/
def State.ledgeLock (s : State) (n : Fin 4) : State :=
  let h : Fin 8 := ⟨s.head n % 8, Nat.mod_lt _ (by decide)⟩
  if (s.atbState n = stWEDGE ∨ s.atbState n = stHOLDOVER) ∧ ((s.sec n).ledge[h]).isSome then
    (s.setAtbState n stLEDGE).onAtb n (fun a => { a with lowRun := 0 })
  else s

/-! ### The commands -/

/-- LOOP_SAMPLE (R137). -/
def execLoopSample (t : Nat) (miss uncorr : BitVec 4) (s : State) : Res :=
  .next ((s.at t).loopSample miss.toNat uncorr.toNat)

/-- POSITION_SAMPLE (R73). -/
def execPositionSample (t : Nat) (n : Fin 4) (ang : Nat) (a b : BitVec 12) (s : State) : Res :=
  .next ((s.at t).ifSec n (fun s => s.positionSample n ang a.toNat b.toNat))

/-- LEDGE_LOCK (R49). -/
def execLedgeLock (t : Nat) (n : Fin 4) (s : State) : Res :=
  .next ((s.at t).ifSec n (fun s => s.ledgeLock n))

end Sys2Proof.Machine
end

