-- ==== Sys2Proof/Machine/Safe.lean ====
section
/-! DEFINITION. The safe state as its two deciders enter it: Sump through the die safe-request line and MAON on its own (R34,
R399), with what it does to every section. -/

namespace Sys2Proof.Machine

open Sys2Proof

/-- A fault message's 64 bits (R390). -/
def msgWord (src kind addr : Nat) : Nat := src % 1024 * 2 ^ 54 + kind % 64 * 2 ^ 48 + addr % 2 ^ 48

/-- SUMP_FIRST takes the first message that causes the safe state (R399 step 4, R407). -/
def State.latchFirst (s : State) (src kind addr : Nat) : State :=
  if s.rd64 R.SUMP_FIRST_LO R.SUMP_FIRST_HI = 0 then s.setReg64 R.SUMP_FIRST_LO R.SUMP_FIRST_HI (msgWord src kind addr) else s

/-- Steps 2 and 3 of R399: write inhibit in every section, the retract machine of every unparked section. -/
def State.safeSections (s : State) : State :=
  s.assertWinhAll.forSecs (fun n s => if s.parked n then s else s.startRetract n)

/-- Step 4 of R399 in Sump: SAFE set, SUMP_FIRST latched, the interrupt to the Control Core; the peer-safe flit (R478). -/
def State.sumpSafe (s : State) (src kind addr : Nat) : State :=
  if s.safe then s
  else ((((s.setBit R.SUMP_STATUS 0 true).latchFirst src kind addr).irq .cc .sump).pmuH 0x52 1).sendPeer .peerSafe

/-- Sump orders the safe state: the die safe-request line (R399). -/
def State.enterSafe (s : State) (src kind addr : Nat) : State :=
  let s := { s with sump := { s.sump with safeLine := true } }
  s.safeSections.sumpSafe src kind addr

/-- MAON takes a safe-state decision of its own: 512 with the cause in ADDR, or 513 for SAFE_REQ_N; the die alert line; Sump
logs it as SAFE_REQUEST (R33, R203, R396, R399). -/
def State.maonDecide (s : State) (src addr : Nat) : State :=
  if s.maon.safe then s
  else
    let s := { s with maon := { s.maon with safe := true }, sump := { s.sump with alertLine := true } }
    ((s.setBit R.SUMP_STATUS 3 true).safeSections.sumpSafe src kSAFEREQ addr).sendFault src kSAFEREQ addr

end Sys2Proof.Machine
end

