-- ==== Sys2Proof/Machine/Buffer.lean ====
section
/-! DEFINITION. BUF (R265 to R292, R540): buffer memory as the cores reach it with the checker test (R280), CE write-backs, the fill
and scrub engines, INIT flags, the dirty table and the power-loss dump; programming of the Safe Store (R443). -/

namespace Sys2Proof.Machine

open Sys2Proof

/-! ### Core access to buffer memory, and the checker test (R273, R280) -/

/-- The checker test applies to window offset `o` (R280). -/
def State.chkOn (s : State) (o : Nat) : Bool :=
  s.bit R.BUF_CHK_CTRL 0 && s.fld R.BUF_CHK_RGN 12 0 ≤ o / 1048576 && o / 1048576 ≤ s.fld R.BUF_CHK_RGN 28 16

/-- The syndrome a full-word core write of `d` leaves under the checker test (R280). -/
def State.chkSyn (s : State) (d : Nat) : Nat :=
  match s.fld R.BUF_CHK_CTRL 2 1 with
  | 1 => s.fld R.BUF_CHK_BITS 15 0
  | 2 => s.fld R.BUF_CHK_BITS 15 0 ^^^ chk d
  | _ => 0

/-- The part of a core's write that falls into word `w`. -/
def State.coreWordPart (s : State) (w at_ : Nat) (part : List Byte) : State :=
  if at_ = 0 ∧ part.length = 16 ∧ s.chkOn (16 * w) ∧ 16 * w < s.usable then
    s.storeWord w (ofBytes part) (s.chkSyn (ofBytes part))
  else s.writeWordPart w at_ part

/-- A core's write over `k` words. -/
def State.coreWords (s : State) : Nat → Nat → Nat → List Byte → State
  | 0, _, _, _ => s
  | k + 1, w, at_, bytes =>
    State.coreWords (s.coreWordPart w at_ (bytes.take (16 - at_))) k (w + 1) 0 (bytes.drop (16 - at_))

/-- The Control Core and the application cores are the cores of R273 and R280. -/
def isCore (i : Initiator) : Bool := iniIsCc i || iniIsApp i

/-- A write of bytes to buffer memory by an initiator. -/
def State.memWrite (s : State) (i : Initiator) (a : Nat) (bytes : List Byte) : State :=
  if bytes.length = 0 ∨ s.domOn 7 = false then s
  else
    let o := a - dramBase
    let s := s.pmuH 0x21 ((bytes.length + 63) / 64)
    let k := (o + bytes.length - 1) / 16 + 1 - o / 16
    if isCore i then s.coreWords k (o / 16) (o % 16) bytes else s.writeWords k (o / 16) (o % 16) bytes

/-- Raw reads of the checker test: stored data uncorrected, no message; check bits and syndrome latched (R280). -/
def State.rawWords (s : State) : Nat → Nat → BytesRead
  | _, 0 => ⟨s, [], false⟩
  | w, k + 1 =>
    let d := s.dramWord w
    let sy := s.dramSynOf w
    let s := s.setReg R.BUF_CHK_SYND ((sy ^^^ chk d) + 65536 * sy)
    let rest := State.rawWords s (w + 1) k
    ⟨rest.st, toBytes 16 d ++ rest.bytes, rest.err⟩

/-- The target of an interrupt or a precise fault of a core. -/
def iniTarget : Initiator → IrqTarget
  | .app c => .app c
  | .mgmt => .mgmt
  | _ => .cc

/-- A core reads bytes of buffer memory: the error indication is a precise access fault (R273). -/
def State.memRead (s : State) (i : Initiator) (a n : Nat) : BytesRead :=
  let o := a - dramBase
  if isCore i ∧ s.chkOn o ∧ s.bit R.BUF_CHK_CTRL 3 ∧ s.domOn 7 ∧ o + n ≤ s.usable ∧ 0 < n then
    let w0 := o / 16
    let r := (s.pmuH 0x20 ((n + 63) / 64)).rawWords w0 ((o + n - 1) / 16 + 1 - w0)
    ⟨r.st, (r.bytes.drop (o % 16)).take n, false⟩
  else
    let r := s.bufReadOfs (reqOf i) o n
    if r.err ∧ isCore i then ⟨r.st.irq (iniTarget i) (.access a), r.bytes, true⟩ else r

/-- CE_WRITE_BACK: the oldest waiting write-back is performed (R274, R287). Any other write to its word has dropped it. -/
def State.ceWriteBack (s : State) : State :=
  match s.buf.ceQ with
  | [] => s
  | (w, d) :: _ => if s.domOn 7 then s.storeWord w d 0 else s

/-! ### Fill engine (R277) -/

/-- Write a pattern to `k` words. -/
def State.fillWords (s : State) (pat syn : Nat) : Nat → Nat → State
  | _, 0 => s
  | w, k + 1 => State.fillWords (s.storeWord w pat syn) pat syn (w + 1) k

/-- Set the INIT flag of region `r`. -/
def State.setInit (s : State) (r : Nat) (b : Bool) : State := s.setBit (R.BUF_INIT (r / 32)) (r % 32) b

/-- Set the INIT flags of every region inside the window offsets [lo, hi), from region `r` on. -/
def State.initRegions (s : State) (lo hi : Nat) : Nat → Nat → State
  | _, 0 => s
  | r, k + 1 =>
    State.initRegions (if lo ≤ r * 1048576 ∧ (r + 1) * 1048576 ≤ hi then s.setInit r true else s) lo hi (r + 1) k

/-- The fill engine writes its next `k` words and flags the regions it has finished. -/
def State.fillRun (s : State) (f : FillRun) (k : Nat) : State :=
  let s := (s.pmuH 0x21 ((k + 3) / 4)).pmuH 0x28 ((k + 3) / 4)
  let s := s.fillWords f.pat (if f.poison then poisonSyn else 0) (f.first / 16) k
  s.initRegions f.first (f.first + 16 * k) (f.first / 1048576) (16 * k / 1048576 + 1)

/-- A write of BUF_FILL_CTRL with GO (R277; log 29: a GO while a fill runs has no effect). -/
def State.fillGo (s : State) (w : Nat) : State :=
  if bitOf w 0 = false ∨ s.buf.fill.isSome then s
  else
    let start := s.rd64 R.BUF_FILL_START_LO R.BUF_FILL_START_HI
    let len := s.rd64 R.BUF_FILL_LEN_LO R.BUF_FILL_LEN_HI
    if start % 16 = 0 ∧ len % 16 = 0 ∧ dramBase ≤ start ∧ start + len ≤ dramBase + s.usable then
      let pat := s.rd (R.BUF_FILL_PAT 0) + 2 ^ 32 * s.rd (R.BUF_FILL_PAT 1) + 2 ^ 64 * s.rd (R.BUF_FILL_PAT 2)
        + 2 ^ 96 * s.rd (R.BUF_FILL_PAT 3)
      ({ s with buf := { s.buf with fill := some ⟨start - dramBase, len / 16, bitOf w 1, pat⟩ } }).setBit R.BUF_STATUS 1 true
    else s.protocol 34 0

/-- An ABORT, or power loss: the engine stops after the word in progress. How many words it had written is a free value
(R277, R289; log 29). -/
def State.fillStop (s : State) : State :=
  match s.buf.fill with
  | none => s
  | some f =>
    let k := (Config.freeWord s.free).toNat % (f.words + 1)
    let s := s.useFree.fillRun f k
    { s with buf := { s.buf with fill := some { f with words := 0 } } }

/-- FILL_DONE (R277): the remaining words are written; FILL_BUSY clears and FILL_DONE sets. -/
def State.fillDone (s : State) : State :=
  match s.buf.fill with
  | none => s
  | some f =>
    let s := s.fillRun f f.words
    (({ s with buf := { s.buf with fill := none } }).setBit R.BUF_STATUS 1 false).bufInt 0

/-! ### Scrub engine (R279) -/

/-- The first region at or after `r` (cyclically over `n` regions) whose INIT flag is set, looking at `k` regions. -/
def State.nextInit (s : State) (n : Nat) : Nat → Nat → Option Nat
  | _, 0 => none
  | r, k + 1 => if s.bit (R.BUF_INIT (r % n / 32)) (r % n % 32) then some (r % n) else State.nextInit s n (r + 1) k

/-- The word the scrub engine reads next: regions with INIT clear are passed over. -/
def State.scrubWord (s : State) : Option Nat :=
  let n := s.usable / 1048576
  let w := s.buf.scrubPos % (n * 65536)
  match s.nextInit n (w / 65536) n with
  | none => none
  | some r => some (if r = w / 65536 then w else r * 65536)

/-- SCRUB_READ (R279); the scrub engine stops at power loss (R289). -/
def State.scrubRead (s : State) : State :=
  if s.bit R.BUF_SCRUB_CFG 0 ∧ s.domOn 7 ∧ s.maon.powerLossAt = none then
    match s.scrubWord with
    | none => s
    | some w =>
      let s := { s.setReg R.BUF_SCRUB_POS (w / 65536) with buf := { s.buf with scrubPos := w + 1 } }
      let s := (s.pmuH 0x20 1).pmuH 0x29 1
      let sy := s.dramSynOf w
      let back (s : State) (d : Nat) : State := { s with buf := { s.buf with ceQ := s.buf.ceQ ++ [(w, d)] } }
      match eccClass sy with
      | .clean => s
      | .ce1 p => back (s.bufCe w 1 11 sy) (flipData (s.dramWord w) p)
      | .ce2 p q => back (s.bufCe w 2 11 sy) (flipData (flipData (s.dramWord w) p) q)
      | .poison => s.bufBad 3 w 11 sy 32
      | .ue => (s.bufBad 4 w 11 sy 34).storeWord w (s.dramWord w) poisonSyn
  else s

/-! ### INIT flags (R275) -/

/-- A write to BUF_INIT_CLR. -/
def State.initClr (s : State) (w : Nat) : State :=
  if w % 8192 < 7168 then s.setInit (w % 8192) false else s

/-! ### The dirty table (R282, R283, R289) -/

/-- Dump size of an entry (R283). -/
def dumpSize (count : Nat) : Nat := 64 + 64 * ((32 * count + 63) / 64) + 4096 * count

/-- Address of entry `x` of the dirty table. -/
def State.dtAddr (s : State) (x : Nat) : Nat := s.rd64 R.BUF_DT_BASE_LO R.BUF_DT_BASE_HI + 64 * x

/-- A read of word `w` ends in POISON, UE or UNINIT (R273). -/
def State.wordBad (s : State) (w : Nat) : Bool :=
  16 * w < s.usable &&
  match eccClass (s.dramSynOf w) with
  | .clean => false
  | .ce1 _ => !s.initFlag (16 * w)
  | .ce2 _ _ => !s.initFlag (16 * w)
  | .poison => true
  | .ue => true

/-- A read of `n` words at an internal address of the DRAM window meets POISON, UE or UNINIT. -/
def State.wordsBad (s : State) (a n : Nat) : Bool :=
  inDram a && (List.range n).any (fun k => s.wordBad ((a - dramBase) / 16 + k))

/-- Set RESULT of BUF_DT_RES for an initiator. -/
def State.dtResult (s : State) (i : Initiator) (r : Nat) : State :=
  { s with buf := { s.buf with dtRes := iniPut s.buf.dtRes i r } }

/-- DT_MARK (R283). -/
def State.dtMark (s : State) (i : Initiator) (x : Nat) : State :=
  if s.buf.dumpStarted then s.dtResult i 3
  else if s.buf.marks.any (fun m => m.1 == x) then s.dtResult i 2
  else
    let a := s.dtAddr x
    let bad := s.wordsBad a 4
    let r := s.busRead 13 a 64
    let count := bitsOf (wordAt r.bytes 8) 27 16
    let data := dwordAt r.bytes 32
    let side := dwordAt r.bytes 40
    if bad ∨ r.err ∨ count = 0 ∨ data % 4096 ≠ 0 ∨ side % 32 ≠ 0 then r.st.dtResult i 4
    else
      let total := r.st.rd R.BUF_DIRTY + dumpSize count
      if r.st.rd R.BUF_DIRTY_LIMIT < total ∨ r.st.rd R.BUF_DUMP_SIZE < total + 128 then r.st.dtResult i 1
      else
        let s := r.st.setReg R.BUF_DIRTY total
        ({ s with buf := { s.buf with marks := spIns x count s.buf.marks } }).dtResult i 0

/-- DT_CLEAN (R283). -/
def State.dtClean (s : State) (i : Initiator) (x : Nat) : State :=
  if s.buf.dumpStarted then s.dtResult i 3
  else
    match s.buf.marks.find? (fun m => m.1 == x) with
    | none => s.dtResult i 2
    | some m =>
      let s := s.setReg R.BUF_DIRTY (s.rd R.BUF_DIRTY - dumpSize m.2)
      ({ s with buf := { s.buf with marks := spDel x s.buf.marks } }).dtResult i 0

/-! ### The Safe Store device (R443, R453) -/

/-- Capacity of the Safe Store in bytes (R453). -/
def State.ssCapacity (s : State) : Nat := 2 ^ (s.fld R.SS_CFG 3 0 + 24)

/-- `n` free bytes (log 12). -/
def freeBytes (k n : Nat) : List Byte := (List.range n).map (fun j => (Config.freeWord (k + j)).truncate 8)

/-- Program bytes: where the area is not erased, the bytes written hold undefined values (R443). -/
def State.ssProgram (s : State) (a : Nat) (bytes : List Byte) : State :=
  if (Memory.readBytes erasedByte s.store a bytes.length).all (fun b => b == erasedByte) then
    { s with store := Memory.writeBytes erasedByte s.store a bytes }
  else
    { s with
      store := Memory.writeBytes erasedByte s.store a (freeBytes s.free bytes.length)
      free := s.free + bytes.length }

/-- Read bytes of the Safe Store. -/
def State.ssBytes (s : State) (a n : Nat) : List Byte := Memory.readBytes erasedByte s.store a n

/-- Erase bytes of the Safe Store. -/
def State.ssErase (s : State) (a n : Nat) : State :=
  { s with store := s.store.filter (fun c => c.1 < a || a + n ≤ c.1) }

/-- The requester that a Safe Store port's transfer names in BUF (log 61). -/
def ssReq (p : Nat) : Nat := if p = 1 then 1 else 0

/-- The first `n` bytes of a port command (R443). -/
def State.ssDo (s : State) (p : Nat) (r : SsRun) (n : Nat) : State :=
  match r.op with
  | 1 => s.busWrite r.mem (s.ssBytes r.addr n)
  | 2 =>
    let x := s.busRead (ssReq p) r.mem n
    x.st.ssProgram r.addr x.bytes
  | _ => s.ssErase r.addr n

/-! ### The directory (R444) -/

/-- The bytes of a directory copy. -/
def State.dirCopy (s : State) (k : Nat) : List Byte := s.ssBytes (65536 * k) 4096

/-- A copy is valid. -/
def dirValid (b : List Byte) : Bool := wordAt b 0 == 0x53440001 && wordAt b 4092 == crc32c (b.take 4092)

/-- The directory in force: the copy and its bytes. -/
def State.directory (s : State) : Option (Nat × List Byte) :=
  let a := s.dirCopy 0
  let b := s.dirCopy 1
  if dirValid a && dirValid b then (if wordAt a 4 < wordAt b 4 then some (1, b) else some (0, a))
  else if dirValid a then some (0, a)
  else if dirValid b then some (1, b)
  else none

/-- BASE, SIZE, GEN and LEN of an entry. -/
structure DirEntry where
  base : Nat
  size : Nat
  gen : Nat
  len : Nat
deriving DecidableEq, Repr

/-- Entry `e` of directory bytes. -/
def dirEntry (b : List Byte) (e : Nat) : DirEntry :=
  let o := 16 + 16 * e
  ⟨wordAt b o, wordAt b (o + 4), wordAt b (o + 8), wordAt b (o + 12)⟩

/-- Write the copy that is not in force, with SEQ one higher (R444). -/
def State.dirWrite (s : State) (k : Nat) (b : List Byte) : State :=
  let x := (overlay b 4 (toBytes 4 (wordAt b 4 + 1))).take 4092
  let a := 65536 * (1 - k)
  (s.ssErase a 65536).ssProgram a (x ++ toBytes 4 (crc32c x))

/-- Store data in the slot of entries `e` and `e + 1` that is empty or has the lower GEN, verify it as stored, and write the
directory with the slot's GEN one above the other's (R445, R446). None: no directory, no room, or the stored bytes differ. -/
def State.slotStore (s : State) (e : Nat) (data : List Byte) : Option State :=
  match s.directory with
  | none => none
  | some (k, b) =>
    let x := dirEntry b e
    let y := dirEntry b (e + 1)
    let first := decide (x.gen ≤ y.gen)
    let slot := if first then x else y
    let gen := (if first then y.gen else x.gen) + 1
    let n := if first then e else e + 1
    if 65536 * slot.size < data.length then none
    else
      let s := (s.ssErase (65536 * slot.base) (65536 * slot.size)).ssProgram (65536 * slot.base) data
      if s.ssBytes (65536 * slot.base) data.length == data then
        some (s.dirWrite k (overlay b (16 + 16 * n + 8) (toBytes 4 gen ++ toBytes 4 data.length)))
      else none

/-- A store that the Safe Store device ends with an error: how far the erase and the program of the slot went is free; the directory
stays (R444, R446). -/
def State.slotFail (s : State) (e : Nat) (data : List Byte) : State :=
  match s.directory with
  | none => s
  | some (_, b) =>
    let x := dirEntry b e
    let y := dirEntry b (e + 1)
    let slot := if x.gen ≤ y.gen then x else y
    let k := (Config.freeWord s.free).toNat % (data.length + 2)
    let s := s.useFree
    if k = 0 ∨ 65536 * slot.size < data.length then s
    else (s.ssErase (65536 * slot.base) (65536 * slot.size)).ssProgram (65536 * slot.base) (data.take (k - 1))

/-- The bytes of a slot, by its entry. -/
def State.slotBytes (s : State) (b : List Byte) (e : Nat) : List Byte :=
  let x := dirEntry b e
  s.ssBytes (65536 * x.base) (min x.len (65536 * x.size))

/-- The slots of entries `e` and `e + 1` that hold something, the one with the higher GEN first (R445). -/
def slotOrder (b : List Byte) (e : Nat) : List Nat :=
  let l := if (dirEntry b e).gen < (dirEntry b (e + 1)).gen then [e + 1, e] else [e, e + 1]
  l.filter (fun k => (dirEntry b k).gen != 0)

/-! ### The end of a port command -/

/-- A port command ends with RESULT `res` (R453). -/
def State.ssEnd (s : State) (p : Fin 3) (res : Nat) : State :=
  let s := { s with pwr := { s.pwr with ss := s.pwr.ss.set p none } }
  s.setReg (R.SS_STATUS p) (2 * res)

/-- A dump starts: a command that runs on the port ends ABORTED at its next 256-byte boundary (R443); how far it got is free. -/
def State.ssAbort (s : State) (p : Fin 3) : State :=
  match s.pwr.ss[p] with
  | some r =>
    let n := min r.len (256 * ((Config.freeWord s.free).toNat % (r.len / 256 + 1)))
    ((s.useFree).ssDo p r n).ssEnd p 3
  | none => s

/-! ### The dump (R284 to R286, R540) -/

/-- A 64-byte record: its first 60 bytes, zero-padded, then their CRC-32C (R285). -/
def dumpRecord (b : List Byte) : List Byte :=
  let h := (b ++ List.replicate 60 0#8).take 60
  h ++ toBytes 4 (crc32c h)

/-- A dump starts: it takes the marked set (R284, R285, R289). -/
def State.dumpBegin (s : State) : State :=
  let seq := (s.rd R.BUF_DUMP_SEQ + 1) % 2 ^ 32
  let ents := s.buf.marks
  let total := (ents.map (fun m => dumpSize m.2)).foldl (· + ·) 128
  let rec_ := dumpRecord (toBytes 4 0x44560001 ++ toBytes 4 seq ++ toBytes 8 s.gtc ++ toBytes 4 ents.length ++ toBytes 4 0
    ++ toBytes 8 total)
  let base := 65536 * s.fld R.BUF_DUMP_BASE 16 0
  let s := ((s.ssAbort 0).ssAbort 1).ssAbort 2
  let s := ((s.setReg R.BUF_DUMP_SEQ seq).setBit R.BUF_STATUS 3 false).setFld R.BUF_DUMP_STATUS 1 0 1
  { s with buf := { s.buf with
      dump := some ⟨ents, base, seq, rec_⟩
      dumpStarted := true
      dumpDue := none } }

/-- The copy of one entry: the entry with UEDUMP, its side array padded to 64 bytes, its data (R285). -/
def State.dumpEntry (s : State) (m : Nat × Nat) : BytesRead :=
  let e := s.busRead 13 (s.dtAddr m.1) 64
  let side := e.st.busRead 13 (dwordAt e.bytes 40) (32 * m.2)
  let data := side.st.busRead 13 (dwordAt e.bytes 32) (4096 * m.2)
  let w14 := putBits (wordAt e.bytes 56) 0 0 (b2n (side.err || data.err))
  ⟨data.st, overlay e.bytes 56 (toBytes 4 w14) ++ (side.bytes ++ List.replicate (64 * ((32 * m.2 + 63) / 64) - 32 * m.2) 0#8)
    ++ data.bytes, e.err⟩

/-- The copies of the marked entries in ascending order. -/
def State.dumpEntries (s : State) : List (Nat × Nat) → BytesRead
  | [] => ⟨s, [], false⟩
  | m :: r =>
    let e := s.dumpEntry m
    let rest := State.dumpEntries e.st r
    ⟨rest.st, e.bytes ++ rest.bytes, false⟩

/-- The dump stops on an error: STATE 3, DUMP_ERR, TIMEOUT; what of the image was written is a free length (R286). -/
def State.dumpFail (s : State) : State :=
  match s.buf.dump with
  | none => s
  | some d =>
    let r := s.dumpEntries d.entries
    let img := d.startRec ++ r.bytes
    let k := (Config.freeWord r.st.free).toNat % (img.length + 1)
    let s := r.st.useFree.ssProgram d.base ((img.take k).take (s.ssCapacity - d.base))
    let s := { s with buf := { s.buf with dump := none } }
    (((s.setFld R.BUF_DUMP_STATUS 1 0 3).bufInt 6).sendFault 35 kTIMEOUT 0).plTell

/-- DUMP_DONE: start record, entries and commit record stand in the Safe Store (R284, R285). An area beyond the device's end
is an error of the device (R443, R286). -/
def State.dumpDone (s : State) : State :=
  match s.buf.dump with
  | none => s
  | some d =>
    let r := s.dumpEntries d.entries
    let img := d.startRec ++ r.bytes
    let commit := dumpRecord (toBytes 4 0x445600FF ++ toBytes 4 d.seq ++ toBytes 4 d.entries.length ++ toBytes 4 0
      ++ toBytes 4 (crc32c img))
    let img := img ++ commit
    if s.ssCapacity < d.base + img.length then s.dumpFail
    else
      let s := r.st.ssProgram d.base img
      let s := { s with buf := { s.buf with dump := none } }
      (((s.setFld R.BUF_DUMP_STATUS 1 0 2).setBit R.BUF_STATUS 3 true).bufInt 5).plTell

/-- DUMP_START: the dump that power loss ordered starts while BUF is ON (R284, R540). -/
def State.dumpStart (s : State) : State :=
  if s.buf.dumpDue.isSome ∧ s.domOn 7 ∧ s.buf.dumpStarted = false ∧ s.bit R.BUF_DUMP_CTRL 0 then s.dumpBegin else s

/-- A power-loss decision orders a dump (R284, R540): not while BUF is OFF without retention or powering down without it. -/
def State.dumpOrder (s : State) : State :=
  let ret := s.pwr.retained[7]!
  if s.bit R.BUF_DUMP_CTRL 0 ∧ s.buf.dumpStarted = false ∧ (s.domOn 7 ∨ ret) then
    { s with buf := { s.buf with dumpDue := some s.gtc } }
  else s

/-- A write of EN 1 (R284). -/
def State.dumpArm (s : State) : State :=
  if s.bit R.BUF_DUMP_CTRL 0 then s
  else if s.ssCapacity < 65536 * s.fld R.BUF_DUMP_BASE 16 0 + s.rd R.BUF_DUMP_SIZE then s.protocol 35 0
  else s.setBit R.BUF_DUMP_CTRL 0 true

/-- A write of EN 0 (R284). -/
def State.dumpDisarm (s : State) : State :=
  if s.fld R.BUF_DUMP_STATUS 1 0 = 1 then s.protocol 35 0
  else
    let s := (s.setBit R.BUF_DUMP_CTRL 0 false).setFld R.BUF_DUMP_STATUS 1 0 0
    { s with buf := { s.buf with dumpStarted := false, dumpDue := none } }

/-- A write of 1 to TEST (R284, R292). -/
def State.dumpTest (s : State) : State :=
  if s.lcState ≠ 1 ∧ s.lcState ≠ 2 then s.protocol 32 0
  else if s.bit R.BUF_DUMP_CTRL 0 = false ∨ s.buf.dumpStarted then s.protocol 35 0
  else s.dumpBegin

/-! ### Commands -/

/-- MERGE_WRITE (R278). -/
def execMergeWrite (t : Nat) (i : Initiator) (addr : Nat) (bytes : List (BitVec 8)) (s : State) : Res :=
  .next (if inDram addr then (s.at t).memWrite i addr bytes else s.at t)

/-- CE_WRITE_BACK (R274). -/
def execCeWriteBack (t : Nat) (s : State) : Res := .next (s.at t).ceWriteBack

/-- FILL_GO (R277). -/
def execFillGo (t : Nat) (i : Initiator) (w : BitVec 32) (s : State) : Res :=
  .next ((s.at t).onReg i R.BUF_FILL_CTRL (fun s => s.fillGo w.toNat))

/-- FILL_ABORT (R277). -/
def execFillAbort (t : Nat) (i : Initiator) (s : State) : Res :=
  .next ((s.at t).onReg i R.BUF_FILL_CTRL (fun s => s.fillStop))

/-- FILL_DONE (R277). -/
def execFillDone (t : Nat) (s : State) : Res := .next (s.at t).fillDone

/-- SCRUB_READ (R279). -/
def execScrubRead (t : Nat) (s : State) : Res := .next (s.at t).scrubRead

/-- INIT_SET (R275). -/
def execInitSet (t : Nat) (i : Initiator) (k : Nat) (w : BitVec 32) (s : State) : Res :=
  .next (if k < 224 then
    (s.at t).onReg i (R.BUF_INIT k) (fun s => s.setReg (R.BUF_INIT k) (s.rd (R.BUF_INIT k) ||| w.toNat)) else s.at t)

/-- INIT_CLR (R275). -/
def execInitClr (t : Nat) (i : Initiator) (w : BitVec 32) (s : State) : Res :=
  .next ((s.at t).onReg i R.BUF_INIT_CLR (fun s => s.initClr w.toNat))

/-- DT_MARK (R283). -/
def execDtMark (t : Nat) (i : Initiator) (w : BitVec 32) (s : State) : Res :=
  .next ((s.at t).onReg i R.BUF_DT_MARK (fun s => s.dtMark i (w.toNat % 65536)))

/-- DT_CLEAN (R283). -/
def execDtClean (t : Nat) (i : Initiator) (w : BitVec 32) (s : State) : Res :=
  .next ((s.at t).onReg i R.BUF_DT_CLEAN (fun s => s.dtClean i (w.toNat % 65536)))

/-- DUMP_ARM (R284). -/
def execDumpArm (t : Nat) (i : Initiator) (s : State) : Res :=
  .next ((s.at t).onReg i R.BUF_DUMP_CTRL (fun s => s.dumpArm))

/-- DUMP_DISARM (R284). -/
def execDumpDisarm (t : Nat) (i : Initiator) (s : State) : Res :=
  .next ((s.at t).onReg i R.BUF_DUMP_CTRL (fun s => s.dumpDisarm))

/-- TEST (R284). -/
def execTest (t : Nat) (i : Initiator) (s : State) : Res :=
  .next ((s.at t).onReg i R.BUF_DUMP_CTRL (fun s => s.dumpTest))

/-- DUMP_START (R284, R540). -/
def execDumpStart (t : Nat) (s : State) : Res := .next (s.at t).dumpStart

/-- DUMP_DONE (R284, R285). -/
def execDumpDone (t : Nat) (s : State) : Res := .next (s.at t).dumpDone

/-- DUMP_ERROR (R286). -/
def execDumpError (t : Nat) (s : State) : Res := .next (s.at t).dumpFail

end Sys2Proof.Machine
end

