-- ==== Sys2Proof/Machine/MapCache.lean ====
section
/-! DEFINITION. The Map Cache and Pocket (R293 to R311): core accesses, fills, preload and locks, range operations, disable. -/

namespace Sys2Proof.Machine

open Sys2Proof

/-! ### Windows, lines, ways -/

/-- Window k is enabled and holds an address (R293). -/
def State.inWin (s : State) (k a : Nat) : Bool :=
  let w := s.rd (R.MAPC_WIN_SIZE k)
  let base := 65536 * s.rd (R.MAPC_WIN_BASE k)
  bitOf w 31 && base ≤ a && a < base + 2 ^ bitsOf w 4 0

/-- SIZE and BASE of window k agree with alignment and with the usable capacity (R311). -/
def State.winOk (s : State) (k : Nat) : Bool :=
  let size := 2 ^ s.fld (R.MAPC_WIN_SIZE k) 4 0
  let base := 65536 * s.rd (R.MAPC_WIN_BASE k)
  65536 ≤ size && base % size == 0 && dramBase ≤ base && base + size ≤ dramBase + s.usable

/-- After a write to window k: one that does not fit does not enable (R311). -/
def State.winCheck (s : State) (k : Nat) : State :=
  if s.bit (R.MAPC_WIN_SIZE k) 31 ∧ s.winOk k = false then (s.setBit (R.MAPC_WIN_SIZE k) 31 false).protocol 48 0 else s

/-- An address is cached (R293). -/
def State.cached (s : State) (a : Nat) : Bool :=
  s.domOn 8 && s.bit R.MAPC_STATUS 0 && (s.inWin 0 a || s.inWin 1 a || s.inWin 2 a || s.inWin 3 a)

/-- The set of a line address (R294). -/
def lineSet (l : Nat) : Nat := l % 2048

/-- The line in a slot. -/
def State.mline (s : State) (set way : Nat) : Option MLine := findKeyM (8 * set + way) s.mapc.lines
where
  findKeyM (k : Nat) : List (Nat × MLine) → Option MLine
    | [] => none
    | (j, v) :: r => if j = k then some v else findKeyM k r

/-- Put a line into a slot, or empty the slot. -/
def State.setLine (s : State) (set way : Nat) (x : Option MLine) : State :=
  let k := 8 * set + way
  let l := spDel k s.mapc.lines
  { s with mapc := { s.mapc with lines := match x with
      | some m => spIns k m l
      | none => l } }

/-- Way w is locked. -/
def State.locked (s : State) (w : Nat) : Bool := s.bit R.MAPC_LOCK w

/-- The way of its set that holds a line address. -/
def State.wayOf (s : State) (l : Nat) : Option Nat :=
  (List.range 8).find? (fun w => match s.mline (lineSet l) w with
    | some m => m.line == l
    | none => false)

/-- Touch way w in the pseudo-LRU tree: every node on its path points away (log 41). -/
def plruTouch (t w : Nat) : Nat :=
  let b2 := w / 4 % 2
  let b1 := w / 2 % 2
  let b0 := w % 2
  let t := putBits t 0 0 (1 - b2)
  let t := putBits t (1 + b2) (1 + b2) (1 - b1)
  putBits t (3 + 2 * b2 + b1) (3 + 2 * b2 + b1) (1 - b0)

/-- Some way among [lo, hi) is unlocked. -/
def State.anyOpen (s : State) (lo hi : Nat) : Bool := (List.range 8).any (fun w => lo ≤ w && w < hi && !s.locked w)

/-- The unlocked way the tree names: a half with no unlocked way is passed over. -/
def State.plruWay (s : State) (t : Nat) : Nat :=
  let pick (bit lo mid hi : Nat) : Bool := if bit = 0 then !s.anyOpen lo mid else s.anyOpen mid hi
  let b2 := b2n (pick (bitsOf t 0 0) 0 4 8)
  let b1 := b2n (pick (bitsOf t (1 + b2) (1 + b2)) (4 * b2) (4 * b2 + 2) (4 * b2 + 4))
  let b0 := b2n (pick (bitsOf t (3 + 2 * b2 + b1) (3 + 2 * b2 + b1)) (4 * b2 + 2 * b1) (4 * b2 + 2 * b1 + 1) (4 * b2 + 2 * b1 + 2))
  4 * b2 + 2 * b1 + b0

/-- Mark a use of a slot. -/
def State.touch (s : State) (set way : Nat) : State :=
  let t := spGet 0 s.mapc.plru set
  { s with mapc := { s.mapc with plru := spPut 0 s.mapc.plru set (plruTouch t way) } }

/-- The way to fill in a set (R297). -/
def State.victim (s : State) (set : Nat) : Nat :=
  match (List.range 8).find? (fun w => !s.locked w && (s.mline set w).isNone) with
  | some w => w
  | none => s.plruWay (spGet 0 s.mapc.plru set)

/-! ### Write-backs and Pocket (R298) -/

/-- Write a line back as eight full words. -/
def State.writeBack (s : State) (m : MLine) : State :=
  ((s.busWrite (dramBase + 128 * m.line) m.data).bump R.MAPC_CNT_WB).pmuH 0x33 1

/-- Write a line back if it is dirty. -/
def State.writeBackIf (s : State) (m : MLine) : State := if m.dirty then s.writeBack m else s

/-- A line leaves its set: into Pocket, whose oldest line leaves when it is full; without Pocket, to BUF if dirty. -/
def State.leaveSet (s : State) (m : MLine) : State :=
  if s.mapc.pocketOn then
    match s.mapc.pocket with
    | o :: rest =>
      if 32 ≤ s.mapc.pocket.length then
        let s := s.writeBackIf o
        { s with mapc := { s.mapc with pocket := rest ++ [m] } }
      else { s with mapc := { s.mapc with pocket := s.mapc.pocket ++ [m] } }
    | [] => { s with mapc := { s.mapc with pocket := [m] } }
  else s.writeBackIf m

/-- Install a line in a slot; its occupant leaves the set. -/
def State.install (s : State) (set way : Nat) (m : MLine) : State :=
  let old := s.mline set way
  let s := s.setLine set way (some m)
  let s := match old with
    | some o => if o.line = m.line then s else s.leaveSet o
    | none => s
  s.touch set way

/-- The Pocket entry of a line address. -/
def State.inPocket (s : State) (l : Nat) : Option MLine := s.mapc.pocket.find? (fun m => m.line == l)

/-- Take a line out of Pocket. -/
def State.fromPocket (s : State) (l : Nat) : State :=
  { s with mapc := { s.mapc with pocket := s.mapc.pocket.filter (fun m => m.line ≠ l) } }

/-- HOLE_CNT follows locks and lines (R301, R303). -/
def State.holeSync (s : State) : State :=
  let locked := ((List.range 6).filter (fun w => s.locked w)).length
  let valid := (s.mapc.lines.filter (fun e => s.locked (e.1 % 8))).length
  s.setReg R.MAPC_HOLE_CNT (2048 * locked - valid)

/-! ### Accesses (R296, R299) -/

/-- Serve an access from the line in a slot. -/
def State.serve (s : State) (x : MAccess) (set way : Nat) : State :=
  match s.mline set way with
  | none => s
  | some m =>
    let o := x.addr % 128
    let s := s.touch set way
    match x.op with
    | .load n => { s with lastData := (m.data.drop o).take n }
    | .store b => s.setLine set way (some { m with
        dirty := true
        data := overlay m.data o b })
    | .atomic b =>
      { s.setLine set way (some { m with
          dirty := true
          data := overlay m.data o b }) with lastData := (m.data.drop o).take b.length }

/-- How many bytes an access covers. -/
def CoreOp.len : CoreOp → Nat
  | .load n => n
  | .store b => b.length
  | .atomic b => b.length

/-- An access that goes straight to BUF (R293), or to any other memory a core reaches. -/
def State.straight (s : State) (x : MAccess) : State :=
  match x.op with
  | .load n =>
    let r := s.memRead (.app x.core) x.addr n
    { r.st with lastData := r.bytes }
  | .store b => s.memWrite (.app x.core) x.addr b
  | .atomic b =>
    let r := s.memRead (.app x.core) x.addr b.length
    { (if r.err then r.st else r.st.memWrite (.app x.core) x.addr b) with lastData := r.bytes }

/-- Look an access up: a hit, a recall, or a miss whose fill starts (R296). -/
def State.lookup (s : State) (x : MAccess) : State :=
  let l := (x.addr - dramBase) / 128
  let set := lineSet l
  match s.wayOf l with
  | some w => ((s.bump R.MAPC_CNT_HIT).pmuH 0x30 1).serve x set w
  | none =>
    match s.inPocket l with
    | some m =>
      let s := ((s.bump R.MAPC_CNT_RECALL).pmuH 0x32 1).fromPocket l
      let w := s.victim set
      (s.install set w m).serve x set w
    | none =>
      let s := (s.bump R.MAPC_CNT_MISS).pmuH 0x31 1
      { s with mapc := { s.mapc with miss := some x } }

/-- The cache serves nothing while a fill runs, or while a disable is in progress (R296, R304). -/
def State.mapcStalls (s : State) : Bool := s.mapc.miss.isSome || s.mapc.disabling

/-- Take one access of a core. An access beyond one line is cut at the line's end. -/
def State.takeAccess (s : State) (x : MAccess) : State :=
  if s.cached x.addr then
    if s.mapcStalls then { s with mapc := { s.mapc with wait := s.mapc.wait ++ [x] } } else s.lookup x
  else s.straight x

/-- Serve the accesses that waited, in order, until one misses. -/
def State.serveWaiting : Nat → State → State
  | 0, s => s
  | fuel + 1, s =>
    match s.mapc.wait with
    | [] => s
    | x :: rest =>
      if s.mapcStalls then s
      else
        let s := { s with mapc := { s.mapc with wait := rest } }
        State.serveWaiting fuel (if s.cached x.addr then s.lookup x else s.straight x)

/-- MAPC_ACCESS (R296). -/
def State.mapcAccess (s : State) (c : Fin 4) (a : Nat) (op : CoreOp) : State :=
  if inDram a = false then s
  else
    let room := 128 - a % 128
    match op with
    | .load n =>
      let s := s.takeAccess ⟨c, a, .load (min n room), s.gtc⟩
      if room < n then s.takeAccess ⟨c, a + room, .load (n - room), s.gtc⟩ else s
    | .store b =>
      let s := s.takeAccess ⟨c, a, .store (b.take room), s.gtc⟩
      if room < b.length then s.takeAccess ⟨c, a + room, .store (b.drop room), s.gtc⟩ else s
    | .atomic b =>
      let s := s.takeAccess ⟨c, a, .atomic (b.take room), s.gtc⟩
      if room < b.length then s.takeAccess ⟨c, a + room, .atomic (b.drop room), s.gtc⟩ else s

/-- Read a line from BUF: none where a word met the error indication (R299). -/
def State.fillLine (s : State) (l : Nat) : State × Option MLine :=
  let r := s.busRead 9 (dramBase + 128 * l) 128
  (r.st, if r.err then none else some ⟨l, false, r.bytes⟩)

/-- MAPC_FILL_COMPLETE (R296, R299). -/
def State.mapcFill (s : State) : State :=
  match s.mapc.miss with
  | none => s
  | some x =>
    let l := (x.addr - dramBase) / 128
    let set := lineSet l
    let s := { s with mapc := { s.mapc with miss := none } }
    let s := s.pmuH 0x34 (s.gtc - x.at_)
    let f := s.fillLine l
    let s := match f.2 with
      | some m =>
        let w := f.1.victim set
        (f.1.install set w m).serve x set w
      | none => (f.1.bump R.MAPC_CNT_FILLERR).irq (.app x.core) (.access x.addr)
    State.serveWaiting s.mapc.wait.length s

/-! ### Range operations (R300 to R303, R307, R308) -/

/-- The holder of the Map Cache grant (R365, R366), or the Control Core. -/
def State.mapcGrant (s : State) (i : Initiator) : Bool :=
  match i with
  | .cc => true
  | .app c => s.fld (R.MB_GRANT 30) 2 0 == c.val + 1
  | _ => false

/-- A write of MAPC_OP_CMD (R300, R302, R308). -/
def State.mapcCmd (s : State) (i : Initiator) (w : Nat) : State :=
  let op := bitsOf w 2 0
  let way := bitsOf w 6 4
  if s.bit R.MAPC_STATUS 1 ∨ s.bit R.MAPC_STATUS 2 then s.protocol 48 0
  else if op = 0 ∨ 5 < op then s.protocol 48 0
  else if op = 5 ∧ (6 ≤ way ∨ s.mapcGrant i = false) then s.protocol 48 0
  else
    let a := s.rd64 R.MAPC_OP_ADDR_LO R.MAPC_OP_ADDR_HI
    let s := (s.setBit R.MAPC_STATUS 2 true).setReg R.MAPC_OP_STATUS 1
    { s with mapc := { s.mapc with op := some ⟨op, a, s.rd R.MAPC_OP_LEN, way⟩ } }

/-- A line lies in the range of an operation. -/
def MapcOp.covers (o : MapcOp) (l : Nat) : Bool :=
  o.op == 4 || (o.addr ≤ dramBase + 128 * l && dramBase + 128 * l < o.addr + o.len)

/-- The range of CLEAN, INVAL or DISCARD is one R302 accepts. -/
def State.rangeOk (s : State) (o : MapcOp) : Bool :=
  o.op == 4 || (o.addr % 128 == 0 && o.len % 128 == 0 && o.len != 0 && dramBase ≤ o.addr && o.addr + o.len ≤ dramBase + s.usable)

/-- What an operation does to one line it covers: the state and what stays of the line. -/
def State.rangeLine (s : State) (o : MapcOp) (lockedWay : Bool) (m : MLine) : State × Option MLine :=
  match o.op with
  | 1 => (s.writeBackIf m, some { m with dirty := false })
  | 3 => (if lockedWay then s.writeBackIf m else s, none)
  | _ => (s.writeBackIf m, none)

/-- An operation over the lines of the sets. -/
def State.rangeSets (s : State) (o : MapcOp) : List (Nat × MLine) → State
  | [] => s
  | (k, m) :: r =>
    let s :=
      if o.covers m.line then
        let q := s.rangeLine o (s.locked (k % 8)) m
        q.1.setLine (k / 8) (k % 8) q.2
      else s
    State.rangeSets s o r

/-- An operation over the lines of Pocket. -/
def State.rangePocket (s : State) (o : MapcOp) : List MLine → State × List MLine
  | [] => (s, [])
  | m :: r =>
    if o.covers m.line then
      let q := s.rangeLine o false m
      let t := State.rangePocket q.1 o r
      (t.1, match q.2 with
        | some m => m :: t.2
        | none => t.2)
    else
      let t := State.rangePocket s o r
      (t.1, m :: t.2)

/-- PRELOAD of the lines from `l` on, `left` of them (R300); the flag says that a fill failed. -/
def State.preloadFrom (s : State) (way : Nat) : Nat → Nat → State × Bool
  | _, 0 => (s, false)
  | l, left + 1 =>
    let set := lineSet l
    let put (s : State) (m : MLine) : State := s.install set way m
    let r : State × Bool :=
      match s.wayOf l with
      | some w =>
        if w = way then (s, false)
        else match s.mline set w with
          | some m => (put (s.setLine set w none) m, false)
          | none => (s, false)
      | none =>
        match s.inPocket l with
        | some m => (put (s.fromPocket l) m, false)
        | none =>
          let f := s.fillLine l
          match f.2 with
          | some m => (put f.1 m, false)
          | none =>
            let old := f.1.mline set way
            let s := (f.1.setLine set way none).bump R.MAPC_CNT_FILLERR
            (match old with
              | some o => s.leaveSet o
              | none => s, true)
    let t := State.preloadFrom r.1 way (l + 1) left
    (t.1, r.2 || t.2)

/-- The range of a PRELOAD lies wholly inside one enabled window (R300; log 41: none while the cache is disabled). -/
def State.preloadOk (s : State) (o : MapcOp) : Bool :=
  s.bit R.MAPC_STATUS 0 && o.addr % 128 == 0 && o.len % 128 == 0 && 0 < o.len && o.len ≤ 262144
    && (List.range 4).any (fun k => s.inWin k o.addr && s.inWin k (o.addr + o.len - 1))

/-- MAPC_OP_DONE: the running operation works through its lines and reports (R302, R307). -/
def State.mapcOpDone (s : State) : State :=
  match s.mapc.op with
  | none => s
  | some o =>
    if s.mapc.miss.isSome then s
    else
      let before := s.rd R.MAPC_CNT_WB
      let r : State × Nat :=
        if o.op = 5 then
          if s.preloadOk o then
            let p := s.preloadFrom o.way ((o.addr - dramBase) / 128) (o.len / 128)
            (p.1.setBit R.MAPC_LOCK o.way true, if p.2 then 2 else 0)
          else (s, 1)
        else if s.rangeOk o then
          let s := s.rangeSets o s.mapc.lines
          let q := s.rangePocket o s.mapc.pocket
          ({ q.1 with mapc := { q.1.mapc with pocket := q.2 } }, 0)
        else (s, 1)
      let wb := satU 16 (r.1.rd R.MAPC_CNT_WB - before)
      let s := { r.1 with mapc := { r.1.mapc with op := none } }
      ((s.setBit R.MAPC_STATUS 2 false).setReg R.MAPC_OP_STATUS (2 * r.2 + 65536 * wb)).holeSync

/-! ### Locks and disable (R298, R301, R304, R308, R309) -/

/-- A write of MAPC_LOCK (R301, R308, R19). -/
def State.mapcLock (s : State) (i : Initiator) (w : Nat) : State :=
  if s.mapcGrant i = false then s.protocol 48 0
  else if (match s.mapc.op with | some o => o.op == 5 | none => false) then s.protocol 48 0
  else if s.mapc.disabling then { s with mapc := { s.mapc with lockAfter := some (w % 64) } }
  else (s.setReg R.MAPC_LOCK (w % 64)).holeSync

/-- A write of EN 0 (R304, R309). -/
def State.mapcDisable (s : State) : State :=
  let s := s.setBit R.MAPC_CTRL 0 false
  if s.bit R.MAPC_STATUS 0 ∧ s.mapc.disabling = false then
    { s.setBit R.MAPC_STATUS 1 true with mapc := { s.mapc with disabling := true } }
  else s

/-- A write of EN 1 (R304, R309). -/
def State.mapcEnable (s : State) : State :=
  let s := s.setBit R.MAPC_CTRL 0 true
  if s.mapc.disabling ∨ s.bit R.MAPC_STATUS 0 ∨ s.bit R.MAPC_STATUS 3 then s else s.setBit R.MAPC_STATUS 0 true

/-- DISABLE_BUSY follows the disable and the Pocket change. -/
def State.busySync (s : State) : State := s.setBit R.MAPC_STATUS 1 (s.mapc.disabling || s.mapc.pocketOff)

/-- MAPC_DISABLE_DONE (R304, R309): after a running range operation and a running fill. -/
def State.mapcDisableDone (s : State) : State :=
  if s.mapc.disabling = false ∨ s.mapc.op.isSome ∨ s.mapc.miss.isSome then s
  else
    let s := (s.mapc.lines.map (fun e => e.2) ++ s.mapc.pocket).foldl (fun s m => s.writeBackIf m) s
    let lock := s.mapc.lockAfter.getD 0
    let s := { s with mapc := { s.mapc with
      lines := []
      pocket := []
      plru := []
      disabling := false
      lockAfter := none } }
    let s := ((s.setReg R.MAPC_LOCK lock).setBit R.MAPC_STATUS 0 (s.bit R.MAPC_CTRL 0)).busySync
    State.serveWaiting s.mapc.wait.length s.holeSync

/-- A write of POCKET_EN from 1 to 0 (R298). -/
def State.pocketDisable (s : State) : State :=
  if s.bit R.MAPC_CTRL 1 then
    ({ s.setBit R.MAPC_CTRL 1 false with mapc := { s.mapc with pocketOff := true } }).busySync
  else s

/-- A write of POCKET_EN 1: at once, or once a Pocket change in progress has ended. -/
def State.pocketEnable (s : State) : State :=
  let s := s.setBit R.MAPC_CTRL 1 true
  if s.mapc.pocketOff then s else { s with mapc := { s.mapc with pocketOn := true } }

/-- POCKET_DISABLE_DONE (R298). -/
def State.pocketDisableDone (s : State) : State :=
  if s.mapc.pocketOff then
    let s := s.mapc.pocket.foldl (fun s m => s.writeBackIf m) s
    ({ s with mapc := { s.mapc with
      pocket := []
      pocketOff := false
      pocketOn := s.bit R.MAPC_CTRL 1 } }).busySync
  else s

/-- MAPC_LINE_INFO of the selected slot (R311; log 41: Pocket entry k is the k-th oldest line). -/
def State.lineInfo (s : State) : Nat :=
  let sel := s.rd R.MAPC_LINE_SEL
  let way := bitsOf sel 14 12
  let info (m : Option MLine) (locked : Bool) : Nat :=
    match m with
    | some m => 1 + 2 * b2n m.dirty + 8 * b2n locked + 16 * m.line
    | none => 4 * b2n locked + 8 * b2n locked
  if bitOf sel 16 then info s.mapc.pocket[bitsOf sel 10 0]? false
  else info (s.mline (bitsOf sel 10 0) way) (s.locked way)

/-! ### Commands -/

/-- Do something in the Map Cache while its domain is ON. -/
def State.ifMapc (s : State) (f : State → State) : State := if s.domOn 8 then f s else s

/-- MAPC_ACCESS (R296). -/
def execMapcAccess (t : Nat) (c : Fin 4) (addr : Nat) (op : CoreOp) (s : State) : Res := .next ((s.at t).mapcAccess c addr op)

/-- MAPC_FILL_COMPLETE (R299). -/
def execMapcFillComplete (t : Nat) (s : State) : Res := .next ((s.at t).ifMapc (fun s => s.mapcFill))

/-- CLEAN (R302). -/
def execClean (t : Nat) (i : Initiator) (s : State) : Res := .next ((s.at t).onReg i R.MAPC_OP_CMD (fun s => s.mapcCmd i 1))

/-- INVAL (R302). -/
def execInval (t : Nat) (i : Initiator) (s : State) : Res := .next ((s.at t).onReg i R.MAPC_OP_CMD (fun s => s.mapcCmd i 2))

/-- DISCARD (R302). -/
def execDiscard (t : Nat) (i : Initiator) (s : State) : Res := .next ((s.at t).onReg i R.MAPC_OP_CMD (fun s => s.mapcCmd i 3))

/-- FLUSH_ALL (R302). -/
def execFlushAll (t : Nat) (i : Initiator) (s : State) : Res := .next ((s.at t).onReg i R.MAPC_OP_CMD (fun s => s.mapcCmd i 4))

/-- PRELOAD (R300). -/
def execPreload (t : Nat) (i : Initiator) (way : BitVec 3) (s : State) : Res :=
  .next ((s.at t).onReg i R.MAPC_OP_CMD (fun s => s.mapcCmd i (5 + 16 * way.toNat)))

/-- MAPC_OP_DONE (R302). -/
def execMapcOpDone (t : Nat) (s : State) : Res := .next ((s.at t).ifMapc (fun s => s.mapcOpDone))

/-- MAPC_LOCK (R301). -/
def execMapcLock (t : Nat) (i : Initiator) (w : BitVec 32) (s : State) : Res :=
  .next ((s.at t).onReg i R.MAPC_LOCK (fun s => s.mapcLock i w.toNat))

/-- MAPC_DISABLE (R304). -/
def execMapcDisable (t : Nat) (i : Initiator) (s : State) : Res :=
  .next ((s.at t).onReg i R.MAPC_CTRL (fun s => s.mapcDisable))

/-- MAPC_DISABLE_DONE (R304). -/
def execMapcDisableDone (t : Nat) (s : State) : Res := .next ((s.at t).ifMapc (fun s => s.mapcDisableDone))

/-- MAPC_ENABLE (R304). -/
def execMapcEnable (t : Nat) (i : Initiator) (s : State) : Res :=
  .next ((s.at t).onReg i R.MAPC_CTRL (fun s => s.mapcEnable))

/-- POCKET_DISABLE (R298). -/
def execPocketDisable (t : Nat) (i : Initiator) (s : State) : Res :=
  .next ((s.at t).onReg i R.MAPC_CTRL (fun s => s.pocketDisable))

/-- POCKET_DISABLE_DONE (R298). -/
def execPocketDisableDone (t : Nat) (s : State) : Res := .next ((s.at t).ifMapc (fun s => s.pocketDisableDone))

end Sys2Proof.Machine
end

