-- ==== Sys2Proof/Machine/Spindle.lean ====
section
/-! DEFINITION. The spindle: sampling and duties (R188 to R194), encoder, Master Angle and speed (R195 to R198), the states
(R199 to R204), VBUS and the chopper (R205, R206), its part of power loss (R207, R208), and their commands. -/

namespace Sys2Proof.Machine

open Sys2Proof

/-! ### States (R199) -/

def spOFF : Nat := 0
def spASSESS : Nat := 1
def spALIGN : Nat := 2
def spSPEED : Nat := 3
def spRUN : Nat := 4
def spDECEL : Nat := 5
def spZVBRAKE : Nat := 6
def spGEN : Nat := 7
def spFAULT : Nat := 8

/-- STATE of SPIN. -/
def State.spin_ (s : State) : Nat := s.fld R.SP_STATUS 3 0

/-- REGEN_INH (R206). -/
def State.regenInh (s : State) : Bool := s.bit R.SP_STATUS 10

/-- The state after STOP from SPEED or RUN, and of safe-state braking (R201, R399). -/
def State.brakeState (s : State) : Nat := if s.regenInh then spZVBRAKE else spDECEL

/-- SPIN enters a state. -/
def State.spinGo (s : State) (st : Nat) : State :=
  let s := s.setFld R.SP_STATUS 3 0 st
  let s := if st = spSPEED ∨ st = spRUN then s else s.setBit R.SP_STATUS 4 false
  { s with spin := { s.spin with
      since := s.gtc, catching := false, zvAlign := false, genCoast := false, ocRun := 0,
      probes := 0, moved := 0, assessEdge := false,
      lockRun := if st = spRUN then s.spin.lockRun else 0 } }

/-- SPIN enters FAULT: from SPEED, RUN, DECEL or ZVBRAKE with a section unparked, MAON takes it as its own safe-state
decision (R203). `enc`: the cause is ENCODER. -/
def State.spinFault (s : State) (enc : Bool) : State :=
  let old := s.spin_
  let s := ((s.spinGo spFAULT).setBit R.SP_STATUS 11 enc).sendPeer .peerSafe
  if 3 ≤ old ∧ old ≤ 6 ∧ s.allParked = false then s.maonDecide 512 2 else s

/-- FAULT with ENCODER (R197). -/
def State.encoderFault (s : State) : State := (s.sendFault 528 kENCODER 0).spinFault true

/-! ### Encoder, Master Angle, speed (R195 to R198) -/

/-- Net counts of a list of edges. -/
def netCounts : List (Nat × Bool) → Int
  | [] => 0
  | (_, f) :: r => (if f then 1 else -1) + netCounts r

/-- The averaging window, newest edge first: the last 4 × L counts or 10 ms, whichever is shorter, and never fewer than the last
two edges (R195; log 26). -/
def speedWindow (lines : Nat) : List (Nat × Bool) → List (Nat × Bool)
  | [] => []
  | e :: r =>
    match (r.filter (fun x => e.1 ≤ x.1 + 10000000)).take (4 * lines) with
    | [] => e :: r.take 1
    | w => e :: w

/-- SP_SPEED from the encoder edges (R195; log 26). -/
def speedWord (lines : Nat) (edges : List (Nat × Bool)) : Nat :=
  let w := speedWindow lines edges
  match w, w.getLast? with
  | (t1, _) :: _ :: _, some (t0, _) =>
    let net := netCounts w.dropLast
    let q := satU 16 (net.natAbs * 240000000000 / (4 * lines * max 1 (t1 - t0)))
    q + 65536 * b2n (decide (net < 0)) + 131072
  | _, _ => 0

/-- Measured speed in 0.25 rpm, 0 without one. -/
def State.speedQ (s : State) : Nat := s.fld R.SP_SPEED 15 0

/-- Turning forward at `rpm` or faster. -/
def State.forwardAt (s : State) (rpm : Nat) : Bool :=
  s.bit R.SP_SPEED 17 && !s.bit R.SP_SPEED 16 && decide (4 * rpm ≤ s.speedQ)

/-- The changes of state that the speed and the index bring (R199 to R201, R207). -/
def State.spinJudge (s : State) : State :=
  let st := s.spin_
  if st = spDECEL ∧ s.speedQ < 120 then s.spinGo spZVBRAKE
  else if st = spZVBRAKE ∧ s.spin.zvAlign ∧ s.speedQ < 120 then s.spinGo spALIGN
  else if st = spASSESS ∧ s.spin.catching then
    if s.speedQ < 120 then s.spinGo spALIGN else if s.bit R.SP_STATUS 5 then s.spinGo spSPEED else s
  else if st = spGEN ∧ s.forwardAt (bitsOf s.maon.plCfg.toNat 27 16) = false then s.spinGo spZVBRAKE
  else s

/-- The angle of every ATB in MASTER follows the Master Angle (R50, R51). -/
def State.masterMoved (s : State) : State :=
  s.forSecs (fun n s =>
    if s.atbState n = stMASTER ∧ s.domOn (16 + n) then
      s.setExt n ((s.ext n : Int) + shortWay (((s.master + s.headOfs n (s.head n)) % REV_COUNTS : Nat) - (s.angle n : Int)))
    else s)

/-- Measure the speed anew and let every powered ATB and the state follow. -/
def State.spinMeasure (s : State) : State :=
  let s := s.setReg R.SP_SPEED (speedWord (s.fld R.SP_ENC 12 0) s.spin.edges)
  (s.forSecs (fun n s => if s.domOn (16 + n) then s.refreshPeriod n else s)).spinJudge

/-- ENC_A and ENC_B stand at new levels: an edge counts ×4; a change of both is counted in SP_CNT_ENC and otherwise ignored
(R195, R197). With INV 0, A leading B is forward (log 28). -/
def State.encoderEdge (s : State) (a b : Bool) : State :=
  let x := s.spin
  if a = x.qa ∧ b = x.qb then s
  else if a ≠ x.qa ∧ b ≠ x.qb then { s.countM R.SP_CNT_ENC 0x206 with spin := { x with qa := a, qb := b } }
  else
    let leads := if a = x.qa then a == b else a != b
    let fwd := leads != s.bit R.SP_ENC 13
    let step := s.encStep
    let base := s.fld R.SP_MANGLE 24 0
    let s := s.setFld R.SP_MANGLE 24 0 (if fwd then (base + step) % REV_COUNTS else (base + REV_COUNTS - step) % REV_COUNTS)
    let lines := s.fld R.SP_ENC 12 0
    let es := speedWindow lines ((s.gtc, fwd) :: x.edges)
    let s := { s with spin := { x with
      qa := a
      qb := b
      edges := es
      edgeAt := s.gtc
      assessEdge := x.assessEdge || s.spin_ == spASSESS
      count := x.count + (if fwd then 1 else -1) } }
    s.masterMoved.spinMeasure

/-- LOCKED at the end of a revolution (R199). -/
def State.lockRev (s : State) : State :=
  if s.spin_ ≠ spSPEED ∧ s.spin_ ≠ spRUN then s
  else
    let q : Int := s.speedQ
    let tgt : Int := 4 * s.fld R.SP_TGT 13 0
    let inBand := s.bit R.SP_SPEED 17 && !s.bit R.SP_SPEED 16 && decide ((q - tgt).natAbs ≤ s.fld R.SP_LOCK 7 0)
    let run := if inBand then min 16 (s.spin.lockRun + 1) else 0
    let s := { s with spin := { s.spin with lockRun := run } }
    if inBand = false then s.setBit R.SP_STATUS 4 false
    else if run = 16 then
      let s := s.setBit R.SP_STATUS 4 true
      if s.spin_ = spSPEED then s.spinGo spRUN else s
    else s

/-- ENC_IDX rises: the Master Angle takes SP_IDX_OFS, ABS is set, the revolution's count is checked (R195, R197). -/
def State.encIndex (s : State) : State :=
  let x := s.spin
  let l4 : Int := 4 * s.fld R.SP_ENC 12 0
  let bad := x.idx && decide (2 < ((x.count.natAbs : Int) - l4).natAbs)
  let s := (s.setFld R.SP_MANGLE 24 0 (s.fld R.SP_IDX_OFS 24 0)).setBit R.SP_STATUS 5 true
  let s := { s with spin := { x with idx := true, count := 0, badRev := bad, preset := none } }
  let s := if bad then s.countM R.SP_CNT_ENC 0x206 else s
  let s := s.masterMoved
  if bad ∧ x.badRev ∧ s.spin_ ≠ spFAULT ∧ s.ownsSpin then s.encoderFault
  else (if x.idx then s.lockRev else s).spinJudge

/-- No encoder edge for SP_ENC.TMO: no speed is measured any longer (R197, R201; log 26). -/
def State.encTimeout (s : State) : State :=
  if s.gtc < max s.spin.edgeAt s.spin.since + 1000000 * s.fld R.SP_ENC 31 16 then s
  else
    let st := s.spin_
    let s := if st = spSPEED ∨ st = spRUN ∨ st = spDECEL then s.encoderFault
      else if st = spZVBRAKE then (if s.spin.zvAlign then s.spinGo spALIGN else s.spinGo spOFF)
      else s
    { s with spin := { s.spin with edges := [] } }.spinMeasure

/-- Electrical angle in 1/65,536 turn (R196). -/
def State.thetaE (s : State) : Nat :=
  let pp := s.fld R.SP_MOTOR 3 0
  match s.spin.preset with
  | some m => ((s.master + REV_COUNTS - m) % REV_COUNTS) * pp / 384 % 65536
  | none => (s.master * pp / 384 + s.fld R.SP_MOTOR 31 16) % 65536

/-! ### VBUS (R205, R206, R208) -/

/-- SPIN judges VBUS in mV. -/
def State.vbusJudge (s : State) (mv : Nat) : State :=
  let mv := min mv 24000
  let s := s.setFld R.SP_VBUS 15 0 mv
  let chop :=
    if s.bit R.SP_CHOP_CFG 8 = false ∨ s.regenInh then false
    else if s.fld R.SP_VBUS_TH0 15 0 < mv then true
    else if mv < s.fld R.SP_VBUS_TH0 31 16 then false else s.spin.chop
  let tooBig := decide (s.fld R.SP_VBUS_TH1 15 0 < mv)
  let new := tooBig && !s.spin.ov
  let s := { s with spin := { s.spin with chop := chop, ov := tooBig } }
  if new then
    let s := s.sendFault 528 kVBUSOV 0
    if s.spin_ = spGEN then { s with spin := { s.spin with genCoast := true } }
    else if s.spin_ = spFAULT ∨ s.ownsSpin = false then s
    else s.spinFault false
  else s

/-- The chopper has failed (R206). -/
def State.chopperFault (s : State) : State :=
  if s.bit R.SP_STATUS 9 then s
  else
    let s := (s.setBit R.SP_STATUS 9 true).setBit R.SP_STATUS 10 true
    let s := { s with spin := { s.spin with chop := false } }.sendFault 528 kCHOPPER 0
    if s.spin_ = spDECEL then s.spinGo spZVBRAKE else s

/-! ### The control cycle (R189 to R194, R204) -/

/-- A shunt code in mA (R186), the code being 12 bits signed. -/
def State.shuntMa (s : State) (code : Int) : Int := divT (satS 12 code * 9766) (s.fld R.SP_SHUNT 15 0)

/-- Twice the time a duty leaves its low gate on in a symmetric period, against twice what sampling needs, in ns × 65,536. -/
def State.duty2 (s : State) (d : Nat) : Nat := (65536 - d) * s.fld R.SP_PWM 15 0

/-- TSMP + 2 × DEAD in ns. -/
def State.needNs (s : State) : Nat := 100 * s.fld R.SP_PWM 31 24 + 20 * s.fld R.SP_PWM 23 16

/-- A phase passes the symmetric test (R189). -/
def State.symOk (s : State) (d : Nat) : Bool := decide (65536 * s.needNs ≤ s.duty2 d)

/-- A phase is valid in shift mode (R190). -/
def State.shiftOk (s : State) (d : Nat) : Bool := decide (65536 * s.needNs ≤ 2 * s.duty2 d)

/-- The phase currents of a valley from the valid samples: three corrected, or the third reconstructed (R191). The state has
the counts. -/
def State.phaseCurrents (s : State) (iu iv iw : Int) (vu vv vw : Bool) : State × Int × Int × Int :=
  if vu && vv && vw then
    let sum := iu + iv + iw
    let c := divT sum 3
    let s := s.setBit R.SP_STATUS 7 false
    (if 200 < sum.natAbs then s.bump R.SP_CNT_ISUM else s, iu - c, iv - c, iw - c)
  else
    let s := (s.setBit R.SP_STATUS 7 true).countM R.SP_CNT_RECON 0x202
    if !vu then (s, -(iv + iw), iv, iw) else if !vv then (s, iu, -(iu + iw), iw) else (s, iu, iv, -(iu + iv))

/-- A duty scaled toward one half by num/den. -/
def scaleDuty (d : Nat) (num den : Int) : Nat := (32768 + divT (((d : Int) - 32768) * num) den).toNat

/-- The duties of the next period: the voltage vector that FOC asks for is a free value (log 15), to which R190 applies the
centring, the voltage clamp and the choice of shift mode. -/
def State.nextDuties (s : State) : State :=
  let r (k : Nat) : Int := (Config.freeWord (s.free + k)).toNat % 65536
  let (u, v, w) := (r 0, r 1, r 2)
  let mx := max u (max v w)
  let mn := min u (min v w)
  let d (x : Int) : Nat := (32768 + x - (mx + mn) / 2).toNat
  let mid := d (u + v + w - mx - mn)
  let t := s.fld R.SP_PWM 15 0
  let dlim := 65536 - 65536 * s.needNs / (2 * t)
  let clamp := decide (dlim < mid)
  let f (x : Int) : Nat := if clamp then scaleDuty (d x) ((dlim : Int) - 32768) ((mid : Int) - 32768) else d x
  let (du, dv, dw) := (f u, f v, f w)
  let ok := b2n (s.symOk du) + b2n (s.symOk dv) + b2n (s.symOk dw)
  let s := (s.setBit R.SP_STATUS 8 clamp).setBit R.SP_STATUS 6 (decide (ok < 2))
  let s := if clamp then s.countM R.SP_CNT_VLIM 0x203 else s
  { s.useFree.useFree.useFree with spin := { s.spin with du := du, dv := dv, dw := dw } }

/-- The bridge runs FOC, or the current vector of ALIGN (R199). -/
def State.focState (s : State) : Bool :=
  let st := s.spin_
  st == spALIGN || st == spSPEED || st == spRUN || st == spDECEL || (st == spGEN && !s.spin.genCoast)

/-- One control cycle at a sampling valley, or of a pair in shift mode (R192). `cu`, `cv`, `cw`: shunt codes; `vbus` in mV. -/
def State.controlCycle (s : State) (cu cv cw : Int) (vbus : Nat) : State :=
  let foc := s.focState
  let zv := s.spin_ == spZVBRAKE
  let shift := s.bit R.SP_STATUS 6
  let x := s.spin
  let ok (d : Nat) : Bool := zv || (if shift then s.shiftOk d else s.symOk d)
  let (s, iu, iv, iw) :=
    if foc || zv then s.phaseCurrents (s.shuntMa cu) (s.shuntMa cv) (s.shuntMa cw) (ok x.du) (ok x.dv) (ok x.dw)
    else (s, 0, 0, 0)
  let s := if shift then (s.pmuM 0x200).pmuM 0x200 else s.pmuM 0x200
  let st := s.spin_
  let isup : Int := if foc ∧ st ≠ spGEN ∧ st ≠ spDECEL
    then divT ((x.du : Int) * iu + (x.dv : Int) * iv + (x.dw : Int) * iw) 65536 else 0
  let ma := satU 16 isup.toNat
  let s := (s.setFld R.SP_VBUS 31 16 ma).setReg R.LE_ISPIN_MEAS ma
  let big := max iu.natAbs (max iv.natAbs iw.natAbs)
  let s := if zv ∧ s.fld R.SP_ZV 15 0 < big then s.countM R.SP_CNT_ZVSKIP 0x204 else s
  let s := if foc ∧ shift then s.countM R.SP_CNT_SHIFT 0x201 else s
  let tooBig := (foc || zv) && decide (s.fld R.SP_OC 15 0 < big)
  let run := if tooBig then x.ocRun + 1 else 0
  let s := { s with spin := { s.spin with ocRun := min run 3 } }
  let s := if tooBig then s.countM R.SP_CNT_OC 0x205 else s
  let s := if tooBig ∧ run = 1 then s.sendFault 528 kOVERCURRENT 0 else s
  let s := if tooBig ∧ 3 ≤ run then s.spinFault false else s
  let s := s.vbusJudge vbus
  let s := if s.spin.genCoast ∧ min vbus 24000 < bitsOf s.maon.plCfg.toNat 15 0
    then { s with spin := { s.spin with genCoast := false } } else s
  let s := if s.focState then { (s.setReg R.SP_IDQ (Config.freeWord s.free).toNat) with free := s.free + 1 }.nextDuties else s
  s.spinMeasure

/-! ### Commands of SP_CMD and SP_CTRL (R200 to R202) -/

/-- OP of SP_CMD: 1 START, 2 STOP, 3 COAST; anything else, and any command in FAULT or GEN, is discarded with PROTOCOL (R202).
START is discarded while the spindle is not owned (R472) and while PL stands (R207). -/
def State.spinCmd (s : State) (op : Nat) : State :=
  let st := s.spin_
  if st = spFAULT ∨ st = spGEN ∨ op = 0 ∨ 3 < op then s.protocol 528 0
  else if op = 1 then
    if s.ownsSpin = false ∨ s.maon.powerLossAt.isSome ∨ st = spASSESS ∨ st = spALIGN then s else s.spinGo spASSESS
  else if op = 2 then
    if st = spSPEED ∨ st = spRUN then s.spinGo s.brakeState
    else if st = spASSESS ∨ st = spALIGN then s.spinGo spOFF else s
  else s.spinGo spOFF

/-- CHOP_CLR while SP_CHOP_FB stands at `fb` (R206). -/
def State.chopClear (s : State) (fb : Bool) : State :=
  if fb = s.spin.chop then (s.setBit R.SP_STATUS 9 false).setBit R.SP_STATUS 10 false else s

/-- PL_DONE (R207). -/
def State.plDone (s : State) : State := if s.spin_ = spGEN ∧ s.allParked then s.spinGo spZVBRAKE else s

/-- FAULT_CLR: FAULT to OFF, and PL clears (R199, R210). -/
def State.faultClear (s : State) : State :=
  let s := { s with maon := { s.maon with powerLossAt := none }, sump := { s.sump with alertLine := s.maon.safe } }
  if s.spin_ = spFAULT then s.spinGo spOFF else s

/-- A write of SP_TGT: LOCKED clears, the disk-angle source may be taken again (R16, R198, R199). -/
def State.writeTgt (s : State) (w : Nat) : State :=
  let rpm := bitsOf w 13 0
  let bad := rpm < 3600 ∨ 10000 < rpm
  let s := if bad then s.protocol 528 0 else s.setFld R.SP_TGT 13 0 rpm
  let s := ((s.setFld R.SP_TGT 16 16 (bitsOf w 16 16)).setFld R.SP_TGT 18 17 (bitsOf w 18 17)).setBit R.SP_STATUS 4 false
  { s with spin := { s.spin with lockRun := 0, srcLost := false, synced := false, syncBad := 0 } }

/-- Step 3 of R207: SPIN enters GEN or ZVBRAKE. -/
def State.spinPowerLoss (s : State) : State :=
  let st := s.spin_
  let fast := s.forwardAt (bitsOf s.maon.plCfg.toNat 27 16)
  if s.domOn 15 = false ∨ st = spOFF ∨ st = spFAULT ∨ st = spZVBRAKE ∨ st = spGEN then s
  else if fast ∧ (st = spSPEED ∨ st = spRUN ∨ st = spDECEL ∨ (st = spASSESS ∧ s.bit R.SP_STATUS 5)) then s.spinGo spGEN
  else s.spinGo spZVBRAKE

/-- Something SPIN does while its domain is ON. -/
def State.ifSpin (s : State) (f : State → State) : State := if s.domOn 15 then f s else s

/-! ### The commands -/

/-- SPIN_CONTROL_CYCLE (R192). -/
def execSpinControlCycle (t : Nat) (cu cv cw : Int) (vbus : Nat) (s : State) : Res :=
  .next ((s.at t).ifSpin (fun s => s.controlCycle cu cv cw vbus))

/-- ENCODER_EDGE (R195). -/
def execEncoderEdge (t : Nat) (a b : Bool) (s : State) : Res :=
  .next ((s.at t).ifSpin (fun s => s.encoderEdge a b))

/-- ENC_IDX (R195). -/
def execEncIdx (t : Nat) (s : State) : Res :=
  .next ((s.at t).ifSpin (fun s => s.encIndex))

/-- ENCODER_TIMEOUT (R197). -/
def execEncoderTimeout (t : Nat) (s : State) : Res :=
  .next ((s.at t).ifSpin (fun s => s.encTimeout))

/-- START (R200). -/
def execStart (t : Nat) (i : Initiator) (s : State) : Res :=
  .next ((s.at t).onWrite i R.SP_CMD .cc (fun s => s.spinCmd 1))

/-- STOP (R201). -/
def execStop (t : Nat) (i : Initiator) (s : State) : Res :=
  .next ((s.at t).onWrite i R.SP_CMD .cc (fun s => s.spinCmd 2))

/-- COAST (R201). -/
def execCoast (t : Nat) (i : Initiator) (s : State) : Res :=
  .next ((s.at t).onWrite i R.SP_CMD .cc (fun s => s.spinCmd 3))

/-- ASSESS_PROBE: one of the ten probes of ASSESS (R200). -/
def execAssessProbe (t : Nat) (cu cv cw : Int) (s : State) : Res :=
  .next ((s.at t).ifSpin (fun s =>
    if s.spin_ = spASSESS ∧ s.spin.catching = false ∧ s.spin.probes < 10 then
      let thr := s.fld R.SP_OC 31 16
      let m := decide (thr < (s.shuntMa cu).natAbs ∨ thr < (s.shuntMa cv).natAbs ∨ thr < (s.shuntMa cw).natAbs)
      { s with spin := { s.spin with probes := s.spin.probes + 1, moved := s.spin.moved + b2n m } }
    else s))

/-- ASSESS_END (R200). Below 30 rpm with edges, motion in the probes leads to ALIGN as well (log 28). -/
def execAssessEnd (t : Nat) (s : State) : Res :=
  .next ((s.at t).ifSpin (fun s =>
    if s.spin_ = spASSESS ∧ s.spin.catching = false ∧ s.spin.since + 10000000 ≤ s.gtc then
      let turning := s.spin.assessEdge
      if turning ∧ s.forwardAt 30 then
        if s.bit R.SP_STATUS 5 then s.spinGo spSPEED else { s with spin := { s.spin with catching := true } }
      else if turning ∧ s.bit R.SP_SPEED 17 ∧ s.bit R.SP_SPEED 16 ∧ 120 ≤ s.speedQ then
        let s := s.spinGo spZVBRAKE
        { s with spin := { s.spin with zvAlign := true } }
      else if turning = false ∧ 3 ≤ s.spin.moved then s.encoderFault
      else s.spinGo spALIGN
    else s))

/-- ALIGN_END: ALIGN_T has passed; θe is preset to 0 and SPIN enters SPEED (R196, R199). -/
def execAlignEnd (t : Nat) (s : State) : Res :=
  .next ((s.at t).ifSpin (fun s =>
    if s.spin_ = spALIGN ∧ s.spin.since + 1000000 * s.fld R.SP_ALIGN 31 16 ≤ s.gtc then
      let s := { s with spin := { s.spin with preset := if s.bit R.SP_STATUS 5 then none else some s.master } }
      s.spinGo spSPEED
    else s))

/-- SP_TGT_WRITE (R198). -/
def execSpTgtWrite (t : Nat) (i : Initiator) (w : BitVec 32) (s : State) : Res :=
  .next ((s.at t).onWrite i R.SP_TGT .cc (fun s => s.writeTgt w.toNat))

/-- VBUS_THRESHOLD (R205). -/
def execVbusThreshold (t : Nat) (vbus : Nat) (s : State) : Res :=
  .next ((s.at t).ifSpin (fun s => s.vbusJudge vbus))

/-- CHOPPER_FAULT (R206). -/
def execChopperFault (t : Nat) (s : State) : Res :=
  .next ((s.at t).ifSpin (fun s => s.chopperFault))

/-- CHOP_CLR (R206). -/
def execChopClr (t : Nat) (i : Initiator) (fb : Bool) (s : State) : Res :=
  .next ((s.at t).onWrite i R.SP_CTRL .cc (fun s => s.chopClear fb))

/-- PL_DONE (R207). -/
def execPlDone (t : Nat) (i : Initiator) (s : State) : Res :=
  .next ((s.at t).onWrite i R.SP_CTRL .cc (fun s => s.plDone))

/-- FAULT_CLR (R199). -/
def execFaultClr (t : Nat) (i : Initiator) (s : State) : Res :=
  .next ((s.at t).onWrite i R.SP_CTRL .cc (fun s => s.faultClear))

/-- PL_TMAX_EXPIRY: GEN ends at PL_TMAX after the power-loss decision (R207). -/
def execPlTmaxExpiry (t : Nat) (s : State) : Res :=
  .next ((s.at t).ifSpin (fun s =>
    match s.maon.powerLossAt with
    | some t0 => if s.spin_ = spGEN ∧ t0 + 250000000 * bitsOf s.maon.plCfg.toNat 31 28 ≤ s.gtc then s.spinGo spZVBRAKE else s
    | none => s))

end Sys2Proof.Machine
end

