-- ==== Sys2Proof/Machine/Events.lean ====
section
/-! DEFINITION. Angle events that fall due (R56, R59, R60, R66 to R68, R539): what each type does at its angle. -/

namespace Sys2Proof.Machine

open Sys2Proof

/-- Index of a head. -/
def headIdx (h : Nat) : Fin 8 := ⟨h % 8, Nat.mod_lt _ (by decide)⟩

/-- The data clock follows the zone of the selected head's table in force that covers track `trk` (R82, R99). -/
def State.clockZone (s : State) (n : Fin 4) (trk : Nat) : State :=
  let z := ((s.sec n).zone[headIdx (s.head n)]).bind (fun z => z.zoneOf trk)
  s.onChan n (fun c => { c with zoneN := match z with
    | some e => e.n
    | none => 0 })

/-- A new zone table of head `h` takes effect (R99). -/
def State.adoptZone (s : State) (n : Fin 4) (h : Nat) : State :=
  let x := s.sec n
  s.setSec n { x with zone := x.zone.set (headIdx h) x.zoneNew[headIdx h] }

/-- The target track of section n. -/
def State.tgtTrack (s : State) (n : Fin 4) : Nat := s.rd64 (R.PG_TGT_LO n) (R.PG_TGT_HI n) / 65536

/-- A track change that crosses a zone boundary adopts the new table (R99). -/
def State.trackChange (s : State) (n : Fin 4) (old new : Nat) : State :=
  match (s.sec n).zone[headIdx (s.head n)] with
  | some z =>
    if (z.zoneOf old).map (fun e => e.first) = (z.zoneOf new).map (fun e => e.first) then s
    else (s.adoptZone n (s.head n)).clockZone n new
  | none => (s.adoptZone n (s.head n)).clockZone n new

/-- The entry at the front of the merged lists of section n falls due, if it has the given type: the angle has reached it, it
leaves its list, and `f` gives the state after its action, its status and the angle of its record (R59, R61). -/
def State.fire (s : State) (n : Fin 4) (typ : Nat) (f : Event → State → State × Nat × Nat) : State :=
  match s.nextEvent n with
  | none => s
  | some e =>
    if e.typ ≠ typ ∨ s.domOn (16 + n) = false then s
    else
      let d := s.evDist n e
      let hold := s.atbState n == stHOLDOVER
      let s := if 0 < d then s.setExt n ((s.ext n : Int) + d) else s
      let (s, st, ang) := f e (s.dropEvent n e)
      s.complete n e hold st ang

/-- An action that always fires. -/
def fires (f : Event → State → State) (e : Event) (s : State) : State × Nat × Nat := (f e s, csDONE, e.raw)

/-- An event that does not fire. -/
def stopped (st : Nat) (e : Event) (s : State) : State × Nat × Nat := (s, st, e.raw)

/-- The gate class of a SID: that of the RD_ON or WR_ON with the SID that last fell due (R539). -/
def State.sidIsWrite (s : State) (n : Fin 4) (sid : Nat) : Bool :=
  match (s.sec n).atb.sidClass.find? (fun p => p.1 == sid) with
  | some p => p.2
  | none => false

/-- Note that an RD_ON or WR_ON with a SID has fallen due (R539). -/
def State.noteSid (s : State) (n : Fin 4) (sid : Nat) (wr : Bool) : State :=
  s.onAtb n (fun a => { a with sidClass := (sid, wr) :: a.sidClass.filter (fun p => p.1 ≠ sid) })

/-- RD_ON (R60, R68, R112). -/
def actRdOn (n : Fin 4) (e : Event) (s : State) : State × Nat × Nat :=
  let s := s.noteSid n e.sid false
  if s.atbState n ≠ stLEDGE then stopped csHELD e s
  else if (s.sec n).chan.recMedia ∨ (s.sec n).chan.wg then stopped csCONFLICT e s
  else (s.openRead n e, csDONE, e.raw)

/-- WR_ON (R60, R67, R111, R117, R121). -/
def actWrOn (n : Fin 4) (e : Event) (s : State) : State × Nat × Nat :=
  let s := (s.noteSid n e.sid true).onChan n (fun c => { c with cut := none })
  if s.inhibited n then stopped csINHIBITED e s
  else if (s.sec n).chan.recMedia ∨ (s.sec n).chan.rd.isSome then stopped csCONFLICT e s
  else
    let r := s.openWrite n e
    (r.1, r.2, e.raw)

/-- WR_OFF: a write cut short by write inhibit completes INHIBITED at the angle of the cut (R67, R112). -/
def actWrOff (n : Fin 4) (e : Event) (s : State) : State × Nat × Nat :=
  match (s.sec n).chan.cut with
  | some a => (s.onChan n (fun c => { c with cut := none }), csINHIBITED, a)
  | none => (if (s.sec n).chan.wg then s.cutWrite n else s, csDONE, e.raw)

/-- FMARK of either class (R60, R67, R68, R110, R539). -/
def actFmark (n : Fin 4) (e : Event) (s : State) : State × Nat × Nat :=
  if s.sidIsWrite n e.sid then
    if s.inhibited n then stopped csINHIBITED e s
    else if (s.sec n).chan.recMedia then stopped csCONFLICT e s
    else (s.fmarkWrite n e, csDONE, e.raw)
  else if s.atbState n ≠ stLEDGE then stopped csHELD e s
  else if (s.sec n).chan.recMedia then stopped csCONFLICT e s
  else (s.fmarkRead n e, csDONE, e.raw)

/-- ASSIST: a non-zero code is a write event (R120). -/
def actAssist (n : Fin 4) (e : Event) (s : State) : State × Nat × Nat :=
  let code := e.p0 % 256
  if code ≠ 0 ∧ s.inhibited n then stopped csINHIBITED e s
  else (s.onChan n (fun c => { c with assist := code }), csDONE, e.raw)

/-- HEAD_SW: the head changes, the angle steps, lock is given up, the head-select frame starts, REBASE sets (R52, R99, R103,
R167, R176, R180). -/
def actHeadSw (n : Fin 4) (e : Event) (s : State) : State :=
  let h := e.p0 % 8
  let old := s.headOfs n (s.head n)
  let st := s.atbState n
  let s := s.setFld (R.ATB_STATUS n) 10 8 h
  let s := s.stepAngle n (shortWay ((s.headOfs n h : Int) - old))
  let s := if st = stLEDGE ∨ st = stHOLDOVER then (s.setAtbState n stWEDGE).assertWinh n else s
  let s := ((s.setBit (R.ACT_STATUS n) 11 true).onLoop n (fun l => { l with burstNew := false })).onChan n
    (fun c => { c with afeCopy := none })
  ((s.adoptZone n h).clockZone n (s.tgtTrack n)).preHeadSelect n h

/-- SETPOINT: it waits for the first sample instant; one with a reserved value is not applied (R162). -/
def actSetpoint (n : Fin 4) (e : Event) (s : State) : State :=
  if e.p0 / 2 ^ 24 ≠ 0 ∨ e.p1 / 2 ^ 18 ≠ 0 then s.sendFault (srcLoop n) kPROTOCOL (angleAddr e.raw e.tag)
  else
    (s.trackChange n (s.tgtTrack n) (e.p0 % 2 ^ 24)).onAct n
      (fun a => { a with pendSet := some (e.w2, e.w3, angleAddr e.raw e.tag) })

/-- LOOP_MODE: it waits for the first sample instant; one with a reserved value is not applied (R149). -/
def actLoopMode (n : Fin 4) (e : Event) (s : State) : State :=
  if e.p0 % 4 = 3 ∨ e.p0 / 64 ≠ 0 then s.sendFault (srcLoop n) kPROTOCOL (angleAddr e.raw e.tag)
  else s.onLoop n (fun l => { l with pend := some (e.w2, e.w3) })

/-- MICROJOG: it waits for the first sample instant; one with a reserved value is discarded (R170). -/
def actMicrojog (n : Fin 4) (e : Event) (s : State) : State :=
  if e.p0 / 65536 ≠ 0 ∨ e.p1 ≠ 0 then s.sendFault (srcLoop n) kPROTOCOL (angleAddr e.raw e.tag)
  else s.onAct n (fun a => { a with pendMj := some e.w2 })

/-! ### The commands -/

/-- MARKER (R56). -/
def execMarker (t : Nat) (n : Fin 4) (s : State) : Res :=
  .next ((s.at t).fire n tyMARKER (fires (fun _ s => s)))

/-- RD_ON (R112). -/
def execRdOn (t : Nat) (n : Fin 4) (s : State) : Res :=
  .next ((s.at t).fire n tyRDON (actRdOn n))

/-- RD_OFF: closes the read gate; before the end pad it cuts the fragment (R112). -/
def execRdOff (t : Nat) (n : Fin 4) (s : State) : Res :=
  .next ((s.at t).fire n tyRDOFF (fires (fun _ s => s.cutRead n)))

/-- WR_ON (R121). -/
def execWrOn (t : Nat) (n : Fin 4) (s : State) : Res :=
  .next ((s.at t).fire n tyWRON (actWrOn n))

/-- WR_OFF (R112). -/
def execWrOff (t : Nat) (n : Fin 4) (s : State) : Res :=
  .next ((s.at t).fire n tyWROFF (actWrOff n))

/-- FMARK (R110). -/
def execFmark (t : Nat) (n : Fin 4) (s : State) : Res :=
  .next ((s.at t).fire n tyFMARK (actFmark n))

/-- SERVO_WIN: opens the wedge detector window for P0[17:0] counts (R80). -/
def execServoWin (t : Nat) (n : Fin 4) (s : State) : Res :=
  .next ((s.at t).fire n tySERVOWIN
    (fires (fun e s => s.onAtb n (fun a => { a with win := some (e.raw, e.p0 % 2 ^ 18) }))))

/-- ASSIST (R120). -/
def execAssist (t : Nat) (n : Fin 4) (s : State) : Res :=
  .next ((s.at t).fire n tyASSIST (actAssist n))

/-- SNAPSHOT: fires a Flowstone trigger with the angle and the GTC copy latched (R56, R411, R413). -/
def execSnapshot (t : Nat) (n : Fin 4) (s : State) : Res :=
  .next ((s.at t).fire n tySNAPSHOT
    (fires (fun e s => s.flowSnapshot (e.p0 % 64) s.gtcM e.raw n (s.rev n))))

/-- HEAD_SW (R52). -/
def execHeadSw (t : Nat) (n : Fin 4) (s : State) : Res :=
  .next ((s.at t).fire n tyHEADSW (fires (actHeadSw n)))

/-- SETPOINT (R162). -/
def execSetpoint (t : Nat) (n : Fin 4) (s : State) : Res :=
  .next ((s.at t).fire n tySETPOINT (fires (actSetpoint n)))

/-- LOOP_MODE (R149). -/
def execLoopMode (t : Nat) (n : Fin 4) (s : State) : Res :=
  .next ((s.at t).fire n tyLOOPMODE (fires (actLoopMode n)))

/-- MICROJOG (R170). -/
def execMicrojog (t : Nat) (n : Fin 4) (s : State) : Res :=
  .next ((s.at t).fire n tyMICROJOG (fires (actMicrojog n)))

/-- WEDGE_RESULT (R80). -/
def execWedgeResult (t : Nat) (n : Fin 4) (ang : Nat) (samf : Bool) (word : BitVec 12) (gray : BitVec 24)
    (bursts : BitVec 32) (s : State) : Res :=
  .next ((s.at t).ifSec n (fun s => s.wedgeResult n ang samf word.toNat gray.toNat bursts.toNat))

end Sys2Proof.Machine
end

