-- ==== Sys2Proof/Machine/Passage.lean ====
section
/-! DEFINITION. Passage between the dies: flits and replays (R28), link-down and link-up (R29, R33, R538), isolation (R33), the
forced retrain (R36), split reads that time out (R31), and their commands. -/

namespace Sys2Proof.Machine

open Sys2Proof

/-- An event that link-down cancels: WR_ON, WR_OFF, an FMARK of the write class, an ASSIST with a non-zero code (R33). -/
def State.isWriteEvent (s : State) (n : Fin 4) (e : Event) : Bool :=
  e.typ == tyWRON || e.typ == tyWROFF || (e.typ == tyFMARK && s.sidIsWrite n e.sid) || (e.typ == tyASSIST && e.p0 % 256 != 0)

/-- The M-die's side of a link-down in section n: write gates close, loaded write events complete LINK but the WR_OFF of the
open fragment, which stays; sector data on its way up is lost (R33, R538). -/
def State.linkDownSec (s : State) (n : Fin 4) : State :=
  let keep := if (s.sec n).chan.wg || (s.sec n).chan.cut.isSome
    then earliest (s.evDist n) ((s.sec n).atb.data.filter (fun e => e.typ == tyWROFF)) else none
  let s := s.assertWinh n
  let s := s.removeEvents n (fun e => s.isWriteEvent n e && some e != keep) csLINK
  s.onChan n (fun c => { c with
    down := []
    up := c.up.map (fun u => match u.block with
      | some _ => ⟨u.sid, BitVec.ofNat 32 (resWord resNOTREAD 0 0 none 0 0), none⟩
      | none => u) })

/-- The link goes down. `msg`: both sides send LINK_UE; `planned`: PASSH powers down (R29, R33, R434, R538). -/
def State.linkDown (s : State) (msg planned : Bool) : State :=
  if s.linkUp = false then s
  else
    let s := (s.setBit R.PASSH_STATUS 0 false).setBit R.PASSM_STATUS 0 false
    let s := { s with pass := { s.pass with
      posted := []
      events := []
      downSince := some s.gtc
      planned := planned
      endH := { s.pass.endH with replays := 0 }
      endM := { s.pass.endM with replays := 0 } } }
    let s := if planned then s else ((s.bump R.PASSH_DOWN_CNT).bump R.PASSM_DOWN_CNT).pmuH 0x4C 1
    let s := if msg then (s.sendFault 208 kLINKUE 0).sendFault 592 kLINKUE 0 else s
    s.forSecs (fun n s => s.linkDownSec n)

/-- Retraining completes: the link is up, MAON has sent the messages it held (R33, R391, R538). -/
def State.linkTrained (s : State) : State :=
  if s.linkUp ∨ s.domOn 12 = false then s
  else
    let s := (s.setReg R.PASSH_STATUS 0xF1).setReg R.PASSM_STATUS 0xF1
    { s with pass := { s.pass with downSince := none, planned := false, ups := s.pass.ups + 1 }, maon := { s.maon with holds := [] } }

/-- A receiver's register addresses and source: status, CE counter, replay counter. -/
def passRegs : Die → Nat × Nat × Nat × Nat
  | .h => (R.PASSH_STATUS, R.PASSH_CE_CNT, R.PASSH_REPLAY_CNT, 208)
  | .m => (R.PASSM_STATUS, R.PASSM_CE_CNT, R.PASSM_REPLAY_CNT, 592)

/-- The receiver of a side. -/
def Passage.rx (p : Passage) : Die → LinkEnd
  | .h => p.endH
  | .m => p.endM

/-- Replace the receiver of a side. -/
def Passage.setRx (p : Passage) (d : Die) (e : LinkEnd) : Passage :=
  match d with
  | .h => { p with endH := e }
  | .m => { p with endM := e }

/-- A receiver decodes a flit: accepted, corrected and counted, or discarded with a replay; the eighth replay that fails takes
the link down (R28, R29). -/
def State.passageFlit (s : State) (side : Die) (flit : Nat) : State :=
  if s.linkUp = false then s
  else
    let (_, ce, rep, src) := passRegs side
    let e := s.pass.rx side
    let put (s : State) (e : LinkEnd) : State := { s with pass := s.pass.setRx side e }
    let s := s.pmuH (if side = .m then 0x48 else 0x49) 1
    match eccLinkClass (chk (flit / 65536) ^^^ (flit % 65536)) with
    | .clean => put s { e with replays := 0 }
    | .ue =>
      if 8 ≤ e.replays then s.linkDown true false
      else put ((s.bump rep).pmuH 0x4B 1) { e with replays := e.replays + 1 }
    | _ =>
      let s := (s.bump ce).pmuH 0x4A 1
      if 1024 ≤ e.ceTotal + 1 then put (s.sendFault src kCE 0) ⟨0, 0⟩ else put s ⟨e.ceTotal + 1, 0⟩

/-- PASSAGE_FLIT_RECEIVE (R28). -/
def execPassageFlitReceive (t : Nat) (side : Die) (flit : BitVec 144) (s : State) : Res :=
  .next ((s.at t).passageFlit side flit.toNat)

/-- PASSAGE_LANE_LOCK_LOSS: the link goes down, with all four lanes needed (R29). -/
def execPassageLaneLockLoss (t : Nat) (side : Die) (lane : Fin 4) (s : State) : Res :=
  let s := s.at t
  .next (if s.linkUp then (s.setBit (passRegs side).1 (4 + lane) false).linkDown true false else s)

/-- PASSAGE_LINK_UP (R538). -/
def execPassageLinkUp (t : Nat) (s : State) : Res := .next (s.at t).linkTrained

/-- PASSAGE_ISOLATION: the link has been down for 1 ms, unplanned; the M-die enters the safe state (R33). -/
def execPassageIsolation (t : Nat) (s : State) : Res :=
  let s := s.at t
  .next (match s.pass.downSince with
    | some t0 =>
      if s.linkUp = false ∧ s.pass.planned = false ∧ t0 + 1000000 ≤ s.gtc then
        ((s.setBit R.PASSH_STATUS 1 true).setBit R.PASSM_STATUS 1 true).maonDecide 512 1
      else s
    | none => s)

/-- RETRAIN (R36). -/
def execRetrain (t : Nat) (i : Initiator) (s : State) : Res :=
  .next ((s.at t).onReg i R.PASSH_CTRL (fun s => s.linkDown false false))

/-- The first split read of an initiator, and the rest. -/
def takeSplit (i : Initiator) : List SplitRead → Option (SplitRead × List SplitRead)
  | [] => none
  | r :: rs => if r.ini = i then some (r, rs) else (takeSplit i rs).map (fun p => (p.1, r :: p.2))

/-- SPLIT_READ_TIMEOUT: no response within 10 µs; the read returns 0 and PASSH sends TIMEOUT (R31). -/
def execSplitReadTimeout (t : Nat) (i : Initiator) (s : State) : Res :=
  let s := s.at t
  .next (match takeSplit i s.pass.splits with
    | some (r, rest) =>
      if r.at_ + 10000 ≤ s.gtc then
        { s with pass := { s.pass with splits := rest }, lastRead := 0#32 }.sendFault 208 kTIMEOUT r.addr
      else s
    | none => s)

end Sys2Proof.Machine
end

