-- ==== Sys2Proof/Machine/Cipher.lean ====
section
/-! DEFINITION. The cryptographic functions that the spec takes from public standards (log 13): AES-256 and its XTS mode
(R337, R340), RFC 3394 key wrap (R338, R459), SHA-384 and HMAC (R459, R462), ECDSA P-384 (R456, R461). Keys and blocks are lists
of bytes in the order the standards write them. -/

namespace Sys2Proof.Machine

open Sys2Proof

/-! ### AES-256 -/

/-- Doubling in the field of AES (polynomial 0x11B). -/
def aesDbl (x : Nat) : Nat := if x < 128 then 2 * x else (2 * x) ^^^ 0x11B

/-- Product in the field of AES: `k` bits of `y`, from bit k-1 down. -/
def aesMulFrom (x y : Nat) : Nat → Nat → Nat
  | 0, r => r
  | k + 1, r => aesMulFrom x y k (aesDbl r ^^^ (if bitOf y k then x else 0))

/-- Product in the field of AES. -/
def aesMul (x y : Nat) : Nat := aesMulFrom x y 8 0

/-- Square `k` times. -/
def aesSqr : Nat → Nat → Nat
  | 0, x => x
  | k + 1, x => aesSqr k (aesMul x x)

/-- x^254, the inverse; 0 for 0. -/
def aesInv (x : Nat) : Nat :=
  let p2 := aesMul x x
  let p3 := aesMul p2 x
  let p15 := aesMul (aesSqr 2 p3) p3
  let p240 := aesSqr 4 p15
  let p12 := aesSqr 2 p3
  aesMul (aesMul p240 p12) p2

/-- Rotate a byte left by `k`. -/
def rotl8 (x k : Nat) : Nat := (x * 2 ^ k) % 256 + x / 2 ^ (8 - k)

/-- The AES S-box. -/
def aesSub (x : Nat) : Nat :=
  let i := aesInv x
  i ^^^ rotl8 i 1 ^^^ rotl8 i 2 ^^^ rotl8 i 3 ^^^ rotl8 i 4 ^^^ 0x63

/-- The inverse of the AES S-box. -/
def aesSubInv (y : Nat) : Nat := aesInv (rotl8 y 1 ^^^ rotl8 y 3 ^^^ rotl8 y 6 ^^^ 0x05)

/-- Exclusive-or of two lists of bytes held as numbers. -/
def xorL (a b : List Nat) : List Nat := List.zipWith (· ^^^ ·) a b

/-- The next word of the AES-256 key schedule: `i` its index, `back` the words so far, newest first. -/
def aesNextWord (i : Nat) (back : List (List Nat)) : List Nat :=
  let prev := back.headD []
  let old := back.getD 7 []
  let rot (w : List Nat) : List Nat := w.drop 1 ++ w.take 1
  let tmp :=
    if i % 8 = 0 then xorL ((rot prev).map aesSub) [2 ^ (i / 8 - 1), 0, 0, 0]
    else if i % 8 = 4 then prev.map aesSub
    else prev
  xorL old tmp

/-- `k` more words of the key schedule. -/
def aesExpandFrom : Nat → Nat → List (List Nat) → List (List Nat)
  | 0, _, back => back
  | k + 1, i, back => aesExpandFrom k (i + 1) (aesNextWord i back :: back)

/-- The 15 round keys of a 32-byte key. -/
def aesKeys (key : List Nat) : List (List Nat) :=
  let first := (List.range 8).map (fun j => (key.drop (4 * j)).take 4)
  let words := (aesExpandFrom 52 8 first.reverse).reverse
  (List.range 15).map (fun r => ((words.drop (4 * r)).take 4).flatten)

/-- ShiftRows: row r of the state (byte 4c + r of a block) turns left by r; `back` turns it right. -/
def aesShift (back : Bool) (b : List Nat) : List Nat :=
  (List.range 16).map (fun j =>
    let r := j % 4
    b.getD ((j / 4 + (if back then 4 - r else r)) % 4 * 4 + r) 0)

/-- One column times the circulant matrix with first row `m`. -/
def aesMixCol (m : List Nat) (c : List Nat) : List Nat :=
  (List.range 4).map (fun r =>
    (List.range 4).foldl (fun acc k => acc ^^^ aesMul (m.getD ((k + 4 - r) % 4) 0) (c.getD k 0)) 0)

/-- MixColumns over the four columns. -/
def aesMix (m : List Nat) (b : List Nat) : List Nat :=
  (List.range 4).flatMap (fun j => aesMixCol m ((b.drop (4 * j)).take 4))

/-- The rounds of encryption after the first key addition. -/
def aesEncRounds : List (List Nat) → List Nat → List Nat
  | [], b => b
  | [k], b => xorL (aesShift false (b.map aesSub)) k
  | k :: r, b => aesEncRounds r (xorL (aesMix [2, 3, 1, 1] (aesShift false (b.map aesSub))) k)

/-- Encrypt one block under expanded keys. -/
def aesEncK (keys : List (List Nat)) (b : List Nat) : List Nat :=
  match keys with
  | [] => b
  | k :: r => aesEncRounds r (xorL b k)

/-- The rounds of decryption, keys in reverse order. -/
def aesDecRounds : List (List Nat) → List Nat → List Nat
  | [], b => b
  | [k], b => xorL ((aesShift true b).map aesSubInv) k
  | k :: r, b => aesDecRounds r (aesMix [14, 11, 13, 9] (xorL ((aesShift true b).map aesSubInv) k))

/-- Decrypt one block under expanded keys. -/
def aesDecK (keys : List (List Nat)) (b : List Nat) : List Nat :=
  match keys.reverse with
  | [] => b
  | k :: r => aesDecRounds r (xorL b k)

/-! ### XTS (R340) -/

/-- Multiply the tweak block by α (IEEE 1619): least significant byte first. -/
def xtsStep (tw : Nat) : Nat := if tw < 2 ^ 127 then 2 * tw else (2 * tw % 2 ^ 128) ^^^ 0x87

/-- Bytes of a number, as numbers. -/
def natBytes (k x : Nat) : List Nat := (List.range k).map (fun j => x / 256 ^ j % 256)

/-- The number that bytes spell, least significant first. -/
def bytesNat : List Nat → Nat
  | [] => 0
  | b :: r => b + 256 * bytesNat r

/-- `k` blocks of an XTS data unit. -/
def xtsFrom (enc : Bool) (keys : List (List Nat)) : Nat → Nat → List Nat → List Nat
  | 0, _, _ => []
  | k + 1, tw, d =>
    let t := natBytes 16 tw
    let b := xorL (d.take 16) t
    let c := if enc then aesEncK keys b else aesDecK keys b
    xorL c t ++ xtsFrom enc keys k (xtsStep tw) (d.drop 16)

/-- AES-256-XTS of one 4,096-byte data unit under a key pair with a tweak value (R340). -/
def xts (enc : Bool) (key1 key2 : List Nat) (tweak : Nat) (d : List Byte) : List Byte :=
  let t0 := bytesNat (aesEncK (aesKeys key2) (natBytes 16 tweak))
  (xtsFrom enc (aesKeys key1) 256 t0 (d.map BitVec.toNat)).map (BitVec.ofNat 8)

/-! ### Key wrap (RFC 3394) -/

/-- The default initial value. -/
def kwIv : List Nat := List.replicate 8 0xA6

/-- The step counter t as eight bytes, most significant first. -/
def kwT (t : Nat) : List Nat := (natBytes 8 t).reverse

/-- Wrapping steps from counter t on: `r` the registers. -/
def kwWrapFrom (keys : List (List Nat)) (n : Nat) : Nat → Nat → List Nat → List (List Nat) → List Nat × List (List Nat)
  | 0, _, a, r => (a, r)
  | k + 1, t, a, r =>
    let i := (t - 1) % n
    let b := aesEncK keys (a ++ r.getD i [])
    kwWrapFrom keys n k (t + 1) (xorL (b.take 8) (kwT t)) (r.set i (b.drop 8))

/-- Unwrapping steps from counter t down. -/
def kwUnwrapFrom (keys : List (List Nat)) (n : Nat) : Nat → List Nat → List (List Nat) → List Nat × List (List Nat)
  | 0, a, r => (a, r)
  | t + 1, a, r =>
    let i := t % n
    let b := aesDecK keys (xorL a (kwT (t + 1)) ++ r.getD i [])
    kwUnwrapFrom keys n t (b.take 8) (r.set i (b.drop 8))

/-- Wrap `n` 8-byte units under a key. -/
def kwWrap (key : List Nat) (n : Nat) (d : List Nat) : List Nat :=
  let (a, r) := kwWrapFrom (aesKeys key) n (6 * n) 1 kwIv ((List.range n).map (fun j => (d.drop (8 * j)).take 8))
  a ++ r.flatten

/-- Unwrap `n` 8-byte units under a key; none: the integrity check fails. -/
def kwUnwrap (key : List Nat) (n : Nat) (c : List Nat) : Option (List Nat) :=
  let (a, r) := kwUnwrapFrom (aesKeys key) n (6 * n) (c.take 8)
    ((List.range n).map (fun j => (c.drop (8 + 8 * j)).take 8))
  if a = kwIv then some r.flatten else none

/-! ### SHA-384 and HMAC -/

/-- The integer root of order `e` by bits from bit k-1 down. -/
def rootFrom (e x : Nat) : Nat → Nat → Nat
  | 0, r => r
  | k + 1, r => rootFrom e x k (if (r + 2 ^ k) ^ e ≤ x then r + 2 ^ k else r)

/-- A number above 1 has no divisor from `d` up to `d + k`. -/
def noDivisor (n d : Nat) : Nat → Bool
  | 0 => true
  | k + 1 => n % d != 0 && noDivisor n (d + 1) k

/-- The primes below 410: the first 80. -/
def primes80 : List Nat := (List.range 410).filter (fun n => decide (2 ≤ n) && noDivisor n 2 (n - 2))

/-- Round constants: the first 64 bits of the fractional parts of the cube roots of the first 80 primes. -/
def shaK : List Nat := primes80.map (fun p => rootFrom 3 (p * 2 ^ 192) 70 0 % 2 ^ 64)

/-- Initial value of SHA-384: the fractional parts of the square roots of the 9th to 16th primes. -/
def sha384Iv : List Nat := ((primes80.drop 8).take 8).map (fun p => rootFrom 2 (p * 2 ^ 128) 70 0 % 2 ^ 64)

/-- Rotate right in 64 bits. -/
def rotr64 (x k : Nat) : Nat := x / 2 ^ k + x % 2 ^ k * 2 ^ (64 - k)

/-- The bytes of a number, most significant first. -/
def beBytes (k x : Nat) : List Nat := (natBytes k x).reverse

/-- The number that bytes spell, most significant first. -/
def beNat (b : List Nat) : Nat := b.foldl (fun acc x => acc * 256 + x) 0

/-- `k` more words of the message schedule, newest first. -/
def shaSchedule : Nat → List Nat → List Nat
  | 0, w => w
  | k + 1, w =>
    let w2 := w.getD 1 0
    let w15 := w.getD 14 0
    let s0 := rotr64 w15 1 ^^^ rotr64 w15 8 ^^^ (w15 / 2 ^ 7)
    let s1 := rotr64 w2 19 ^^^ rotr64 w2 61 ^^^ (w2 / 2 ^ 6)
    shaSchedule k ((w.getD 15 0 + s0 + w.getD 6 0 + s1) % 2 ^ 64 :: w)

/-- The rounds of one block over (a, b, c, d, e, f, g, h). -/
def shaRounds : List (Nat × Nat) → List Nat → List Nat
  | [], v => v
  | (k, w) :: r, v =>
    let a := v.getD 0 0
    let b := v.getD 1 0
    let c := v.getD 2 0
    let e := v.getD 4 0
    let f := v.getD 5 0
    let g := v.getD 6 0
    let s1 := rotr64 e 14 ^^^ rotr64 e 18 ^^^ rotr64 e 41
    let ch := (e &&& f) ^^^ ((2 ^ 64 - 1 - e) &&& g)
    let t1 := v.getD 7 0 + s1 + ch + k + w
    let s0 := rotr64 a 28 ^^^ rotr64 a 34 ^^^ rotr64 a 39
    let maj := (a &&& b) ^^^ (a &&& c) ^^^ (b &&& c)
    shaRounds r [(t1 + s0 + maj) % 2 ^ 64, a, b, c, (v.getD 3 0 + t1) % 2 ^ 64, e, f, g]

/-- `k` blocks of 128 bytes. -/
def shaBlocks : Nat → List Nat → List Nat → List Nat
  | 0, h, _ => h
  | k + 1, h, m =>
    let w := (List.range 16).map (fun j => beNat ((m.drop (8 * j)).take 8))
    let ws := (shaSchedule 64 w.reverse).reverse
    let v := shaRounds (List.zip shaK ws) h
    shaBlocks k (List.zipWith (fun a b => (a + b) % 2 ^ 64) h v) (m.drop 128)

/-- SHA-384: 48 bytes. -/
def sha384 (m : List Nat) : List Nat :=
  let n := m.length
  let blocks := (n + 17 + 127) / 128
  let padded := m ++ [0x80] ++ List.replicate (128 * blocks - n - 17) 0 ++ beBytes 16 (8 * n)
  ((shaBlocks blocks sha384Iv padded).take 6).flatMap (beBytes 8)

/-- HMAC-SHA-384 under a key of at most 128 bytes. -/
def hmac384 (key m : List Nat) : List Nat :=
  let k := key ++ List.replicate (128 - key.length) 0
  sha384 (k.map (· ^^^ 0x5C) ++ sha384 (k.map (· ^^^ 0x36) ++ m))

/-! ### ECDSA P-384 -/

/-- The field of P-384. -/
def p384P : Nat := 2 ^ 384 - 2 ^ 128 - 2 ^ 96 + 2 ^ 32 - 1

/-- The order of its base point. -/
def p384N : Nat :=
  0xFFFFFFFFFFFFFFFFFFFFFFFFFFFFFFFFFFFFFFFFFFFFFFFFC7634D81F4372DDF581A0DB248B0A77AECEC196ACCC52973

/-- The curve's coefficient b; a is -3. -/
def p384B : Nat :=
  0xB3312FA7E23EE7E4988E056BE3F82D19181D9C6EFE8141120314088F5013875AC656398D8A2ED19D2A85C8EDD3EC2AEF

/-- The base point. -/
def p384G : Nat × Nat :=
  (0xAA87CA22BE8B05378EB1C71EF320AD746E1D3B628BA79B9859F741E082542A385502F25DBF55296C3A545E3872760AB7,
   0x3617DE4A96262C6F5D9E98BF9292DC29F8F41DBD289A147CE9DA3113B5F0B8C00A60B1CE1D7E819D7A431D7C90EA0E5F)

/-- x^e mod m, `k` bits of e from bit k-1 down. -/
def powModFrom (m x e : Nat) : Nat → Nat → Nat
  | 0, r => r
  | k + 1, r => powModFrom m x e k (r * r * (if bitOf e k then x else 1) % m)

/-- The inverse modulo a prime of 384 bits. -/
def invMod (m x : Nat) : Nat := powModFrom m x (m - 2) 384 1

/-- A point of the curve; none: the point at infinity. -/
abbrev EcPoint := Option (Nat × Nat)

/-- A pair of coordinates lies on P-384. -/
def onCurve (x y : Nat) : Bool :=
  x < p384P && y < p384P && y * y % p384P == (x * x * x + (p384P - 3) * x + p384B) % p384P

/-- Addition on the curve. -/
def ecAdd : EcPoint → EcPoint → EcPoint
  | none, q => q
  | p, none => p
  | some (x1, y1), some (x2, y2) =>
    let P := p384P
    let fin (l : Nat) : EcPoint :=
      let x3 := (l * l + 2 * P - x1 - x2) % P
      some (x3, (l * (x1 + P - x3) + P - y1) % P)
    if x1 = x2 then
      if (y1 + y2) % P = 0 then none
      else fin ((3 * x1 * x1 + P - 3) * invMod P (2 * y1 % P) % P)
    else fin ((y2 + P - y1) * invMod P ((x2 + P - x1) % P) % P)

/-- Scalar multiple, `k` bits from bit k-1 down. -/
def ecMulFrom (q : EcPoint) (e : Nat) : Nat → EcPoint → EcPoint
  | 0, r => r
  | k + 1, r =>
    let d := ecAdd r r
    ecMulFrom q e k (if bitOf e k then ecAdd d q else d)

/-- ECDSA P-384 over SHA-384: key X, Y and signature R, S are big-endian bytes of 48 each (R461). -/
def ecdsaVerify (key msg sigR sigS : List Nat) : Bool :=
  let x := beNat (key.take 48)
  let y := beNat ((key.drop 48).take 48)
  let r := beNat sigR
  let s := beNat sigS
  if onCurve x y && 1 ≤ r && r < p384N && 1 ≤ s && s < p384N then
    let w := invMod p384N s
    let z := beNat (sha384 msg)
    match ecAdd (ecMulFrom (some p384G) (z * w % p384N) 384 none) (ecMulFrom (some (x, y)) (r * w % p384N) 384 none) with
    | some (vx, _) => vx % p384N == r
    | none => false
  else false

end Sys2Proof.Machine
end

