-- ==== Sys2Proof/Machine/Meter.lean ====
section
/-! DEFINITION. Charging of meters and debiting of caps, as the blocks that do work charge them (R336, R344, R349, R350). -/

namespace Sys2Proof.Machine

open Sys2Proof

/-- The buckets of a group. -/
def State.capOf (s : State) (g : Nat) : Cap := spGet {} s.mtr.caps g

/-- Replace the buckets of a group. -/
def State.setCap (s : State) (g : Nat) (c : Cap) : State := { s with mtr := { s.mtr with caps := spPut {} s.mtr.caps g c } }

/-- Causes of a cap: the command level below 1 unit, the KiB and actuator levels below 0, of enabled buckets (R349, R350). -/
def Cap.cmdLow (c : Cap) : Bool := c.rateCmd ≠ 0 && c.lvlCmd < 1000
def Cap.kibLow (c : Cap) : Bool := c.rateKib ≠ 0 && c.lvlKib < 0
def Cap.actLow (c : Cap) : Bool := c.rateAct ≠ 0 && c.lvlAct < 0

/-- A group is capped (R350). While FLOW is not ON there is no meter unit to cap it. -/
def State.capped (s : State) (g : Nat) : Bool :=
  s.domOn 11 && ((s.capOf g).cmdLow || (s.capOf g).kibLow || (s.capOf g).actLow)

/-- Debit the command bucket by 1 unit (R349). -/
def State.debitCmd (s : State) (g : Nat) : State :=
  let c := s.capOf g
  if s.domOn 11 ∧ c.rateCmd ≠ 0 then s.setCap g { c with lvlCmd := c.lvlCmd - 1000 } else s

/-- Debit the KiB bucket by 4 units for each of `n` blocks (R349). -/
def State.debitKib (s : State) (g n : Nat) : State :=
  let c := s.capOf g
  if s.domOn 11 ∧ c.rateKib ≠ 0 then s.setCap g { c with lvlKib := c.lvlKib - 4000 * n } else s

/-- Debit the actuator bucket by 1 thousandth per ns (R349). -/
def State.debitAct (s : State) (g ns : Nat) : State :=
  let c := s.capOf g
  if s.domOn 11 ∧ c.rateAct ≠ 0 then s.setCap g { c with lvlAct := c.lvlAct - ns } else s

/-- Add to meter `m` of group `g` in the open bank, saturating at 2^64 − 1 (R344). No bank is open while EN is 0 (R347; log 30). -/
def State.charge (s : State) (g m amt : Nat) : State :=
  if s.domOn 11 ∧ s.bit R.MTR_CTRL 0 then
    let k := 8 * (g % 4096) + m % 8
    let b := s.mtr.bank
    let v := spGet 0 b.vals k + amt
    { s with mtr := { s.mtr with bank := { b with
        vals := spPut 0 b.vals k (satU 64 v)
        sat := b.sat || decide (2 ^ 64 ≤ v) } } }
  else s

/-- The data mover charges blocks to meter 1 or 2 (R344, R349). -/
def State.chargeBlocks (s : State) (g m n : Nat) : State := (s.charge g m (4096 * n)).debitKib g n

end Sys2Proof.Machine
end

