-- ==== Sys2Proof/Machine/Jobs.lean ====
section
/-! DEFINITION. Job rings, as Squeeze and AES-XTS share them (R322, R323, R334, R341): choice of the next job, completion records and
their order, the state of a ring. -/

namespace Sys2Proof.Machine

open Sys2Proof

/-- A unit that serves job rings. -/
inductive JU where
  | sqz
  | aes
deriving DecidableEq, Repr

/-- Its jobs. -/
def State.unit (s : State) : JU → JobUnit
  | .sqz => s.sqz
  | .aes => s.aes

/-- Replace its jobs. -/
def State.setUnit (s : State) (u : JU) (j : JobUnit) : State :=
  match u with
  | .sqz => { s with sqz := j }
  | .aes => { s with aes := j }

/-- Address of register offset `k` of ring `n`: the offsets of SQZ_Rn_* (R335, R355). -/
def jreg (u : JU) (n k : Nat) : Nat :=
  match u with
  | .sqz => R.SQZ_R_BASE_LO n + k
  | .aes => R.CRYP_J_BASE_LO n + k

def jSIZE : Nat := 8
def jPROD : Nat := 12
def jCONS : Nat := 16
def jCPLLO : Nat := 20
def jCPLHI : Nat := 24
def jCPLSIZE : Nat := 28
def jCPLPROD : Nat := 32
def jCPLCONS : Nat := 36
def jCFG : Nat := 40
def jSTATUS : Nat := 44

/-- Rings of a unit. -/
def juRings : JU → Nat
  | .sqz => 64
  | .aes => 8

/-- Contexts of a unit that take jobs of a direction. -/
def juCtxs (u : JU) (dir : Nat) : List (Fin 8) :=
  match u with
  | .sqz => if dir = 0 then [0, 1, 2, 3] else [4, 5, 6, 7]
  | .aes => [0, 1]

/-- Bytes of a completion record. -/
def juRecLen : JU → Nat
  | .sqz => 32
  | .aes => 16

/-- The unit's domain is ON. -/
def State.juOn (s : State) : JU → Bool
  | .sqz => s.domOn 9
  | .aes => s.domOn 10

/-- Ring `n` is enabled. -/
def State.ringEnabled (s : State) (u : JU) (n : Nat) : Bool :=
  s.bit (jreg u n jCFG) 0 && (u == .aes || s.bit R.SQZ_CTRL 0)

/-- A context is fenced (R334, R354). -/
def State.ctxFenced (s : State) (u : JU) (c : Fin 8) : Bool :=
  match u with
  | .sqz => s.bit R.SQZ_STATUS (8 + c)
  | .aes => s.bit R.CRYP_STATUS (2 + c)

/-- Replace context `c`. -/
def State.setCtx (s : State) (u : JU) (c : Fin 8) (x : JobCtx) : State :=
  s.setUnit u { s.unit u with ctx := (s.unit u).ctx.set c x }

/-- Contexts that hold a job or a record of ring `n`. -/
def State.ringRuns (s : State) (u : JU) (n : Nat) : Bool :=
  (s.unit u).ctx.toList.any (fun x => x.ring == some n)

/-- The busy bits and the ring's ACTIVE follow the contexts. -/
def State.juSync (s : State) (u : JU) (n : Nat) : State :=
  let busy (c : Nat) : Bool := ((s.unit u).ctx.toList.getD c {}).ring.isSome
  let bits (k : Nat) : Nat := (List.range k).foldl (fun a c => a + b2n (busy c) * 2 ^ c) 0
  let s := match u with
    | .sqz => s.setFld R.SQZ_STATUS 7 0 (bits 8)
    | .aes => s.setFld R.CRYP_STATUS 1 0 (bits 2)
  s.setBit (jreg u n jSTATUS) 0 (s.ringRuns u n)

/-- STOPPED reads 1 once the ring is disabled and none of its jobs runs, 0 while it is enabled (R335). -/
def State.ringStop (s : State) (u : JU) (n : Nat) : State :=
  if s.ringEnabled u n then s.setBit (jreg u n jSTATUS) 1 false
  else if s.ringRuns u n then s
  else s.setBit (jreg u n jSTATUS) 1 true

/-- Address of the descriptor at the head of ring `n`. -/
def State.headDesc (s : State) (u : JU) (n : Nat) : Nat :=
  s.rd64 (jreg u n 0) (jreg u n 4) + 64 * (s.rd (jreg u n jCONS) % s.rd (jreg u n jSIZE))

/-- Ring `n` is enabled with a job at its head, of direction `dir` where the unit sorts by direction, that may start (R322). -/
def State.ringReady (s : State) (u : JU) (dir n : Nat) : Bool :=
  let size := s.rd (jreg u n jSIZE)
  s.ringEnabled u n && s.rd (jreg u n jPROD) % size != s.rd (jreg u n jCONS) % size
    && (u == .aes || wordAt (s.busRead 7 (s.headDesc u n) 4).bytes 0 % 2 == dir)
    && !(u == .sqz && s.bit (jreg u n jCFG) 3 && s.ringRuns u n)

/-- Jobs a ring may take in a row: WEIGHT (R322, R341). -/
def State.ringWeight (s : State) (u : JU) (n : Nat) : Nat :=
  match u with
  | .sqz => s.fld (jreg u n jCFG) 8 4
  | .aes => 1

/-- The ring that gives the next job of a direction: the one last served while it has jobs and its WEIGHT is not used up, else the
next ready ring after it (R322). -/
def State.nextRing (s : State) (u : JU) (dir : Fin 2) : Option Nat :=
  let k := juRings u
  let after (n : Nat) : Option Nat := ((List.range k).map (fun j => (n + 1 + j) % k)).find? (s.ringReady u dir)
  match (s.unit u).turn[dir] with
  | some (n, run) => if run < s.ringWeight u n && s.ringReady u dir n then some n else after n
  | none => after (k - 1)

/-- Context `c` takes the next job of direction `dir` (R322). A fenced context takes one only when every context of the direction is
fenced, and the job ends FENCED (R334, R354). -/
def State.jobStart (s : State) (u : JU) (dir : Fin 2) (req : Nat) (c : Fin 8) : State :=
  let x := (s.unit u).ctx[c]
  let allFenced := (juCtxs u dir).all (s.ctxFenced u)
  if s.juOn u = false ∨ x.ring.isSome ∨ (s.ctxFenced u c ∧ allFenced = false) then s
  else
    match s.nextRing u dir with
    | none => s
    | some n =>
      let run := match (s.unit u).turn[dir] with
        | some (m, k) => if m = n then k + 1 else 1
        | none => 1
      let a := s.headDesc u n
      let r := s.busRead req a 64
      let s := r.st.setReg (jreg u n jCONS) (ringNext (s.rd (jreg u n jCONS) % s.rd (jreg u n jSIZE)) (s.rd (jreg u n jSIZE)))
      let s := s.setCtx u c { ring := some n, desc := (List.range 16).map (fun k => wordAt r.bytes (4 * k)), bad := r.err,
                              fence := s.ctxFenced u c }
      (s.setUnit u { s.unit u with turn := (s.unit u).turn.set dir (some (n, run)) }).juSync u n

/-- The completion record of context `c` is written once its ring has room and every record of the ring whose job ended earlier has
been written; the context is free (R323). -/
def State.jobRecord (s : State) (u : JU) (c : Fin 8) : State :=
  let x := (s.unit u).ctx[c]
  match x.ring, x.rec_ with
  | some n, some (b, k) =>
    let first := (s.unit u).ctx.toList.all (fun y => y.ring != some n || (match y.rec_ with
      | some (_, j) => decide (k ≤ j)
      | none => true))
    if s.juOn u = false ∨ first = false
        ∨ ringFull (s.rd (jreg u n jCPLPROD)) (s.rd (jreg u n jCPLCONS)) (s.rd (jreg u n jCPLSIZE)) then s
    else
      let i := s.rd (jreg u n jCPLPROD)
      let s := (s.busWrite (s.rd64 (jreg u n jCPLLO) (jreg u n jCPLHI) + juRecLen u * i) b).setReg (jreg u n jCPLPROD)
        (ringNext i (s.rd (jreg u n jCPLSIZE)))
      let core := appTarget (s.fld (jreg u n jCFG) 2 1)
      let s := match u with
        | .sqz => (s.setBit (R.SQZ_RING_INT (n / 32)) (n % 32) true).irq core (.unit 72)
        | .aes => s.raiseInt R.CRYP_INT_STATUS R.CRYP_INT_EN n core 80
      let s := (s.setCtx u c {}).juSync u n
      match u with
      | .sqz => s
      | .aes => s.ringStop u n
  | _, _ => s

/-- The job of context `c` ends: its record waits, or is written at once where there is room. -/
def State.jobEnded (s : State) (u : JU) (c : Fin 8) (record : List Byte) : State :=
  let k := (s.unit u).ended
  let s := s.setCtx u c { (s.unit u).ctx[c] with rec_ := some (record, k) }
  (s.setUnit u { s.unit u with ended := k + 1 }).jobRecord u c

/-- A segment whose contents the spec leaves undefined after a job: a free number of its first bytes hold free values (log 12). -/
def State.spoil (s : State) (a n : Nat) : State :=
  let k := (Config.freeWord s.free).toNat % (n + 1)
  { (s.busWrite a (freeBytes (s.free + 1) k)) with free := s.free + 1 + n }

/-- The next free number. -/
def State.freeNat (s : State) (k : Nat) : Nat := (Config.freeWord (s.free + k)).toNat

/-- An address lies in the DRAM window at a multiple of `k`. -/
def dramAligned (k a : Nat) : Bool := inDram a && a % k == 0

end Sys2Proof.Machine
end

