-- ==== Sys2Proof/Machine/Queue.lean ====
section
/-! DEFINITION. QENG (R211 to R236): queue contexts and doorbells, arbitration and fetch, command slots, dispatch records, the
single commit point, interrupts, aborts, deletions and the discards of resets. -/

namespace Sys2Proof.Machine

open Sys2Proof

/-! ### Ports and tables -/

/-- A cause of QENG: its status bit, and its interrupt where enabled: 0 to 3 to the application core of the ring, the others to
the core named by ADMIN_CORE (R236). -/
def State.qengInt (s : State) (k : Nat) : State :=
  s.raiseInt R.QENG_INT_STATUS R.QENG_INT_EN k (appTarget (if k < 4 then k else s.fld R.QENG_CTRL 7 6)) 16

/-- Number of a port. -/
def portNo : Port → Fin 2
  | .a => 0
  | .b => 1

/-- The other port. -/
def portOther : Port → Port
  | .a => .b
  | .b => .a

/-- Dual mode (R211). -/
def State.dual (s : State) : Bool := s.bit R.PWR_STRAP 0

/-- The port's state. -/
def State.port (s : State) (p : Port) : HostPort := s.qeng.ports[portNo p]

/-- Replace a port's state. -/
def State.setPort (s : State) (p : Port) (x : HostPort) : State :=
  { s with qeng := { s.qeng with ports := s.qeng.ports.set (portNo p) x } }

/-- A command of the host at port `p` finds the port and QENG powered and the link trained (R211, R431, R447). -/
def State.hostOn (s : State) (p : Port) : Bool :=
  s.domOn 3 && s.domOn (1 + (portNo p).val) && (s.port p).up && (p == .a || s.dual)

/-- Do something on a port that serves its host. -/
def State.ifHost (s : State) (p : Port) (f : State → State) : State := if s.hostOn p then f s else s

/-- CC.EN of a port. -/
def State.ccEn (s : State) (p : Port) : Bool := bitOf (s.port p).cc.toNat 0

/-- Key of QID `q` of port `p` in the context tables. -/
def qkey (p : Port) (q : Nat) : Nat := 65536 * (portNo p).val + q

/-- The range of QIDs of a port (R216). -/
def State.qidRange (s : State) (p : Port) : Nat :=
  if s.dual then
    match p with
    | .a => s.fld R.QENG_PORTCFG 15 0
    | .b => 65536 - s.fld R.QENG_PORTCFG 15 0
  else
    match p with
    | .a => 65536
    | .b => 0

/-- MSI-X vectors of a port (R212). -/
def State.vectors (s : State) : Nat := if s.dual then 1024 else 2048

/-- Look a key up in a list of pairs. -/
def findKey {α : Type} (k : Nat) : List (Nat × α) → Option α
  | [] => none
  | (j, v) :: r => if j = k then some v else findKey k r

/-- Set a key in a list of pairs. -/
def setKey {α : Type} (l : List (Nat × α)) (k : Nat) (v : α) : List (Nat × α) := spIns k v (spDel k l)

def State.sq? (s : State) (p : Port) (q : Nat) : Option Sq := findKey (qkey p q) s.qeng.sqs
def State.cq? (s : State) (p : Port) (q : Nat) : Option Cq := findKey (qkey p q) s.qeng.cqs

def State.putSq (s : State) (p : Port) (q : Nat) (x : Sq) : State :=
  { s with qeng := { s.qeng with sqs := setKey s.qeng.sqs (qkey p q) x } }
def State.putCq (s : State) (p : Port) (q : Nat) (x : Cq) : State :=
  { s with qeng := { s.qeng with cqs := setKey s.qeng.cqs (qkey p q) x } }

def State.slot? (s : State) (k : Nat) : Option CmdSlot := findKey k s.qeng.slots
def State.putSlot (s : State) (k : Nat) (x : CmdSlot) : State :=
  { s with qeng := { s.qeng with slots := setKey s.qeng.slots k x } }

/-- Configuration words of a group, a namespace and a vector (R236). -/
def State.grpCfg (s : State) (g : Nat) : Nat := (spGet 0x04000001#32 s.qeng.grp g).toNat
def State.nsCfg (s : State) (nsid : Nat) : Nat := if nsid = 0 ∨ 1024 < nsid then 0 else (spGet 0#32 s.qeng.ns (nsid - 1)).toNat
def State.icCfg (s : State) (p : Port) (v : Nat) : Nat := (spGet 0#32 s.qeng.ic (2048 * (portNo p).val + v)).toNat

/-! ### Slots (R221) -/

/-- SQID of the slot of a window command (R386). -/
def winSqid : Nat := 0xFFFF

/-- Slots reserved by reads in flight. -/
def State.reserved (s : State) : List Nat :=
  ((s.port .a).reads.flatMap (fun r => r.slots)) ++ ((s.port .b).reads.flatMap (fun r => r.slots))

/-- Free slots. -/
def State.slotFree (s : State) : Nat := s.fld R.QENG_SLOT_FREE 10 0

/-- Keep QENG_SLOT_FREE equal to what is held. -/
def State.countSlots (s : State) : State :=
  s.setReg R.QENG_SLOT_FREE (1024 - (s.qeng.slots.length + s.reserved.length))

/-- Slots a group holds, reads in flight included; admin commands are exempt, and a window command holds an RSV slot (R219, R386). -/
def State.slotsOf (s : State) (g : Nat) : Nat :=
  (s.qeng.slots.filter (fun x => x.2.group == g && x.2.sqid != 0 && !x.2.win)).length
    + ([Port.a, Port.b].map (fun p => ((s.port p).reads.map (fun r =>
        match s.sq? p r.sqid with
        | some q => if q.group = g ∧ r.sqid ≠ 0 then r.slots.length else 0
        | none => 0)).sum)).sum

/-- slot_room(g) of R221: the smaller of the two margins. -/
def State.slotRoom (s : State) (g : Nat) : Nat :=
  min (s.slotFree - s.fld R.QENG_SLOT_CFG 4 0) (bitsOf (s.grpCfg g) 26 16 - s.slotsOf g)

/-- The `n` lowest free slots of those from `k` on, looking at `m` of them (log 31: the device chooses the lowest). -/
def State.lowestFree (s : State) (taken : List Nat) : Nat → Nat → Nat → List Nat
  | 0, _, _ => []
  | _, _, 0 => []
  | n + 1, k, m + 1 =>
    if (s.slot? k).isSome ∨ k ∈ taken then State.lowestFree s taken (n + 1) (k + 1) m
    else k :: State.lowestFree s taken n (k + 1) m

/-! ### Arbitration (R219, R220) -/

/-- Entries of an SQ between head and tail. -/
def Sq.entries (q : Sq) : Nat := (q.tail + q.size - q.head) % q.size

/-- Outstanding commands of an SQ: fetched, or in flight, and not committed (R219). -/
def State.outstanding (s : State) (p : Port) (q : Nat) : Nat :=
  (s.qeng.slots.filter (fun x => x.2.port = p && x.2.sqid == q && !x.2.win && !x.2.committed && x.2.fate != .discarded)).length
    + (((s.port p).reads.filter (fun r => r.sqid == q)).map (fun r => r.n)).sum

/-- An SQ is ready but for the want of a slot (R219); fetch stops at power loss (R207 step 4). -/
def State.sqWants (s : State) (p : Port) (q : Nat) (x : Sq) : Bool :=
  s.bit R.QENG_CTRL (portNo p).val && !s.bit R.QENG_CTRL (2 + (portNo p).val) && !(s.port p).cfs && s.ccEn p && s.maon.powerLossAt.isNone
    && x.tail != x.head && !x.ferr && !x.deleting && s.outstanding p q < 32 && (q == 0 || !s.capped x.group)

/-- A slot is available to an SQ (R221). -/
def State.sqSlot (s : State) (q : Nat) (x : Sq) : Bool :=
  if q = 0 then s.fld R.QENG_SLOT_CFG 4 0 < s.slotFree else 0 < s.slotRoom x.group

/-- An SQ is ready (R219). -/
def State.sqReady (s : State) (p : Port) (q : Nat) (x : Sq) : Bool := s.sqWants p q x && s.sqSlot q x

/-- The SQs of a port: QID and context. -/
def State.sqsOf (s : State) (p : Port) : List (Nat × Sq) :=
  s.qeng.sqs.filterMap (fun x => if x.1 / 65536 = (portNo p).val then some (x.1 % 65536, x.2) else none)

/-- The ready I/O SQs of a port in a class. -/
def State.readyIn (s : State) (p : Port) (c : Nat) : List (Nat × Sq) :=
  (s.sqsOf p).filter (fun x => x.1 != 0 && x.2.prio == c && s.sqReady p x.1 x.2)

/-- Some SQ of the port is ready. -/
def State.portReady (s : State) (p : Port) : Bool := (s.sqsOf p).any (fun x => s.sqReady p x.1 x.2)

/-- The first of `l` (ascending) after `last`, round robin. -/
def nextAfter (l : List Nat) (last : Option Nat) : Option Nat :=
  match last with
  | none => l.head?
  | some k =>
    match l.find? (fun x => k < x) with
    | some x => some x
    | none => l.head?

/-- Insert into an ascending list without repeats. -/
def insAsc (a : Nat) : List Nat → List Nat
  | [] => [a]
  | x :: r => if a < x then a :: x :: r else if a = x then x :: r else x :: insAsc a r

/-- AB of a port as a count (R220). -/
def State.burst (s : State) (p : Port) : Nat :=
  let ab := s.fld (R.QENG_ARB (portNo p).val) 2 0
  if ab = 7 then 32 else 2 ^ ab

/-- A pick: SQ, class, count. -/
structure Pick where
  st : State
  sq : Nat
  n : Nat

/-- arbitrate() of R220; `none` when no SQ of the port is ready. -/
def State.arbitrate (s : State) (p : Port) : Option Pick :=
  if (match s.sq? p 0 with | some x => s.sqReady p 0 x | none => false) then some ⟨s, 0, 1⟩
  else
    let h := s.port p
    let some_ (c : Nat) := !(s.readyIn p c).isEmpty
    let live (h : HostPort) (c : Nat) := some_ c && 0 < h.cred[c]!
    if !some_ 0 && !some_ 1 && !some_ 2 && !some_ 3 then none
    else
      let arb := s.rd (R.QENG_ARB (portNo p).val)
      let h := if !some_ 0 && !live h 1 && !live h 2 && !live h 3 then
          { h with cred := #v[h.cred[0], bitsOf arb 31 24 + 1, bitsOf arb 23 16 + 1, bitsOf arb 15 8 + 1] } else h
      let c : Nat := if some_ 0 then 0 else if live h 1 then 1 else if live h 2 then 2 else 3
      let ready := s.readyIn p c
      let groups := ready.foldl (fun l x => insAsc x.2.group l) []
      let def_ (h : HostPort) (g : Nat) := spGet 0 h.deficit (4 * g + c)
      let h := if groups.any (fun g => 0 < def_ h g) then h
        else { h with deficit := groups.foldl (fun d g => spPut 0 d (4 * g + c) (bitsOf (s.grpCfg g) 8 0)) h.deficit }
      match nextAfter (groups.filter (fun g => 0 < def_ h g)) h.lastGrp[c]! with
      | none => none
      | some g =>
        let mine := ready.filter (fun x => x.2.group == g)
        match nextAfter (mine.map (fun x => x.1)) (findKey (4 * g + c) h.lastSq) with
        | none => none
        | some q =>
          match findKey q mine with
          | none => none
          | some x =>
            let n := min (s.burst p) (min (32 - s.outstanding p q) (min x.entries (min (s.slotRoom g) (def_ h g))))
            let n := if c = 0 then n else min n h.cred[c]!
            let h := { h with
              deficit := spPut 0 h.deficit (4 * g + c) (def_ h g - n)
              cred := if c = 0 then h.cred else h.cred.set! c (h.cred[c]! - n)
              lastGrp := h.lastGrp.set! c (some g)
              lastSq := setKey h.lastSq (4 * g + c) q }
            some ⟨s.setPort p h, q, n⟩

/-- FETCH_DECISION (R220): the n entries at the SQ head are read; decisions alternate while both ports have ready SQs. A
decision lost for want of a slot is counted. -/
def State.fetchDecision (s : State) (p : Port) : State :=
  if s.qeng.lastPort = some p ∧ s.portReady (portOther p) then s
  else
    match s.arbitrate p with
    | none =>
      if (s.sqsOf p).any (fun x => s.sqWants p x.1 x.2) then (s.bump R.QENG_CNT_NOSLOT).pmuH 0x14 1 else s
    | some k =>
      let s := k.st
      match s.sq? p k.sq with
      | none => s
      | some x =>
        let slots := s.lowestFree s.reserved k.n 0 1024
        let s := s.putSq p k.sq { x with head := (x.head + k.n) % x.size }
        let h := s.port p
        let s := s.setPort p { h with reads := h.reads ++ [⟨k.sq, x.head, k.n, slots⟩], pp := false }
        ({ s with qeng := { s.qeng with lastPort := some p } }).countSlots

/-! ### Dispatch (R223, R235) -/

/-- A dispatch or notice record of a slot. -/
def State.dispRec (s : State) (k : Nat) (x : CmdSlot) (kind : Nat) (vxdeny : Bool) : DispRec :=
  { kind := kind, slot := k, port := x.port
    w0 := BitVec.ofNat 32 (k + 1024 * kind + 4096 * (portNo x.port).val + 8192 * x.fuse + 32768 * b2n x.ord + 65536 * b2n vxdeny)
    w1 := BitVec.ofNat 32 (x.sqid + 65536 * x.group + 268435456 * x.cls)
    w2 := BitVec.ofNat 32 x.fseq
    w3 := BitVec.ofNat 32 (s.gtc % 2 ^ 32), win := x.win }

/-- The ring that serves a slot: the group's CORE, or ADMIN_CORE for admin commands (R223). -/
def State.ringOf (s : State) (x : CmdSlot) : Fin 4 :=
  ⟨(if x.sqid = 0 then s.fld R.QENG_CTRL 7 6 else bitsOf (s.grpCfg x.group) 13 12) % 4, Nat.mod_lt _ (by decide)⟩

/-- Queue a record for its ring. -/
def State.queueRec (s : State) (c : Fin 4) (r : DispRec) : State :=
  { s with qeng := { s.qeng with dispQ := s.qeng.dispQ.set c (s.qeng.dispQ[c] ++ [r]) } }

/-- Write a notice for a slot. -/
def State.notice (s : State) (k : Nat) (x : CmdSlot) (kind : Nat) : State :=
  s.queueRec (s.ringOf x) (s.dispRec k x kind false)

/-- The first record that may be written: while HOLD is 1 records of KIND 0 are held back (R235). -/
def firstRec (hold : Bool) : List DispRec → Option (DispRec × List DispRec)
  | [] => none
  | r :: l =>
    if hold ∧ r.kind = 0 then (firstRec hold l).map (fun x => (x.1, r :: x.2)) else some (r, l)

/-- DISPATCH_RECORD (R223): the next record is written to the ring when it has room. -/
def State.dispatch (s : State) (c : Fin 4) : State :=
  let n := c.val
  let size := s.rd (R.QENG_DISP_SIZE n)
  let prod := s.rd (R.QENG_DISP_PROD n)
  if ringFull prod (s.rd (R.QENG_DISP_CONS n)) size then s
  else
    match firstRec (s.bit R.QENG_PS_CTRL 0) s.qeng.dispQ[c] with
    | none => s
    | some (r, rest) =>
      let s := { s with qeng := { s.qeng with dispQ := s.qeng.dispQ.set c rest } }
      let s := s.busWrite (s.rd64 (R.QENG_DISP_BASE_LO n) (R.QENG_DISP_BASE_HI n) + 16 * prod)
        (wordsToBytes [r.w0.toNat, r.w1.toNat, r.w2.toNat, r.w3.toNat])
      (s.setReg (R.QENG_DISP_PROD n) (ringNext prod size)).qengInt n

/-! ### Fetch (R220, R222, R223, R228) -/

/-- Word `j` of an entry. -/
def entryW (e : List Word) (j : Nat) : Nat := (e.getD j 0#32).toNat

/-- Take one fetched command into slot `k`; `fuse` and `partner` as paired within the fetch. -/
def State.takeCmd (s : State) (p : Port) (q : Nat) (x : Sq) (k : Nat) (e : List Word) (fuse : Nat) (partner : Option Nat) :
    State :=
  let no := (portNo p).val
  let dw0 := entryW e 0
  let nsid := entryW e 1
  let fseq := s.rd (R.QENG_FSEQ no)
  let c : CmdSlot := {
    port := p, sqid := q, group := if q = 0 then 0 else x.group, cls := x.prio, fuse := fuse, partner := partner
    fseq := fseq, cid := bitsOf dw0 31 16, nsid := nsid, ord := q ≠ 0 && bitOf (s.nsCfg nsid) 1
    sqe := (e ++ List.replicate 16 0#32).take 16 }
  let s := (s.putSlot k c).setReg (R.QENG_FSEQ no) ((fseq + 1) % 2 ^ 32)
  let s := ((s.bump (R.QENG_CNT_FETCH no)).pmuH (0x10 + no) 1).debitCmd c.group
  let s := s.queueRec (s.ringOf c) (s.dispRec k c 0 (q ≠ 0 && !x.vx && 128 ≤ dw0 % 256))
  if s.bit R.QENG_PS_CTRL 0 then (s.setBit R.QENG_PS_CTRL 1 true).qengInt 5 else s

/-- FUSE of an entry. -/
def fuseOf (e : List Word) : Nat := bitsOf (entryW e 0) 9 8 % 4

/-- Take the fetched entries in order, pairing first and second halves (R222). -/
def State.takeCmds (s : State) (p : Port) (q : Nat) (x : Sq) : Option Nat → List Nat → List (List Word) → State
  | prev, k :: ks, e :: es =>
    match prev, fuseOf e with
    | some j, 2 => State.takeCmds (s.takeCmd p q x k e 2 (some j)) p q x none ks es
    | _, 1 =>
      match ks, es with
      | k2 :: _, e2 :: _ =>
        if fuseOf e2 = 2 then State.takeCmds (s.takeCmd p q x k e 1 (some k2)) p q x (some k) ks es
        else State.takeCmds (s.takeCmd p q x k e 1 none) p q x none ks es
      | _, _ => State.takeCmds (s.takeCmd p q x k e 1 none) p q x none ks es
    | _, 2 => State.takeCmds (s.takeCmd p q x k e 2 none) p q x none ks es
    | _, _ => State.takeCmds (s.takeCmd p q x k e 0 none) p q x none ks es
  | _, _, _ => s

/-- SQ_FETCH_COMPLETE: the oldest read of the port returns (R223, R228). A first fused half at the end of the read brings its
second half with it, from a later read that has picked it, or where there are two places and two slots; else it stays unfetched
(R222; log 94). -/
def State.fetchComplete (s : State) (p : Port) (ok : Bool) (entries : List (List Word)) : State :=
  let h := s.port p
  match h.reads with
  | [] => s
  | r :: rest =>
    if ok ∧ entries.length < r.n then s
    else
      let s := s.setPort p { h with reads := rest }
      match s.sq? p r.sqid with
      | none => s.countSlots
      | some x =>
        if x.deleting then s.countSlots
        else if ok = false then
          let s := s.putSq p r.sqid { x with ferr := true }
          let s := { s with qeng := { s.qeng with
            ferr := s.qeng.ferr ++ [BitVec.ofNat 32 (r.sqid + 131072 * (portNo p).val + 2147483648)] } }
          (s.qengInt 6).countSlots
        else
          let lastHalf := 0 < r.n ∧ fuseOf (entries.getD (r.n - 1) []) = 1
          let next := rest.find? (fun y => y.sqid == r.sqid && y.first == (r.first + r.n) % x.size && 0 < y.n)
          let more := (x.head + x.size - (r.first + r.n) % x.size) % x.size = 0 && x.tail != x.head
          if lastHalf ∧ next.isSome ∧ r.n < entries.length then
            let y := next.getD ⟨0, 0, 0, []⟩
            let reads := rest.map (fun z => if z = y then ⟨y.sqid, (y.first + 1) % x.size, y.n - 1, y.slots.drop 1⟩ else z)
            (((s.setPort p { h with reads := reads }).takeCmds p r.sqid x none (r.slots ++ y.slots.take 1) (entries.take (r.n + 1)))).countSlots
          else if lastHalf ∧ more then
            let s1 := s.countSlots
            let extra := s1.lowestFree (r.slots ++ s1.reserved) 1 0 1024
            let room := s1.outstanding p r.sqid + r.n + 1 ≤ 32
              && (if r.sqid = 0 then s.fld R.QENG_SLOT_CFG 4 0 < s1.slotFree - r.n else r.n < s1.slotRoom x.group)
            if room ∧ r.n + 1 ≤ entries.length ∧ extra ≠ [] then
              let x' := { x with head := (x.head + 1) % x.size }
              ((s.putSq p r.sqid x').takeCmds p r.sqid x none (r.slots ++ extra) (entries.take (r.n + 1))).countSlots
            else
              let x' := { x with head := (x.head + x.size - 1) % x.size }
              ((s.putSq p r.sqid x').takeCmds p r.sqid x none (r.slots.take (r.n - 1)) (entries.take (r.n - 1))).countSlots
          else (s.takeCmds p r.sqid x none r.slots (entries.take r.n)).countSlots

/-! ### Doorbells (R218) -/

/-- Record a doorbell error. -/
def State.dbErr (s : State) (p : Port) (q type cause : Nat) : State :=
  let s := (s.qengInt 4).pmuH 0x16 1
  if s.qeng.dberr.length < 16 then
    { s with qeng := { s.qeng with
        dberr := s.qeng.dberr
          ++ [BitVec.ofNat 32 (q % 65536 + 65536 * type + 131072 * (portNo p).val + 262144 * cause + 2147483648)] } }
  else s.bump R.QENG_DBERR_OVF

/-- DOORBELL_WRITE at BAR0 offset `off` (R213, R218). Other offsets are no doorbells. -/
def State.doorbell (s : State) (p : Port) (off nbytes v : Nat) : State :=
  if off < 0x1000 ∨ 0x81000 ≤ off then s
  else
    let q := (off - 0x1000) / 8
    let type := (off - 0x1000) / 4 % 2
    if off % 4 ≠ 0 ∨ nbytes ≠ 4 then s.dbErr p q type 3
    else if s.ccEn p = false ∨ s.qidRange p ≤ q then s.dbErr p q type 0
    else if type = 0 then
      match s.sq? p q with
      | none => s.dbErr p q 0 0
      | some x =>
        if x.deleting then s.dbErr p q 0 0
        else if x.size ≤ v then s.dbErr p q 0 1
        else if (v + x.size - x.head) % x.size < x.entries then s.dbErr p q 0 2
        else s.putSq p q { x with tail := v }
    else
      match s.cq? p q with
      | none => s.dbErr p q 1 0
      | some x =>
        if x.size ≤ v then s.dbErr p q 1 1
        else if (x.tail + x.size - x.head) % x.size < (v + x.size - x.head) % x.size then s.dbErr p q 1 2
        else s.putCq p q { x with head := v }

/-- QENG_DBERR_POP (R218). -/
def State.dberrPop (s : State) : State :=
  match s.qeng.dberr with
  | [] => { s with lastRead := 0#32 }
  | w :: r =>
    { s with
      qeng := { s.qeng with dberr := r }
      lastRead := w }

/-- A read of QENG_FERR pops the QID of a failed SQ (R228). -/
def State.ferrPop (s : State) : State :=
  match s.qeng.ferr with
  | [] => { s with lastRead := 0#32 }
  | w :: r =>
    { s with
      qeng := { s.qeng with ferr := r }
      lastRead := w }

/-! ### Interrupts to the host (R227) -/

/-- Send the message of a vector, or set its pending bit while it is masked. -/
def State.msix (s : State) (p : Port) (v : Nat) : State :=
  let k := 2048 * (portNo p).val + v
  let s := { s with qeng := { s.qeng with icRun := spDel k s.qeng.icRun } }
  if k ∈ s.qeng.unmasked then s.sendHost (.msix p v)
  else { s with qeng := { s.qeng with msixPend := insAsc k s.qeng.msixPend } }

/-- An entry has committed on a CQ with interrupts enabled. -/
def State.icEntry (s : State) (p : Port) (q v : Nat) : State :=
  let cfg := s.icCfg p v
  let k := 2048 * (portNo p).val + v
  if q = 0 ∨ bitOf cfg 16 then s.msix p v
  else
    let r := (findKey k s.qeng.icRun).getD ⟨0, s.gtc⟩
    if bitsOf cfg 7 0 + 1 ≤ r.count + 1 ∨ bitsOf cfg 15 8 = 0 then s.msix p v
    else { s with qeng := { s.qeng with icRun := setKey s.qeng.icRun k ⟨r.count + 1, r.first⟩ } }

/-- INTERRUPT_COALESCING_TIMEOUT (R227). -/
def State.icTimeout (s : State) (p : Port) (v : Nat) : State :=
  match findKey (2048 * (portNo p).val + v) s.qeng.icRun with
  | none => s
  | some r => if r.first + 100000 * bitsOf (s.icCfg p v) 15 8 ≤ s.gtc then s.msix p v else s

/-- MSIX_UNMASK (R227). -/
def State.msixUnmask (s : State) (p : Port) (v : Nat) : State :=
  let k := 2048 * (portNo p).val + v
  if s.vectors ≤ v then s
  else
    let s := { s with qeng := { s.qeng with unmasked := insAsc k s.qeng.unmasked } }
    if k ∈ s.qeng.msixPend then
      ({ s with qeng := { s.qeng with msixPend := s.qeng.msixPend.filter (fun x => x ≠ k) } }).sendHost (.msix p v)
    else s

/-! ### The commit point (R224 to R226, R230, R232, R233) -/

/-- Free slots whose command has ended and which drive firmware has released (R221). -/
def State.freeSlots (s : State) : State :=
  ({ s with qeng := { s.qeng with
      slots := s.qeng.slots.filter (fun x => !(x.2.released && (x.2.committed || x.2.fate == CmdFate.discarded))) } }).countSlots

/-- An uncommitted command of an SQ remains. -/
def State.sqBusy (s : State) (p : Port) (q : Nat) : Bool :=
  s.qeng.slots.any (fun x => x.2.port = p && x.2.sqid == q && !x.2.win && !x.2.committed && x.2.fate != .discarded)

/-- A deletion ends when every entry has committed: the SQ is gone and BUSY clears (R232). -/
def State.endDelete (s : State) : State :=
  match s.qeng.deleting with
  | none => s
  | some d =>
    if s.sqBusy d.port d.qid then s
    else
      ({ s with qeng := { s.qeng with
          deleting := none
          sqs := spDel (qkey d.port d.qid) s.qeng.sqs } }).setReg R.QENG_QSTAT 0

/-- COMPLETION_POST (R224): the write of W3 hands the post to QENG. -/
def State.postCpl (s : State) (i : Initiator) (w3 : Nat) : State :=
  let k := iniGet 0 s.qeng.cpl0 i % 1024
  match s.slot? k with
  | none => s.protocol 16 0
  | some x =>
    if x.win then s.protocol 16 0
    else if x.fate ≠ .live then ((s.bump R.QENG_CNT_STALE).putSlot k { x with released := true }).freeSlots
    else if x.posted then s.protocol 16 0
    else
      s.putSlot k { x with
        post := some (BitVec.ofNat 32 (iniGet 0 s.qeng.cpl1 i), BitVec.ofNat 32 (iniGet 0 s.qeng.cpl2 i), w3 % 32768)
        posted := true
        released := true }

/-- A slot's command counts as committed for R222 and R226. -/
def slotDone (x : CmdSlot) : Bool := x.committed || x.fate != .live

/-- R226 lets the slot's completion commit: every command of lower FSEQ of the same SQ and namespace is done. -/
def State.ordReady (s : State) (x : CmdSlot) : Bool :=
  !x.ord || x.fate != .live || s.qeng.slots.all (fun y =>
    !(y.2.port = x.port && y.2.sqid == x.sqid && !y.2.win && y.2.nsid == x.nsid && 0 < (x.fseq + 2 ^ 32 - y.2.fseq) % 2 ^ 32
      && (x.fseq + 2 ^ 32 - y.2.fseq) % 2 ^ 32 < 2 ^ 31) || slotDone y.2)

/-- R222 lets the slot's completion commit: the first half of its pair has committed. -/
def State.fuseReady (s : State) (x : CmdSlot) : Bool :=
  if x.fuse = 2 then
    match x.partner with
    | none => true
    | some j =>
      match s.slot? j with
      | none => true
      | some y => y.committed || y.fate == .discarded || !(y.port = x.port && y.sqid == x.sqid && !y.win && (y.fseq + 1) % 2 ^ 32 == x.fseq)
  else true

/-- COMPLETION_COMMIT of a slot (R225): phase tag and SQHD are fixed, the entry is written and can never be withdrawn. -/
def State.commit (s : State) (k : Nat) : State :=
  match s.slot? k with
  | none => s
  | some x =>
    match x.post, s.sq? x.port x.sqid with
    | some (dw0, dw1, st), some q =>
      if x.committed ∨ x.fate = .discarded ∨ (s.port x.port).cfs ∨ s.ordReady x = false ∨ s.fuseReady x = false then s
      else
        match s.cq? x.port q.cqid with
        | none => s
        | some c =>
          if (c.tail + 1) % c.size = c.head then
            if x.waited then s else ((s.bump R.QENG_CNT_CQFULL).pmuH 0x15 1).putSlot k { x with waited := true }
          else
            let no := (portNo x.port).val
            let dw2 := q.head + 65536 * x.sqid
            let dw3 := x.cid + 65536 * b2n c.phase + 131072 * st
            let s := s.sendHost (.write x.port (c.base + 16 * c.tail) (wordsToBytes [dw0.toNat, dw1.toNat, dw2, dw3]) false)
            let tail := (c.tail + 1) % c.size
            let s := s.putCq x.port q.cqid { c with tail := tail, phase := if tail = 0 then !c.phase else c.phase }
            let s := (s.bump (R.QENG_CNT_CPL no)).pmuH (0x12 + no) 1
            let s := s.charge x.group 0 1
            let s := s.putSlot k { x with committed := true }
            let s := if c.ien then s.icEntry x.port q.cqid c.iv else s
            (s.freeSlots).endDelete
    | _, _ => s

/-- SLOT_RELEASE (R221). -/
def State.slotRelease (s : State) (k : Nat) : State :=
  match s.slot? k with
  | none => s
  | some x => if x.win then s else (s.putSlot k { x with released := true }).freeSlots

/-- Make a live, uncommitted slot ABORTED with status code `sc` (R230). -/
def State.abortSlot (s : State) (k : Nat) (x : CmdSlot) (sc : Nat) : State :=
  let s := s.putSlot k { x with
    fate := .aborted
    post := some (0#32, 0#32, sc)
    waited := false }
  ((s.bump R.QENG_CNT_ABORT).pmuH 0x17 1).notice k x 1

/-- ABORT_LOOKUP (R230): the lower slot that holds the SQID and CID uncommitted. -/
def State.abortLookup (s : State) (i : Initiator) (cid : Nat) : State :=
  let a := iniGet 0 s.qeng.abort0 i
  let p : Port := if bitOf a 16 then .b else .a
  let hit := s.qeng.slots.find? (fun x =>
    x.2.port = p && x.2.sqid == a % 65536 && !x.2.win && x.2.cid == cid && !x.2.committed && x.2.fate == .live)
  let res (s : State) (r : Nat) : State := { s with qeng := { s.qeng with abortRes := iniPut s.qeng.abortRes i r } }
  match hit with
  | none => res s 2
  | some (k, x) =>
    let s := s.abortSlot k x 0x07
    let s := match x.partner with
      | none => s
      | some j =>
        match s.slot? j with
        | none => s
        | some y =>
          if y.port = x.port ∧ y.sqid = x.sqid ∧ y.partner = some k ∧ ((y.fseq + 1) % 2 ^ 32 = x.fseq ∨ (x.fseq + 1) % 2 ^ 32 = y.fseq)
              ∧ y.committed = false ∧ y.fate = .live
          then s.abortSlot j y 0x05 else s
    res s (1 + 4 * k)

/-- Mark every uncommitted slot of an SQ DELETED (R232). -/
def State.deleteSlots (s : State) (p : Port) (q : Nat) : List (Nat × CmdSlot) → State
  | [] => s
  | (k, x) :: r =>
    let s :=
      if x.port = p ∧ x.sqid = q ∧ x.win = false ∧ x.committed = false ∧ x.fate ≠ .discarded then
        (s.putSlot k { x with
          fate := .deleted
          post := some (0#32, 0#32, 0x08)
          waited := false }).notice k x 3
      else s
    State.deleteSlots s p q r

/-- Discard every fetched, uncommitted command of a port; held dispatch records of KIND 0 go with them while HOLD is 1 (R233). -/
def State.discardSlots (s : State) (p : Port) : List (Nat × CmdSlot) → State
  | [] => s
  | (k, x) :: r =>
    let s :=
      if x.port = p ∧ x.win = false ∧ x.committed = false ∧ x.fate ≠ .discarded then
        (s.putSlot k { x with
          fate := .discarded
          post := none }).notice k x 2
      else s
    State.discardSlots s p r

/-- Stop fetch and discard on a port (R233, first paragraph). -/
def State.discardPort (s : State) (p : Port) : State :=
  let s := if s.bit R.QENG_PS_CTRL 0 then
      { s with qeng := { s.qeng with dispQ := s.qeng.dispQ.map (fun l => l.filter (fun r => !(r.kind == 0 && r.port == p && !r.win))) } }
    else s
  let s := s.discardSlots p s.qeng.slots
  let s := s.setPort p { s.port p with reads := [] }
  (s.freeSlots).qengInt (7 + (portNo p).val)

/-- A controller reset's effect on a port: contexts deleted, FETCH, PAUSE and RDY cleared, arbitration state reset (R233). -/
def State.controllerReset (s : State) (p : Port) : State :=
  let no := (portNo p).val
  let s := s.discardPort p
  let s := { s with qeng := { s.qeng with
    sqs := s.qeng.sqs.filter (fun x => x.1 / 65536 != no)
    cqs := s.qeng.cqs.filter (fun x => x.1 / 65536 != no)
    deleting := match s.qeng.deleting with
      | some d => if d.port = p then none else some d
      | none => none
    icRun := s.qeng.icRun.filter (fun x => x.1 / 2048 != no) } }
  let s := if s.qeng.deleting.isNone then s.setBit R.QENG_QSTAT 0 false else s
  let s := ((s.setBit R.QENG_CTRL no false).setBit R.QENG_CTRL (2 + no) false).setBit R.QENG_CTRL (4 + no) false
  let h := s.port p
  s.setPort p { h with
    cc := 0#32
    cfs := h.cfs && s.bit R.SUMP_STATUS 1
    cred := Vector.replicate 4 0
    lastGrp := Vector.replicate 4 none
    lastSq := []
    deficit := []
    pp := false }

/-- The function's MSI-X table is reset: every vector masked, none pending (R233; log 32). -/
def State.msixReset (s : State) (p : Port) : State :=
  let no := (portNo p).val
  { s with qeng := { s.qeng with
      unmasked := s.qeng.unmasked.filter (fun k => k / 2048 != no)
      msixPend := s.qeng.msixPend.filter (fun k => k / 2048 != no) } }

/-! ### Window commands (R385 to R388) -/

/-- A window command ends: STATE, CODE, result. Its service-1 slot waits for CW_FW_DONE. -/
def State.cwEnd (s : State) (st code res : Nat) : State :=
  let m := s.mgmt
  let s := ((s.setFld R.CW_STATUS 2 0 st).setReg R.CW_ERROR (code % 2 ^ 32)).setReg R.CW_RES (res % 2 ^ 32)
  { s with mgmt := { m with
    cwTouch := s.gtc
    cwSlot := none
    cwLate := m.cwLate ++ m.cwSlot.toList } }

/-- The window is BUSY. -/
def State.cwBusy (s : State) : Bool := s.fld R.CW_STATUS 2 0 == 1

/-- The slot of a window command becomes FREE (R386). -/
def State.cwFree (s : State) (k : Nat) : State :=
  match s.slot? k with
  | some x => if x.win then ({ s with qeng := { s.qeng with slots := spDel k s.qeng.slots } }).countSlots else s
  | none => s

/-- CW_DATA. -/
def State.cwData (s : State) : List Byte := wordsToBytes ((List.range 1024).map (fun k => s.rd (R.CW_DATA k)))

/-- The Safe Store address of the command's LBA. -/
def State.cwAddr (s : State) : Nat := 4096 * s.rd64 R.CW_LBA_LO R.CW_LBA_HI

/-- The image that IMG_COMMIT names: COUNT units of 4 KiB from the start of the shared SRAM. -/
def State.cwImage (s : State) : List Byte := Memory.readBytes unlistedByte s.sram 0 (4096 * s.fld R.CW_COUNT 15 0)

/-- A server stops in the middle of a command: how far it got in the Safe Store is free. -/
def State.cwPartial (s : State) : State :=
  let k := (Config.freeWord s.free).toNat
  match s.fld R.CW_STATUS 15 8 with
  | 0x11 => s.useFree.ssProgram s.cwAddr (s.cwData.take (256 * (k % 17)))
  | 0x12 => s.useFree.ssErase s.cwAddr (65536 * (k % (s.fld R.CW_COUNT 15 0 + 1)))
  | 0x21 => s.slotFail (2 * s.fld R.CW_NSID 1 0) s.cwImage
  | _ => s

/-- The command in service ends ABORTED (R387, R388, R496). -/
def State.cwAbortRun (s : State) : State := if s.cwBusy then s.cwPartial.cwEnd 4 0 0 else s

/-- A command that the boot ROM or Wounser serves ends ABORTED (R388, R496). -/
def State.cwAbortServed (s : State) : State := if s.fld R.CW_STATUS 15 8 < 0x80 then s.cwAbortRun else s

/-- SERVICE clears: a BUSY command of drive firmware ends ABORTED, and its slot is released (R388). -/
def State.cwSvcClear (s : State) : State :=
  let k := s.mgmt.cwSlot
  let s :=
    match k with
    | some j =>
      let t := (s.cwEnd 4 0 0).cwFree j
      { t with mgmt := { t.mgmt with cwLate := s.mgmt.cwLate } }
    | none => s
  s.setBit R.CW_STATUS 6 false

/-- The fatal fault on both ports (R233, R394): contexts kept, CSTS.CFS set, nothing further commits. -/
def State.qengFatal (s : State) : State :=
  let s := s.cwAbortRun
  if s.domOn 3 then
    let s := (s.discardPort .a).discardPort .b
    (s.setPort .a { s.port .a with cfs := true }).setPort .b { s.port .b with cfs := true }
  else s

/-! ### Controller and queues (R217) -/

/-- CONTROLLER_ENABLE (R217): CC.EN 0→1 creates the admin queues. -/
def State.controllerEnable (s : State) (p : Port) (cc aqa : BitVec 32) (asq acq : Nat) : State :=
  if s.ccEn p ∨ bitOf cc.toNat 0 = false then s
  else
    let s := s.setPort p { s.port p with
      cc := cc
      aqa := aqa
      asq := asq
      acq := acq }
    let sqx : Sq := { base := asq, size := bitsOf aqa.toNat 11 0 + 1, prio := 0, group := 0, vx := false, cqid := 0 }
    let cqx : Cq := { base := acq, size := bitsOf aqa.toNat 27 16 + 1, ien := true, iv := 0 }
    (s.putSq p 0 sqx).putCq p 0 cqx

/-- The value of HOLDER that stands for an initiator: an application core, or Wounser for the Control Core (R366). -/
def holderOf : Initiator → Option Nat
  | .cc => some 5
  | .app c => some (c.val + 1)
  | _ => none

/-- An initiator holds XQUEUE unit `u`. -/
def State.holdsX (s : State) (i : Initiator) (u : Nat) : Bool := holderOf i == some (s.fld (R.MB_GRANT (13 + u)) 2 0)

/-- An initiator may set VX: it holds an XQUEUE grant (R217, R365, R366). -/
def State.mayVx (s : State) (i : Initiator) : Bool := (List.range 16).any (fun u => s.holdsX i u)

/-- An XQUEUE unit that an initiator holds and that no existing VX queue uses (R366). -/
def State.freeXunit (s : State) (i : Initiator) : Option Nat :=
  (List.range 16).find? (fun u => s.holdsX i u && s.qeng.sqs.all (fun x => x.2.xu != some u))

/-- Set QSTAT.RESULT with BUSY clear. -/
def State.qstat (s : State) (r : Nat) : State := s.setReg R.QENG_QSTAT (2 * r)

/-- QUEUE_CREATE (R217); refusals in the order of the table. -/
def State.queueCreate (s : State) (i : Initiator) : State :=
  if s.bit R.QENG_QSTAT 0 then s
  else
    let q := s.fld R.QENG_QSEL 15 0
    let p : Port := if s.bit R.QENG_QSEL 17 then .b else .a
    let isCq := s.bit R.QENG_QSEL 16
    let base := s.rd64 (R.QENG_QCTX 0) (R.QENG_QCTX 1)
    let c2 := s.rd (R.QENG_QCTX 2)
    let c3 := s.rd (R.QENG_QCTX 3)
    let qsize := bitsOf c2 15 0
    let want := bitOf c2 30 && s.mayVx i
    let xu := if want then s.freeXunit i else none
    let page := 2 ^ (12 + bitsOf (s.port p).cc.toNat 10 7)
    let exists_ := if isCq then (s.cq? p q).isSome else (s.sq? p q).isSome
    if exists_ then s.qstat 1
    else if isCq = false ∧ (s.cq? p (bitsOf c3 15 0)).isNone then s.qstat 4
    else if q = 0 ∨ s.qidRange p ≤ q ∨ qsize = 0 ∨ base % page ≠ 0 ∨ (isCq ∧ s.vectors ≤ bitsOf c3 10 0) then s.qstat 5
    else if isCq = false ∧ want ∧ 16 ≤ (s.qeng.sqs.filter (fun x => x.2.vx)).length then s.qstat 6
    else if isCq then
      (s.putCq p q { base := base, size := qsize + 1, ien := bitOf c2 16, iv := bitsOf c3 10 0 }).qstat 0
    else
      (s.putSq p q { base := base, size := qsize + 1, prio := bitsOf c2 17 16, group := bitsOf c2 29 18, vx := xu.isSome,
                     xu := xu, cqid := bitsOf c3 15 0 }).qstat 0

/-- QUEUE_DELETE (R217, R232). -/
def State.queueDelete (s : State) : State :=
  if s.bit R.QENG_QSTAT 0 then s
  else
    let q := s.fld R.QENG_QSEL 15 0
    let p : Port := if s.bit R.QENG_QSEL 17 then .b else .a
    if s.bit R.QENG_QSEL 16 then
      if (s.cq? p q).isNone then s.qstat 2
      else if (s.sqsOf p).any (fun x => x.2.cqid == q) then s.qstat 3
      else if q = 0 ∨ s.qidRange p ≤ q then s.qstat 5
      else ({ s with qeng := { s.qeng with cqs := spDel (qkey p q) s.qeng.cqs } }).qstat 0
    else
      match s.sq? p q with
      | none => s.qstat 2
      | some x =>
        if q = 0 ∨ s.qidRange p ≤ q then s.qstat 5
        else
          let s := s.putSq p q { x with deleting := true }
          let s := s.deleteSlots p q s.qeng.slots
          let h := s.port p
          -- a read in flight is dropped when it returns: 2^20 is no QID
          let s := (s.setPort p { h with
            reads := h.reads.map (fun r => if r.sqid = q then ⟨1048576, 0, 0, []⟩ else r) }).countSlots
          (({ s with qeng := { s.qeng with deleting := some ⟨p, q⟩ } }).setReg R.QENG_QSTAT 1).endDelete

/-- QUEUE_READ (R217). -/
def State.queueRead (s : State) : State :=
  if s.bit R.QENG_QSTAT 0 then s
  else
    let q := s.fld R.QENG_QSEL 15 0
    let p : Port := if s.bit R.QENG_QSEL 17 then .b else .a
    let load (s : State) (base c2 c3 : Nat) : State :=
      ((((s.setReg (R.QENG_QCTX 0) (base % 2 ^ 32)).setReg (R.QENG_QCTX 1) (base / 2 ^ 32)).setReg (R.QENG_QCTX 2) c2).setReg
        (R.QENG_QCTX 3) c3).qstat 0
    if s.bit R.QENG_QSEL 16 then
      match s.cq? p q with
      | none => s.qstat 2
      | some x => load s x.base (x.size - 1 + 65536 * b2n x.ien) x.iv
    else
      match s.sq? p q with
      | none => s.qstat 2
      | some x => load s x.base (x.size - 1 + 65536 * x.prio + 262144 * x.group + 1073741824 * b2n x.vx) x.cqid

/-- A write of QENG_QCMD (R217). -/
def State.qcmd (s : State) (i : Initiator) (op : Nat) : State :=
  match op with
  | 1 => s.queueCreate i
  | 2 => s.queueDelete
  | 3 => s.queueRead
  | _ => s.protocol 16 0

/-- A write of PAUSE_x (R234). -/
def State.setPause (s : State) (p : Port) (on : Bool) : State :=
  let s := s.setBit R.QENG_CTRL (2 + (portNo p).val) on
  if on then s else s.setPort p { s.port p with pp := false }

/-- FETCH_QUIESCED (R234): no read is outstanding during PAUSE. -/
def State.quiesced (s : State) (p : Port) : State :=
  if s.bit R.QENG_CTRL (2 + (portNo p).val) ∧ (s.port p).reads = [] then s.setPort p { s.port p with pp := true } else s

/-! ### Commands -/

/-- Do something in QENG while its domain is ON. -/
def State.ifQeng (s : State) (f : State → State) : State := if s.domOn 3 then f s else s

/-- CONTROLLER_ENABLE (R217). -/
def execControllerEnable (t : Nat) (p : Port) (cc aqa : BitVec 32) (asq acq : BitVec 64) (s : State) : Res :=
  .next ((s.at t).ifHost p (fun s => s.controllerEnable p cc aqa asq.toNat acq.toNat))

/-- SHUTDOWN_NOTIFICATION (R233): CC.SHN is not a reset. -/
def execShutdownNotification (t : Nat) (p : Port) (shn : BitVec 2) (s : State) : Res :=
  .next ((s.at t).ifHost p (fun s =>
    (s.setPort p { s.port p with cc := BitVec.ofNat 32 (putBits (s.port p).cc.toNat 15 14 shn.toNat) }).qengInt
      (9 + (portNo p).val)))

/-- DOORBELL_WRITE (R218). -/
def execDoorbellWrite (t : Nat) (p : Port) (off nbytes : Nat) (w : BitVec 32) (s : State) : Res :=
  .next ((s.at t).ifHost p (fun s => s.doorbell p off nbytes w.toNat))

/-- QUEUE_CREATE (R217). -/
def execQueueCreate (t : Nat) (i : Initiator) (s : State) : Res :=
  .next ((s.at t).onReg i R.QENG_QCMD (fun s => s.queueCreate i))

/-- QUEUE_DELETE (R232). -/
def execQueueDelete (t : Nat) (i : Initiator) (s : State) : Res :=
  .next ((s.at t).onReg i R.QENG_QCMD (fun s => s.queueDelete))

/-- QUEUE_READ (R217). -/
def execQueueRead (t : Nat) (i : Initiator) (s : State) : Res :=
  .next ((s.at t).onReg i R.QENG_QCMD (fun s => s.queueRead))

/-- FETCH_DECISION (R220). -/
def execFetchDecision (t : Nat) (p : Port) (s : State) : Res :=
  .next ((s.at t).ifHost p (fun s => s.fetchDecision p))

/-- SQ_FETCH_COMPLETE (R223, R228). -/
def execSqFetchComplete (t : Nat) (p : Port) (ok : Bool) (entries : List (List (BitVec 32))) (s : State) : Res :=
  .next ((s.at t).ifQeng (fun s => s.fetchComplete p ok entries))

/-- DISPATCH_RECORD (R223). -/
def execDispatchRecord (t : Nat) (c : Fin 4) (s : State) : Res :=
  .next ((s.at t).ifQeng (fun s => s.dispatch c))

/-- COMPLETION_POST (R224). -/
def execCompletionPost (t : Nat) (i : Initiator) (w3 : BitVec 32) (s : State) : Res :=
  .next ((s.at t).onReg i (R.QENG_CPL_W 3) (fun s => s.postCpl i w3.toNat))

/-- COMPLETION_COMMIT (R225). -/
def execCompletionCommit (t : Nat) (slot : Nat) (s : State) : Res :=
  .next ((s.at t).ifQeng (fun s => s.commit slot))

/-- INTERRUPT_COALESCING_TIMEOUT (R227). -/
def execInterruptCoalescingTimeout (t : Nat) (p : Port) (v : Nat) (s : State) : Res :=
  .next ((s.at t).ifQeng (fun s => s.icTimeout p v))

/-- MSIX_UNMASK (R227). -/
def execMsixUnmask (t : Nat) (p : Port) (v : Nat) (s : State) : Res :=
  .next ((s.at t).ifHost p (fun s => s.msixUnmask p v))

/-- ABORT_LOOKUP (R230). -/
def execAbortLookup (t : Nat) (i : Initiator) (w : BitVec 32) (s : State) : Res :=
  .next ((s.at t).onReg i R.QENG_ABORT1 (fun s => s.abortLookup i (w.toNat % 65536)))

/-- SLOT_RELEASE (R221). -/
def execSlotRelease (t : Nat) (i : Initiator) (w : BitVec 32) (s : State) : Res :=
  .next ((s.at t).onReg i R.QENG_SLOT_REL (fun s => s.slotRelease (w.toNat % 1024)))

/-- PAUSE (R234). -/
def execPause (t : Nat) (i : Initiator) (p : Port) (on : Bool) (s : State) : Res :=
  .next ((s.at t).onReg i R.QENG_CTRL (fun s => s.setPause p on))

/-- FETCH_QUIESCED (R234). -/
def execFetchQuiesced (t : Nat) (p : Port) (s : State) : Res :=
  .next ((s.at t).ifQeng (fun s => s.quiesced p))

/-- HOLD (R235). -/
def execHold (t : Nat) (i : Initiator) (on : Bool) (s : State) : Res :=
  .next ((s.at t).onReg i R.QENG_PS_CTRL (fun s => s.setBit R.QENG_PS_CTRL 0 on))

/-- QENG_DBERR_POP (R218): a read of the FIFO's register, 0 while QENG is not ON (R433). -/
def execQengDberrPop (t : Nat) (_i : Initiator) (s : State) : Res :=
  .next (if s.domOn 3 then (s.at t).dberrPop else { s.at t with lastRead := 0#32 })

end Sys2Proof.Machine
end

