-- ==== Sys2Proof/Machine/Scheduler.lean ====
section
/-! DEFINITION. The media schedulers and the media DMA (R237 to R248, R256 to R263, R39, R91, R339): descriptors, selection, the
events the scheduler loads, retries, completions, cancels; the blocks the media DMA builds and checks. -/

namespace Sys2Proof.Machine

open Sys2Proof

/-- Change the scheduler of section n. -/
def State.onMsch (s : State) (n : Fin 4) (f : Msch → Msch) : State :=
  s.setSec n { s.sec n with msch := f (s.sec n).msch }

/-- The scheduler of section n. -/
def State.msch (s : State) (n : Fin 4) : Msch := (s.sec n).msch

/-- PENDING, ACTIVE, POSWAIT and PAUSED of MSCH_STATUS follow the scheduler (R263); its idle time starts when the last
operation ends, and a waiting verify operation does not end it (R352). -/
def State.mschSync (s : State) (n : Fin 4) : State :=
  let m := s.msch n
  let count := m.pending.length + m.run.length + b2n m.pos.isSome
  let s := s.setFld (R.MSCH_STATUS n) 8 0 count
  let s := s.setBit (R.MSCH_STATUS n) 9 (m.run ≠ [] || m.pos.isSome)
  let s := s.setBit (R.MSCH_STATUS n) 10 m.pos.isSome
  let s := s.setBit (R.MSCH_STATUS n) 12 (s.bit (R.MSCH_CTRL n) 1)
  let idle := m.pending.all (fun o => o.bv) && m.run.isEmpty && !m.pos.isSome
  s.onMsch n (fun m => { m with idle := idle, idleAt := if idle && !m.idle then s.gtc else m.idleAt })

/-- The fault source of scheduler n (R240). -/
def srcMsch (n : Nat) : Nat := 36 + n

/-! ### Completion records (R248) -/

/-- Index within the operation of the first failed sector, and how many failed. -/
def failedOf (secs : List SecRun) : Option Nat × Nat :=
  let bad := (List.range secs.length).filter (fun k => ((secs.getD k {}).final.isSome) && (secs.getD k {}).failed)
  (bad.head?, bad.length)

/-- Queue the completion record of an operation. -/
def State.opRecord (s : State) (n : Fin 4) (op : Mop) (status start : Nat) (retried : Bool) (secs : List SecRun) : State :=
  let f := failedOf secs
  let sec := secs.getD (f.1.getD 0) {}
  let bad := f.1.isSome
  let words := [op.optag + 65536 * status + 1048576 * b2n retried,
    (if bad then (op.first + f.1.getD 0) % 4096 else 0) + 65536 * (f.2 % 4096),
    if bad then sec.final.getD 0 else 0, if bad then sec.chk + 256 * sec.evst else 0,
    start % 2 ^ 32, start / 2 ^ 32, s.gtc % 2 ^ 32, s.gtc / 2 ^ 32]
  let s := (s.bump (R.MSCH_CNT_OPS n)).pmuH (secEv n 0x30) 1
  if op.bv then
    -- a verify operation of the engine has no record; its time goes to meter 6 (R344, R352)
    (s.onMsch n (fun m => { m with bvPending := false })).charge (s.fld (R.BV_GROUP n) 11 0) 6 (s.gtc - start)
  else s.onMsch n (fun m => { m with recs := m.recs ++ [⟨words, status != 0⟩] })

/-- OP_COMPLETE: the oldest record is written when its ring has room (R248). -/
def State.opComplete (s : State) (n : Fin 4) : State :=
  match (s.msch n).recs with
  | [] => s
  | r :: rest =>
    let prod := s.rd (R.MSCH_CQ_PROD n)
    if ringFull prod (s.rd (R.MSCH_CQ_CONS n)) (s.rd (R.MSCH_CQ_SIZE n)) then s
    else
      let s := s.onMsch n (fun m => { m with recs := rest })
      let s := s.ringWrite (R.MSCH_CQ_BASE_LO n) (R.MSCH_CQ_BASE_HI n) (R.MSCH_CQ_SIZE n) (R.MSCH_CQ_PROD n)
        (wordsToBytes r.words) 32
      let s := (s.setBit (R.MSCH_INT n) 0 true).irq (appTarget (s.fld (R.MSCH_CTRL n) 3 2)) (.unit (srcMsch n))
      if r.err then s.setBit (R.MSCH_INT n) 1 true else s

/-! ### Descriptors (R239, R240, R242) -/

/-- The zone table that drive firmware loaded for head h (R86, R242; log 34: a read error gives none). -/
def State.schedTable (s : State) (n : Fin 4) (h : Nat) : State × Option ZoneTable :=
  let a := s.rd64 (R.MSCH_ZT_BASE_LO n) (R.MSCH_ZT_BASE_HI n) + 8192 * h
  let hd := s.busRead 14 a 16
  let cnt := min 256 (ofBytes ((hd.bytes.drop 6).take 2))
  let zs := hd.st.busRead 14 (a + 16) (16 * cnt)
  if hd.err ∨ zs.err then (zs.st, none)
  else (zs.st, some ⟨0, (List.range cnt).map (fun k => parseZone ((zs.bytes.drop (16 * k)).take 16))⟩)

/-- The zone of a track of head h, if it lies in one. -/
def State.schedZone (s : State) (n : Fin 4) (h track : Nat) : State × Option Zone :=
  let t := s.schedTable n h
  (t.1, t.2.bind (fun t => t.zoneOf track))

/-- Read the fields of a descriptor (R239). -/
def parseMop (b : List Byte) (seq now : Nat) (z : Zone) : Mop :=
  let w (k : Nat) : Nat := wordAt b (4 * k)
  { seq := seq, op := bitsOf (w 0) 3 0, head := bitsOf (w 0) 6 4, ord := bitOf (w 0) 7, urg := bitOf (w 0) 8
    keep := bitOf (w 0) 9, hmdLen := 8 * bitsOf (w 0) 11 10, optag := bitsOf (w 0) 31 16, track := bitsOf (w 1) 23 0
    first := bitsOf (w 2) 11 0, count := bitsOf (w 2) 27 16, lba := w 3 + 2 ^ 32 * bitsOf (w 4) 3 0, nsid := w 5, ktag := w 6
    group := bitsOf (w 7) 11 0, slot := bitsOf (w 7) 21 12, data := dwordAt b 32, side := dwordAt b 40, wstamp := dwordAt b 48
    takenAt := now, bv := false, zone := z }

/-- A reserved encoding or field of a descriptor is set, or COUNT is 0, or an address is misaligned (R239, R240; log 35). -/
def mopBad (b : List Byte) : Bool :=
  let w (k : Nat) : Nat := wordAt b (4 * k)
  let op := bitsOf (w 0) 3 0
  !(1 ≤ op && op ≤ 3) || bitsOf (w 0) 15 12 != 0 || bitsOf (w 0) 11 10 == 3 || bitsOf (w 1) 31 24 != 0
    || bitsOf (w 2) 15 12 != 0 || bitsOf (w 2) 31 28 != 0 || bitsOf (w 4) 31 4 != 0 || bitsOf (w 7) 31 22 != 0
    || w 14 != 0 || w 15 != 0 || bitsOf (w 2) 27 16 == 0 || dwordAt b 32 % 4096 != 0 || dwordAt b 40 % 32 != 0

/-- A zone that holds no sector: for a descriptor refused before its zone is known. -/
def noZone : Zone := ⟨0, 0, 16, 0, 0, 0⟩

/-- OP_TAKE (R240): the next descriptor is taken while fewer than 256 operations are pending. None is taken at power loss (R261),
and a track of a zone that place() refuses lies in none (R84; log 34). -/
def State.opTake (s : State) (n : Fin 4) : State :=
  let m := s.msch n
  let cons := s.rd (R.MSCH_SQ_CONS n)
  let size := s.rd (R.MSCH_SQ_SIZE n)
  if s.domOn 7 = false ∨ s.bit (R.MSCH_CTRL n) 0 = false ∨ s.maon.powerLossAt.isSome ∨ ringEmpty (s.rd (R.MSCH_SQ_PROD n) % size) (cons % size)
      ∨ 256 ≤ m.pending.length + m.run.length + b2n m.pos.isSome then s
  else
    let r := s.busRead 14 (s.rd64 (R.MSCH_SQ_BASE_LO n) (R.MSCH_SQ_BASE_HI n) + 64 * (cons % size)) 64
    let s := (r.st.setReg (R.MSCH_SQ_CONS n) (ringNext cons size)).onMsch n (fun m => { m with seq := m.seq + 1 })
    let probe := parseMop r.bytes m.seq s.gtc noZone
    let refuse (s : State) : State := (s.protocol (srcMsch n) 0).opRecord n probe 5 s.gtc false []
    if r.err ∨ mopBad r.bytes then refuse s
    else
      let z := s.schedZone n probe.head probe.track
      match z.2 with
      | none => refuse z.1
      | some zone =>
        if zone.s < probe.first + probe.count ∨ (place zone.n (probe.first + probe.count)).isNone then refuse z.1
        else (z.1.onMsch n (fun m => { m with pending := m.pending ++ [{ probe with zone := zone }] })).mschSync n

/-! ### Events of a sector (R82 to R85, R242) -/

/-- The fragments of sector `k` (within the operation). -/
def Mop.frags (o : Mop) (k : Nat) : List Placed :=
  match place o.zone.n (o.first + k + 1) with
  | some l => l.filter (fun f => f.s == o.first + k)
  | none => []

/-- Raw angle of bit position `p` of a fragment's region (R82, R85). -/
def Mop.angOf (o : Mop) (f : Placed) (p : Nat) : Nat := bitAngle o.zone.n (o.zone.wedge f.w o.track) p

/-- Angle of the operation's first fragment. -/
def Mop.firstAngle (o : Mop) : Nat :=
  match o.frags 0 with
  | f :: _ => o.angOf f f.p
  | [] => 0

/-- The descriptor words of a fragment, without the SID (R109, R242). -/
def Mop.fragP0 (f : Placed) (last : Bool) : Nat := f.m + 128 * b2n f.cont + 256 * b2n last
def Mop.fragP1 (o : Mop) (k : Nat) : Nat := (o.lba + k) % 65536 + (if o.op = 2 then 0 else 4194304 * b2n o.keep)

/-- The events of one fragment: RD_ON or WR_ON at p and FMARK at p + 48. -/
def Mop.fragEvents (o : Mop) (k : Nat) (f : Placed) (first last : Bool) : List LoadEv :=
  [⟨some k, if o.op = 2 then tyWRON else tyRDON, o.angOf f f.p, Mop.fragP0 f last, o.fragP1 k, first⟩,
   ⟨some k, tyFMARK, o.angOf f (f.p + 48), 0, 0, false⟩]

/-- The events of one sector. -/
def Mop.sectorEvents (o : Mop) (k : Nat) : List LoadEv :=
  match o.frags k with
  | [f] => o.fragEvents k f true true
  | f :: g :: _ => o.fragEvents k f true false ++ o.fragEvents k g false true
  | [] => []

/-- Angle of the end of a sector's last end pad (R83). -/
def Mop.endAngle (o : Mop) (k : Nat) : Nat :=
  match (o.frags k).getLast? with
  | some f => o.angOf f (f.p + 128 + 512 * f.m)
  | none => 0

/-- The assist code of a head (R242). -/
def State.assistCode (s : State) (n : Fin 4) (h : Nat) : Nat := s.rd (R.MSCH_ASSIST n (h / 4)) / 2 ^ (8 * (h % 4)) % 256

/-- The events of one pass over sectors `ks`, in order (R242): a write carries its two ASSIST events. -/
def State.passEvents (s : State) (n : Fin 4) (o : Mop) (ks : List Nat) : List LoadEv :=
  let body := ks.flatMap o.sectorEvents
  match o.op, body, ks.getLast? with
  | 2, e :: _, some k =>
    ⟨none, tyASSIST, e.ang, s.assistCode n o.head, 0, true⟩ :: body ++ [⟨none, tyASSIST, o.endAngle k, 0, 0, false⟩]
  | _, _, _ => body

/-! ### Selection (R245, R246, R257) -/

/-- The head and track the actuator follows: its generator has arrived and its heads are loaded. -/
def State.present (s : State) (n : Fin 4) : Option (Nat × Nat) :=
  if s.parked n ∨ s.retracting n ∨ s.bit (R.ACT_STATUS n) 0 then none else some (s.head n, s.tgtTrack n)

/-- A LOOP or CHAN grant of the section is held, RESTORING included (R257, R369). -/
def State.granted (s : State) (n : Fin 4) : Bool :=
  s.fld (R.MB_GRANT n) 2 0 != 0 || s.fld (R.MB_GRANT (4 + n)) 2 0 != 0

/-- bucket() of R246. -/
def seekBucket (d : Nat) : Nat := if d = 0 then 0 else 1 + Nat.log2 d

/-- cost() of R246. -/
def State.opCost (s : State) (n : Fin 4) (o : Mop) (ang : Nat) : Nat :=
  let nspr := s.rd (R.ATB_NS_PER_REV n)
  let here := s.present n
  let curTrack := (here.map (fun p => p.2)).getD 0
  let d := if o.track < curTrack then curTrack - o.track else o.track - curTrack
  let t := if here.map (fun p => p.2) = some o.track then 0 else s.fld (R.MSCH_SEEK n (seekBucket d)) 15 0 * 1000
  let t := if here.map (fun p => p.1) = some o.head then t else t + s.fld (R.MSCH_TIME n) 15 0 * 1000
  let ready := t * REV_COUNTS / nspr + 4 * s.rd (R.ATB_LEAD_CNT n)
  let f := (o.firstAngle + REV_COUNTS - ang % REV_COUNTS) % REV_COUNTS
  let f := if f < ready then f + (ready - f + REV_COUNTS - 1) / REV_COUNTS * REV_COUNTS else f
  countsToNs f nspr

/-- The operation of least key; ties to the one taken earlier. -/
def leastOp (f : Mop → Nat) : List Mop → Option Mop
  | [] => none
  | o :: r =>
    match leastOp f r with
    | none => some o
    | some p => if f p < f o then some p else some o

/-- Every operation the scheduler holds. -/
def Msch.all (m : Msch) : List Mop :=
  m.pending ++ m.run.map (fun r => r.op) ++ (match m.pos with
    | some p => [p.1.op]
    | none => [])

/-- The operation that R246 and R352 pick, at angle `ang`. -/
def State.pickOp (s : State) (n : Fin 4) (ang : Nat) : Option Mop :=
  let m := s.msch n
  let age := s.fld (R.MSCH_CFG n) 31 24 * 10000000
  let host := m.pending.filter (fun o => !o.bv && !(o.ord && m.all.any (fun p => p.ord && p.nsid == o.nsid && p.seq < o.seq)))
  match leastOp (fun o => o.seq) (host.filter (fun o => age != 0 && o.takenAt + age < s.gtc)) with
  | some o => some o
  | none =>
    match leastOp (fun o => s.opCost n o ang) (host.filter (fun o => o.urg)) with
    | some o => some o
    | none =>
      match leastOp (fun o => s.opCost n o ang) host with
      | some o => some o
      | none =>
        if m.pending.all (fun o => o.bv) ∧ m.run = [] ∧ m.idle ∧ m.idleAt + s.fld (R.BV_CFG n) 31 24 * 1000000 ≤ s.gtc
        then m.pending.head? else none

/-- OP_SELECT (R245, R246, R257): the next operation is picked once the last event of the current one has been loaded; the
actuator is not moved while a chosen operation may still retry (log 36). -/
def State.opSelect (s : State) (n : Fin 4) (ang : Nat) : State :=
  let m := s.msch n
  if s.domOn 7 = false ∨ s.bit (R.MSCH_CTRL n) 0 = false ∨ s.bit (R.MSCH_CTRL n) 1 ∨ m.cur.isSome ∨ m.pos.isSome ∨ s.granted n
      ∨ s.maon.powerLossAt.isSome then s
  else
    match s.pickOp n ang with
    | none => s
    | some o =>
      let need := s.present n ≠ some (o.head, o.track)
      if need ∧ m.run ≠ [] then s
      else
        let r : OpRun := { op := o, start := s.gtc, todo := s.passEvents n o (List.range o.count), secs := List.replicate o.count {} }
        let s := s.onMsch n (fun m => { m with pending := m.pending.filter (fun p => p.seq ≠ o.seq) })
        let s :=
          if need then
            (s.onMsch n (fun m => { m with
              pos := some (r, s.gtc)
              settled := false
              reqs := m.reqs ++ [⟨o.head, o.track, s.gtc⟩] })).pmuH (secEv n 0x31) 1
          else s.onMsch n (fun m => { m with
            run := m.run ++ [r]
            cur := some o.seq })
        s.mschSync n

/-- The SETTLED notice lets the waiting operation load its events (R245). -/
def State.schedSettle (s : State) (n : Fin 4) : State :=
  let m := s.msch n
  match m.pos with
  | some (r, _) =>
    if m.settled then
      (s.onMsch n (fun m => { m with
        pos := none
        settled := false
        cur := some r.op.seq
        run := m.run ++ [r] })).mschSync n
    else s
  | none => s

/-- POSITIONING_TIMEOUT: no SETTLED within PTMO (R245). -/
def State.posTimeout (s : State) (n : Fin 4) : State :=
  match (s.msch n).pos with
  | some (r, t0) =>
    if (s.msch n).settled = false ∧ t0 + 1000000 * s.fld (R.MSCH_TIME n) 31 16 ≤ s.gtc then
      let s := s.onMsch n (fun m => { m with pos := none })
      ((s.bump (R.MSCH_CNT_POSFAIL n)).opRecord n r.op 4 r.start false []).mschSync n
    else s
  | none => s

/-! ### Sectors (R241, R247) -/

/-- Replace a chosen operation. -/
def State.setRun (s : State) (n : Fin 4) (r : OpRun) : State :=
  s.onMsch n (fun m => { m with run := m.run.map (fun x => if x.op.seq = r.op.seq then r else x) })

/-- Replace sector `k` of a chosen operation. -/
def OpRun.setSec (r : OpRun) (k : Nat) (x : SecRun) : OpRun := { r with secs := r.secs.set k x }

/-- A finding of the verify engine: a full ring loses it (R353). -/
def State.bvFinding (s : State) (n : Fin 4) (o : Mop) (k res chk : Nat) : State :=
  let prod := s.rd (R.BV_FND_PROD n)
  let s := s.bump (R.BV_CNT_BAD n)
  if ringFull prod (s.rd (R.BV_FND_CONS n)) (s.rd (R.BV_FND_SIZE n)) then s.bump (R.BV_CNT_LOST n)
  else
    s.ringWrite (R.BV_FND_BASE_LO n) (R.BV_FND_BASE_HI n) (R.BV_FND_SIZE n) (R.BV_FND_PROD n)
      (wordsToBytes [o.track + 16777216 * (8 * n.val + o.head), (o.first + k) % 4096 + 65536 * (res % 16) + 1048576 * (chk % 4),
        s.gtc % 2 ^ 32, s.gtc / 2 ^ 32]) 16

/-- The check of a block: 0 none, 1 CRC-32C, 2 LBA or KTAG, 3 FMT (R39, R91, R339; log 37: the first that fails, in this
order). The verify engine checks no LBA and no KTAG (R352). -/
def blockCheck (o : Mop) (k : Nat) (b : List Byte) : Nat :=
  if blockCrcOk b = false then 1
  else if o.bv = false ∧ (dwordAt b 4112 ≠ (o.lba + k) % 2 ^ 36 ∨ wordAt b 4128 ≠ o.ktag) then 2
  else if (b.getD 4140 0#8) ≠ 0x01#8 then 3
  else 0

/-- The side entry of a read or verified sector; without a block HMD and CTAG are free values (R241; log 38). -/
def State.sideRead (s : State) (o : Mop) (k word chk evst tries : Nat) (block : Option (List Byte)) : State :=
  let (s, hmd, ctag) := match block with
    | some b => (s, (b.drop 4096).take 16, (b.drop 4132).take 4)
    | none => ({ s with free := s.free + 20 }, freeBytes s.free 16, freeBytes (s.free + 16) 4)
  s.busWrite (o.side + 32 * k)
    (hmd ++ ctag ++ toBytes 4 0 ++ toBytes 4 word ++ toBytes 1 chk ++ toBytes 1 evst ++ toBytes 1 tries ++ [0#8])

/-- The side entry of a written sector: RES, CHK, EVST and TRIES (R241). -/
def State.sideWrite (s : State) (o : Mop) (k word evst tries : Nat) : State :=
  s.busWrite (o.side + 32 * k + 24) (toBytes 4 word ++ [0#8] ++ toBytes 1 evst ++ toBytes 1 tries)

/-- RES is GOOD or GOOD_HOLD. -/
def resOk (word : Nat) : Bool := word % 16 == resGOOD || word % 16 == resGOODHOLD

/-- A sector reaches its final outcome: data, side entry, counters, meter 4 (R241, R344, R353). -/
def State.finalSector (s : State) (n : Fin 4) (o : Mop) (k : Nat) (x : SecRun) (word : Nat) : State :=
  if o.op = 2 then
    let s := s.sideWrite o k word x.evst (min 16 x.tries)
    let s := if x.tries = 0 then s else s.bump (R.MSCH_CNT_WR n)
    if word % 16 = resWRITTEN then s.charge o.group 4 4096 else s
  else
    let s := if x.tries = 0 then s else s.bump (R.MSCH_CNT_RD n)
    let failed := !resOk word || x.chk != 0
    if o.bv then
      let s := s.bump (R.BV_CNT_SECT n)
      if failed then s.bvFinding n o k word x.chk else s
    else
      let s := match x.block with
        | some b => if o.op = 1 ∧ failed = false then s.busWrite (o.data + 4096 * k) (b.take 4096) else s
        | none => s
      s.sideRead o k word x.chk x.evst (min 16 x.tries) x.block

/-- Events of sector `k` that have no record. -/
def OpRun.waits (r : OpRun) (k : Nat) : Bool :=
  r.out.any (fun e => e.sec == some k) || r.todo.any (fun e => e.sec == some k)

/-- Judge sector `k` of a chosen operation: once every event has its record, and the result where the gates all opened, the
attempt ends; a failed one is repeated within the limits of R247. -/
def State.judge (s : State) (n : Fin 4) (r : OpRun) (k : Nat) : State × OpRun :=
  let x := r.secs.getD k {}
  if x.final.isSome ∨ x.again ∨ x.sid.isNone ∨ r.waits k ∨ (x.bad = [] ∧ x.word.isNone) then (s, r)
  else
    let write := r.op.op == 2
    let word := x.word.getD (if write then resWRCUT else resNOTREAD)
    let sid := x.sid.getD 0
    let s := s.onMsch n (fun m => { m with wq := m.wq.filter (fun q => q ≠ sid) })
    let s := if write then s.onChan n (fun c => { c with
        down := c.down.filter (fun b => b.sid ≠ sid)
        wbuf := c.wbuf.filter (fun b => b.sid ≠ sid) }) else s
    let retry :=
      if write then
        word % 16 != resWRITTEN && (x.bad.any (fun b => [csINHIBITED, csSKIPPED, csCONFLICT, csLINK].contains b)
          || word % 16 == resWRCUT || word % 16 == resUNDERRUN)
      else
        (!resOk word) && (x.bad.any (fun b => [csHELD, csSKIPPED, csCONFLICT].contains b)
          || word % 16 == resNOTREAD || word % 16 == resNOSLOT)
    let limit := if write then s.fld (R.MSCH_CFG n) 19 16 else s.fld (R.MSCH_CFG n) 13 12
    if retry ∧ x.tries ≤ limit ∧ r.cancelled = false then
      let s := (s.bump (if write then R.MSCH_CNT_RTRY_WR n else R.MSCH_CNT_RTRY_RD n)).pmuH (secEv n 0x32) 1
      (s, { (r.setSec k { x with
          again := true
          sid := none }) with retried := true })
    else
      let failed := if write then word % 16 != resWRITTEN else !resOk word || x.chk != 0
      let x := { x with
        final := some word
        failed := failed
        sid := none }
      (s.finalSector n r.op k x word, r.setSec k { x with block := none })

/-- Every sector of an operation that has not ended gets the outcome of one that no event reached (R241, R259). -/
def State.finishSecs (s : State) (n : Fin 4) (o : Mop) : Nat → List SecRun → State × List SecRun
  | _, [] => (s, [])
  | k, x :: r =>
    if x.final.isSome then
      let q := State.finishSecs s n o (k + 1) r
      (q.1, x :: q.2)
    else
      let word := x.word.getD (if o.op = 2 then resWRCUT else resNOTREAD)
      let x := { x with
        final := some word
        failed := true }
      let q := State.finishSecs (s.finalSector n o k x word) n o (k + 1) r
      (q.1, x :: q.2)

/-- After something has happened to a chosen operation: a pass of retries starts, or the operation completes (R247, R248). -/
def State.opProgress (s : State) (n : Fin 4) (r : OpRun) : State :=
  let s := s.setRun n r
  if r.todo ≠ [] ∨ r.out ≠ [] then s
  else
    let s := s.onMsch n (fun m => { m with cur := if m.cur = some r.op.seq then none else m.cur })
    let again := (List.range r.secs.length).filter (fun k => (r.secs.getD k {}).again)
    let busy := r.secs.any (fun x => x.sid.isSome)
    if busy then s
    else if r.cancelled then
      let q := s.finishSecs n r.op 0 r.secs
      let s := q.1.onMsch n (fun m => { m with run := m.run.filter (fun x => x.op.seq ≠ r.op.seq) })
      (s.opRecord n r.op 2 r.start r.retried q.2).mschSync n
    else if again ≠ [] then
      s.setRun n { r with
        todo := s.passEvents n r.op again
        lastExt := none
        secs := r.secs.map (fun x => { x with again := false }) }
    else if r.secs.all (fun x => x.final.isSome) then
      let s := s.onMsch n (fun m => { m with run := m.run.filter (fun x => x.op.seq ≠ r.op.seq) })
      (s.opRecord n r.op (if r.secs.any (fun x => x.failed) then 1 else 0) r.start r.retried r.secs).mschSync n
    else s

/-! ### Loading (R243, R244) -/

/-- A write sector's RCV flag (R241, R247). -/
def State.rcvSet (s : State) (o : Mop) (k : Nat) : State × Bool :=
  let r := s.busRead 14 (o.side + 32 * k + 31) 1
  (r.st, bitOf (r.bytes.getD 0 0#8).toNat 0)

/-- Load one event through the staging words of core CORE (R54, R243, R244). -/
def State.loadEvent (s : State) (n : Fin 4) (r : OpRun) (e : LoadEv) (rest : List LoadEv) (ext : Nat) : State :=
  let m := s.msch n
  let core : Initiator := .app ⟨s.fld (R.MSCH_CTRL n) 3 2 % 4, Nat.mod_lt _ (by decide)⟩
  let fresh := e.first && e.sec.isSome
  let k := e.sec.getD 0
  let x := r.secs.getD k {}
  let sid := if fresh then (m.sid + 1) % 65536 else x.sid.getD 0
  let tag := 32768 + (m.tag + 1) % 16384
  let s := s.onMsch n (fun m => { m with
    tag := m.tag + 1
    sid := if fresh then m.sid + 1 else m.sid
    wq := if fresh && r.op.op == 2 then m.wq ++ [sid] else m.wq
    sids := if fresh then setKey m.sids sid (r.op, k) else m.sids })
  let r := if fresh then r.setSec k { x with
      sid := some sid
      tries := x.tries + 1
      bad := []
      word := none
      chk := 0
      block := none } else r
  let w0 := BitVec.ofNat 32 e.ang
  let w1 := BitVec.ofNat 32 (ext / REV_COUNTS % 256 + 256 * e.typ + 4096 + 65536 * tag)
  let w2 := BitVec.ofNat 32 (if e.sec.isSome then e.p0 + 65536 * sid else e.p0)
  let i := iniIdx core
  let s := ((s.stageWord n i 0 w0).stageWord n i 1 w1).stageWord n i 2 w2
  let s := s.eventCommit n core (BitVec.ofNat 32 e.p1)
  let r := { r with
    todo := rest
    out := r.out ++ [⟨tag, e.sec, e.typ, s.pass.ups⟩]
    lastExt := some ext }
  let s := (s.setBit (R.MSCH_STATUS n) 11 false).setRun n r
  if rest = [] then s.onMsch n (fun m => { m with cur := if m.cur = some r.op.seq then none else m.cur }) else s

/-- A sector of a write without RCV is not written: final, UNDERRUN (R247). -/
def State.noRcv (s : State) (n : Fin 4) (r : OpRun) (k : Nat) : State :=
  let x := r.secs.getD k {}
  let x := { x with
    tries := x.tries + 1
    final := some resUNDERRUN
    failed := true
    sid := none }
  let s := s.finalSector n r.op k x resUNDERRUN
  s.opProgress n { (r.setSec k x) with todo := r.todo.filter (fun e => e.sec ≠ some k) }

/-- The first event of an operation's list, judged at the present angle: loaded within the window of R244, dropped when the
rest of its fragment has missed it (log 36), left otherwise. -/
def State.loadFrom (s : State) (n : Fin 4) (r : OpRun) : Option State :=
  match r.todo with
  | [] => none
  | e :: rest =>
    let now := s.ext n
    let lead := 4 * s.rd (R.ATB_LEAD_CNT n)
    let ahead := s.fld (R.MSCH_CFG n) 2 0 * WEDGE_COUNTS
    let d0 := (e.ang + REV_COUNTS - s.angle n) % REV_COUNTS
    if e.first then
      if lead ≤ d0 ∧ d0 ≤ ahead then
        match e.sec with
        | some k =>
          if r.op.op = 2 then
            let q := s.rcvSet r.op k
            some (if q.2 then q.1.loadEvent n r e rest (now + d0) else q.1.noRcv n r k)
          else some (s.loadEvent n r e rest (now + d0))
        | none => some (s.loadEvent n r e rest (now + d0))
      else none
    else
      match r.lastExt with
      | none => some (s.opProgress n { r with todo := rest })
      | some l =>
        let ext := l + (e.ang + REV_COUNTS - l % REV_COUNTS) % REV_COUNTS
        if ext < now + lead then
          let r := { r with todo := rest }
          match e.sec with
          | some k =>
            let x := r.secs.getD k {}
            let r := if e.typ = tyFMARK then r else r.setSec k { x with bad := x.bad ++ [csSKIPPED] }
            let j := s.judge n r k
            some (j.1.opProgress n j.2)
          | none => some (s.opProgress n r)
        else if ext ≤ now + ahead then some (s.loadEvent n r e rest ext)
        else none

/-- The first chosen operation that can load an event. -/
def State.loadAny (s : State) (n : Fin 4) : List OpRun → State
  | [] => s
  | r :: l =>
    match s.loadFrom n r with
    | some s' => s'
    | none => State.loadAny s n l

/-- SCHEDULER_EVENT_LOAD: the next event enters its window at raw angle `ang` (R244, R256). -/
def State.schedLoad (s : State) (n : Fin 4) (ang : Nat) : State :=
  let s := s.turnTo n ang
  let free := 256 - (s.sec n).atb.data.length
  if s.domOn 7 = false ∨ s.domOn (16 + n.val) = false ∨ s.bit (R.MSCH_CTRL n) 0 = false ∨ s.bit (R.MSCH_CTRL n) 1 ∨ s.linkUp = false
      ∨ free ≤ s.fld (R.MSCH_CFG n) 9 4 ∨ s.maon.powerLossAt.isSome then s
  else
    let s := s.schedSettle n
    s.loadAny n (s.msch n).run

/-! ### Records and results (R243, R247, R258) -/

/-- The chosen operation that loaded a TAG. -/
def Msch.runOfTag (m : Msch) (tag : Nat) : Option OpRun := m.run.find? (fun r => r.out.any (fun e => e.tag == tag))

/-- The record of one of its TAGs, or what stands in for it (R258). -/
def State.eventDone (s : State) (n : Fin 4) (tag status : Nat) : State :=
  match (s.msch n).runOfTag tag with
  | none => s
  | some r =>
    match r.out.find? (fun e => e.tag == tag) with
    | none => s
    | some e =>
      let r := { r with out := r.out.filter (fun x => x.tag ≠ tag) }
      match e.sec with
      | none => s.opProgress n r
      | some k =>
        let x := r.secs.getD k {}
        let gate := e.typ == tyRDON || e.typ == tyWRON
        let x := if gate then { x with
            evst := status
            bad := if status = csDONE then x.bad else x.bad ++ [status] } else x
        let j := s.judge n (r.setSec k x) k
        j.1.opProgress n j.2

/-- SCHEDULER_RECORD (R243). -/
def State.schedRecord (s : State) (n : Fin 4) : State :=
  match (s.msch n).notes with
  | [] => s
  | r :: rest =>
    (s.onMsch n (fun m => { m with notes := rest })).eventDone n (r.w0.toNat % 65536) (bitsOf r.w0.toNat 19 16)

/-- The chosen operation and sector whose attempt has a SID. -/
def Msch.runOfSid (m : Msch) (sid : Nat) : Option (OpRun × Nat) :=
  (m.run.filterMap (fun r =>
    ((List.range r.secs.length).find? (fun k => (r.secs.getD k {}).sid == some sid)).map (fun k => (r, k)))).head?

/-- MEDIA_DMA_READ_BLOCK: the next sector result, with its block where there is one, reaches the media DMA, which checks the
block (R39, R91, R116, R339). A recovered sector of an operation that has ended goes to the segment and side entry its SID
last named (log 39). -/
def State.mediaRead (s : State) (n : Fin 4) : State :=
  match (s.sec n).chan.up with
  | [] => s
  | u :: rest =>
    if s.linkUp = false ∨ s.domOn 7 = false then s
    else
      let s := s.onChan n (fun c => { c with up := rest })
      let s := if u.block.isSome then s.pmuH 0x26 1 else s
      match (s.msch n).runOfSid u.sid with
      | some (r, k) =>
        let chk := match u.block with
          | some b => blockCheck r.op k b
          | none => 0
        let j := s.judge n (r.setSec k { (r.secs.getD k {}) with
          word := some u.word.toNat
          chk := chk
          block := u.block }) k
        j.1.opProgress n j.2
      | none =>
        match u.block, findKey u.sid (s.msch n).sids with
        | some b, some (o, k) =>
          if u.word.toNat % 16 = resRECOVERED ∧ o.op ≠ 2 ∧ o.bv = false then
            let chk := blockCheck o k b
            let s := if o.op = 1 ∧ chk = 0 then s.busWrite (o.data + 4096 * k) (b.take 4096) else s
            let s := s.busWrite (o.side + 32 * k) ((b.drop 4096).take 16 ++ (b.drop 4132).take 4)
            s.busWrite (o.side + 32 * k + 24) (toBytes 4 u.word.toNat ++ toBytes 1 chk)
          else s
        | _, _ => s

/-- MEDIA_DMA_WRITE_BLOCK: the media DMA builds the next block (R91). One whose segment met the error indication is withheld
(R273, R291). -/
def State.mediaWrite (s : State) (n : Fin 4) : State :=
  match (s.msch n).wq with
  | [] => s
  | sid :: rest =>
    if s.linkUp = false ∨ s.domOn 7 = false then s
    else
      let s := s.onMsch n (fun m => { m with wq := rest })
      match (s.msch n).runOfSid sid with
      | none => s
      | some (r, k) =>
        let o := r.op
        let data := s.busRead 6 (o.data + 4096 * k) 4096
        let side := data.st.busRead 6 (o.side + 32 * k) 20
        if data.err ∨ side.err then side.st
        else
          let b := buildBlock data.bytes {
            lba := o.lba + k
            wstamp := if o.wstamp = 0 then s.gtc else o.wstamp
            ktag := o.ktag
            ctag := wordAt side.bytes 16
            nsid := o.nsid
            hmdLen := o.hmdLen
            hmd := side.bytes.take 16 }
          (side.st.pmuH 0x27 1).onChan n (fun c => { c with down := c.down ++ [⟨sid, b⟩] })

/-- Entries loaded before the link last came back that have no record (R258). -/
def State.recoverTags (s : State) (n : Fin 4) : List (Nat × Bool) → State
  | [] => s
  | (tag, write) :: r =>
    let s := if write then s else s.removeEvents n (fun e => e.tag == tag && !isMotion e.typ) csCANCELLED
    State.recoverTags (s.eventDone n tag (if write then csLINK else csHELD)) n r

/-- SCHEDULER_LINK_RECOVER (R258). -/
def State.linkRecover (s : State) (n : Fin 4) : State :=
  let m := s.msch n
  if s.linkUp = false ∨ (s.sec n).atb.holdSched ≠ [] ∨ m.notes ≠ [] then s
  else
    s.recoverTags n (m.run.flatMap (fun r =>
      (r.out.filter (fun e => e.ups < s.pass.ups)).map (fun e => (e.tag, r.op.op == 2))))

/-! ### Cancel, flush, power loss, pause (R256, R259 to R261) -/

/-- Judge sectors `ks` of a chosen operation, then the operation. -/
def State.judgeAll (s : State) (n : Fin 4) (r : OpRun) : List Nat → State
  | [] => s.opProgress n r
  | k :: l =>
    let j := s.judge n r k
    State.judgeAll j.1 n j.2 l

/-- Cancel the loaded read and FMARK events of the operations with an OPTAG; those of writes fire (R259). -/
def State.cancelRuns (s : State) (n : Fin 4) (optag : Nat) : List OpRun → State
  | [] => s
  | r :: l =>
    let s : State :=
      if r.op.optag = optag ∧ r.op.bv = false then
        let part (k : Nat) : Bool := r.todo.any (fun e => e.sec == some k && e.typ != tyFMARK)
        let r : OpRun := { r with
          cancelled := true
          todo := []
          secs := r.secs.mapIdx (fun k x =>
            { x with again := false, bad := if part k && x.sid.isSome then x.bad ++ [csCANCELLED] else x.bad }) }
        let s := if r.op.op = 2 ∨ s.linkUp = false then s
          else s.removeEvents n (fun e => r.out.any (fun x => x.tag == e.tag) && !isMotion e.typ) csCANCELLED
        s.judgeAll n r (List.range r.secs.length)
      else s
    State.cancelRuns s n optag l

/-- MSCH_CANCEL (R259). -/
def State.mschCancel (s : State) (n : Fin 4) (optag : Nat) : State :=
  let m := s.msch n
  let out := m.pending.filter (fun o => o.optag == optag && !o.bv)
  let s := s.onMsch n (fun m => { m with pending := m.pending.filter (fun o => !(o.optag == optag && !o.bv)) })
  let s := out.foldl (fun s o => s.opRecord n o 2 s.gtc false []) s
  let s := match (s.msch n).pos with
    | some (r, _) =>
      if r.op.optag = optag ∧ r.op.bv = false then
        (s.onMsch n (fun m => { m with pos := none })).opRecord n r.op 2 r.start false []
      else s
    | none => s
  (s.cancelRuns n optag (s.msch n).run).mschSync n

/-- Every operation, pending or chosen, completes with `status` (R260, R261). -/
def State.schedEnd (s : State) (n : Fin 4) (status : Nat) : State :=
  let m := s.msch n
  let s := s.onMsch n (fun m => { m with pending := [], run := [], pos := none, cur := none, wq := [], reqs := [] })
  let s := m.run.foldl (fun s r => s.opRecord n r.op status r.start r.retried r.secs) s
  let s := match m.pos with
    | some (r, _) => s.opRecord n r.op status r.start false []
    | none => s
  (m.pending.foldl (fun s o => s.opRecord n o status s.gtc false []) s).mschSync n

/-- QUIET: under PAUSE every loaded event has resolved (R256). -/
def State.schedQuiet (s : State) (n : Fin 4) : State :=
  if s.bit (R.MSCH_CTRL n) 1 ∧ (s.msch n).run.all (fun r => r.out == []) then s.setBit (R.MSCH_STATUS n) 11 true else s

/-- A write of MSCH_CTRL: one that changes CORE while EN is 1 is discarded (R263). -/
def State.writeMschCtrl (s : State) (n : Fin 4) (w : Nat) : State :=
  if s.bit (R.MSCH_CTRL n) 0 ∧ bitsOf w 3 2 ≠ s.fld (R.MSCH_CTRL n) 3 2 then s.protocol (srcMsch n) 0
  else (s.setReg (R.MSCH_CTRL n) (w % 16)).mschSync n

/-! ### Commands -/

/-- Do something in the scheduler while BUF is ON. -/
def State.ifBuf (s : State) (f : State → State) : State := if s.domOn 7 then f s else s

/-- OP_SUBMIT (R239): a write of MSCH_SQ_PROD. -/
def execOpSubmit (t : Nat) (i : Initiator) (n : Fin 4) (w : BitVec 32) (s : State) : Res :=
  .next ((s.at t).onReg i (R.MSCH_SQ_PROD n) (fun s => s.setReg (R.MSCH_SQ_PROD n) w.toNat))

/-- OP_TAKE (R240). -/
def execOpTake (t : Nat) (n : Fin 4) (s : State) : Res := .next ((s.at t).opTake n)

/-- OP_SELECT (R246). -/
def execOpSelect (t : Nat) (n : Fin 4) (ang : Nat) (s : State) : Res := .next ((s.at t).opSelect n ang)

/-- POSITIONING_TIMEOUT (R245). -/
def execPositioningTimeout (t : Nat) (n : Fin 4) (s : State) : Res := .next ((s.at t).ifBuf (fun s => s.posTimeout n))

/-- SCHEDULER_EVENT_LOAD (R244). -/
def execSchedulerEventLoad (t : Nat) (n : Fin 4) (ang : Nat) (s : State) : Res := .next ((s.at t).schedLoad n ang)

/-- SCHEDULER_RECORD (R243). -/
def execSchedulerRecord (t : Nat) (n : Fin 4) (s : State) : Res := .next ((s.at t).ifBuf (fun s => s.schedRecord n))

/-- OP_COMPLETE (R248). -/
def execOpComplete (t : Nat) (n : Fin 4) (s : State) : Res := .next ((s.at t).ifBuf (fun s => s.opComplete n))

/-- MSCH_CANCEL (R259). -/
def execMschCancel (t : Nat) (i : Initiator) (n : Fin 4) (w : BitVec 32) (s : State) : Res :=
  .next ((s.at t).onReg i (R.MSCH_CANCEL n) (fun s => s.mschCancel n (w.toNat % 65536)))

/-- QUIET (R256). -/
def execQuiet (t : Nat) (n : Fin 4) (s : State) : Res := .next ((s.at t).ifBuf (fun s => s.schedQuiet n))

/-- SCHEDULER_LINK_RECOVER (R258). -/
def execSchedulerLinkRecover (t : Nat) (n : Fin 4) (s : State) : Res := .next ((s.at t).ifBuf (fun s => s.linkRecover n))

/-- MEDIA_DMA_READ_BLOCK (R39). -/
def execMediaDmaReadBlock (t : Nat) (n : Fin 4) (s : State) : Res := .next ((s.at t).mediaRead n)

/-- MEDIA_DMA_WRITE_BLOCK (R91). -/
def execMediaDmaWriteBlock (t : Nat) (n : Fin 4) (s : State) : Res := .next ((s.at t).mediaWrite n)

end Sys2Proof.Machine
end

