-- ==== Sys2Proof/Machine/Tenant.lean ====
section
/-! DEFINITION. Tenant services: key slots and AES-XTS jobs (R337 to R343), wrapping keys (R459, R468), meters, epochs and caps
(R344 to R350), background verify (R351, R352), and their commands. -/

namespace Sys2Proof.Machine

open Sys2Proof

/-! ### Wrapping keys (R459) -/

/-- The bytes of an ASCII label. -/
def ascii (s : String) : List Nat := s.toList.map Char.toNat

/-- Wrapping key WK: 0 and 1 derived from DEVSEC, 2 and 3 where loaded; none: no such key, or derivation is blocked in SCRAP
(R459, R460). -/
def State.wk (s : State) (k : Nat) : Option (List Nat) :=
  let sec := natBytes 32 s.fuses.devsec
  match k with
  | 0 => if s.fuses.scrap then none else some ((hmac384 sec (ascii "ZS-WK-OEM")).take 32)
  | 1 => if s.fuses.scrap then none
         else some ((hmac384 sec (ascii "ZS-WK-TNT" ++ [(s.fuses.lcc - 1) / 3])).take 32)
  | 2 => s.cryp.wk2
  | _ => s.cryp.wk3

/-- Change CRYP. -/
def State.onCryp (s : State) (f : Cryp → Cryp) : State := { s with cryp := f s.cryp }

/-- Set WK2 or WK3 and its valid bit. -/
def State.setWk (s : State) (k : Nat) (v : Option (List Nat)) : State :=
  let s := s.onCryp (fun c => if k = 2 then { c with wk2 := v } else { c with wk3 := v })
  s.setBit R.CRYP_WK_RES (if k = 2 then 8 else 9) v.isSome

/-- The result of a CRYP_WK_CMD. -/
def State.wkResult (s : State) (r : Nat) : State := s.setFld R.CRYP_WK_RES 2 1 r

/-- The bytes of `n` staged words. -/
def stagedBytes (l : List (Nat × Nat)) (n : Nat) : List Nat := (List.range n).flatMap (fun k => natBytes 4 (spGet 0 l k))

/-- CRYP_WK_CMD LOAD: WK DEST is unwrapped under WK0 or WK1 (R459, R468). -/
def State.wkLoad (s : State) (w : Nat) : State :=
  let dest := bitsOf w 5 4
  let parent := bitsOf w 3 2
  if dest < 2 ∨ 2 ≤ parent then s.wkResult 2
  else
    match (s.wk parent).bind (fun k => kwUnwrap k 4 (stagedBytes s.cryp.wkBlob 10)) with
    | some key => (s.setWk dest (some key)).wkResult 0
    | none => s.wkResult 1

/-- CRYP_WK_CMD CLEAR: the key that DEST names (R468; log 45: DEST 0 or 1 is BADPARAM). -/
def State.wkClear (s : State) (w : Nat) : State :=
  let dest := bitsOf w 5 4
  if dest < 2 then s.wkResult 2 else (s.setWk dest none).wkResult 0

/-- CRYP_WK_CMD WRAP: a 64-byte key pair at SRC wrapped to 72 bytes at DST (R468; log 45: a key that is absent is BADPARAM). -/
def State.wkWrap (s : State) (w : Nat) : State :=
  let src := s.rd64 R.CRYP_WK_SRC_LO R.CRYP_WK_SRC_HI
  let dst := s.rd64 R.CRYP_WK_DST_LO R.CRYP_WK_DST_HI
  match s.wk (bitsOf w 3 2) with
  | none => s.wkResult 2
  | some key =>
    if inDram src = false then s.wkResult 2
    else
      let r := s.busRead 8 src 64
      if r.err then r.st.wkResult 3
      else (r.st.busWrite dst ((kwWrap key 8 (r.bytes.map BitVec.toNat)).map (BitVec.ofNat 8))).wkResult 0

/-! ### AES-XTS jobs (R340 to R342) -/

/-- A key slot. -/
def State.keySlot (s : State) (k : Nat) : KeySlot := spGet {} s.cryp.slots k

/-- Replace a key slot. -/
def State.setKeySlot (s : State) (k : Nat) (x : KeySlot) : State := s.onCryp (fun c => { c with slots := spPut {} c.slots k x })

/-- A job of AES-XTS (R341). -/
structure AesDesc where
  dec : Bool
  tag : Nat
  slot : Nat
  count : Nat
  lba : Nat
  nsid : Nat
  kepoch : Nat
  src : Nat
  dst : Nat
deriving DecidableEq, Repr

/-- Read the fields of a descriptor's words. -/
def parseAes (w : List Nat) : AesDesc :=
  let d (k : Nat) : Nat := w.getD k 0
  ⟨bitOf (d 0) 0, d 0 / 65536, d 1 % 4096, bitsOf (d 1) 27 16, d 2 + 2 ^ 32 * (d 3 % 16), d 4, d 5 % 1048576,
   d 6 + 2 ^ 32 * d 7, d 8 + 2 ^ 32 * d 9⟩

/-- No reserved value, COUNT not 0, segments aligned and the same or apart (R342). -/
def aesDescOk (w : List Nat) : Bool :=
  let d (k : Nat) : Nat := w.getD k 0
  let x := parseAes w
  bitsOf (d 0) 15 1 == 0 && bitsOf (d 1) 15 12 == 0 && bitsOf (d 1) 31 28 == 0 && d 3 / 16 == 0 && d 5 / 1048576 == 0
    && (w.drop 10).all (· == 0) && x.count != 0 && x.src % 4096 == 0 && x.dst % 4096 == 0
    && (x.src == x.dst || x.src + 4096 * x.count ≤ x.dst || x.dst + 4096 * x.count ≤ x.src)

/-- The XTS tweak value of a sector (R340). -/
def xtsTweak (lba nsid : Nat) : Nat := lba % 2 ^ 36 + 2 ^ 64 * nsid

/-- What a run of sectors gives: the state, the sectors done, and the STATUS that stopped it. -/
structure AesRun where
  st : State
  done : Nat
  stop : Option Nat

/-- Process `left` sectors from sector `k` on (R340, R342). -/
def State.aesSectors (s : State) (x : AesDesc) : Nat → Nat → AesRun
  | 0, k => ⟨s, k, none⟩
  | left + 1, k =>
    let y := s.keySlot x.slot
    if y.valid = false ∨ y.kepoch ≠ x.kepoch then ⟨s, k, some 1⟩
    else
      let r := s.busRead 8 (x.src + 4096 * k) 4096
      if r.err then ⟨r.st, k, some 2⟩
      else
        let s := r.st.busWrite (x.dst + 4096 * k) (xts (!x.dec) y.key1 y.key2 (xtsTweak (x.lba + k) x.nsid) r.bytes)
        State.aesSectors ((s.bump (if x.dec then R.CRYP_CNT_DEC else R.CRYP_CNT_ENC)).pmuH (0x40 + b2n x.dec) 1) x left (k + 1)

/-- Before a key slot changes, each engine has finished a free number of the sectors of a job on it (R343; log 12). -/
def State.aesCatchUp (s : State) (slot : Nat) (e : Fin 8) : State :=
  let j := s.aes.ctx[e]
  let x := parseAes j.desc
  if j.ring.isSome ∧ j.rec_.isNone ∧ j.fence = false ∧ j.bad = false ∧ aesDescOk j.desc ∧ x.slot = slot then
    let k := s.freeNat 0 % (x.count - j.done + 1)
    let r := (s.useFree).aesSectors x k j.done
    r.st.setCtx .aes e { j with done := r.done }
  else s

/-- The job of engine `e` ends (R342). -/
def State.aesJobEnd (s : State) (e : Fin 8) : State :=
  let j := s.aes.ctx[e]
  if s.domOn 10 = false ∨ j.ring.isNone ∨ j.rec_.isSome then s
  else
    let x := parseAes j.desc
    let r : AesRun :=
      if j.fence then
        let k := s.freeNat 0 % (x.count - j.done + 1)
        let r := s.useFree.aesSectors x (if aesDescOk j.desc && !j.bad then k else 0) j.done
        ⟨r.st, r.done, some 4⟩
      else if j.bad then ⟨s, 0, some 2⟩
      else if aesDescOk j.desc = false then ⟨s, 0, some 3⟩
      else s.aesSectors x (x.count - j.done) j.done
    let s := match r.stop with
      | some 3 => r.st
      | some _ => if aesDescOk j.desc && !j.bad then r.st.spoil (x.dst + 4096 * r.done) (4096 * (x.count - r.done)) else r.st
      | none => r.st
    let st := r.stop.getD 0
    let s := if st = 1 then (s.bump R.CRYP_CNT_STALE).pmuH 0x42 1 else s
    s.jobEnded .aes e (wordsToBytes [x.tag + 65536 * st, r.done, s.gtc % 2 ^ 32, s.gtc / 2 ^ 32])

/-- Sump fences engine `e`, or resets it in place: its job ends FENCED (R342, R393). -/
def State.aesFence (s : State) (e : Fin 8) (fence : Bool) : State :=
  let j := s.aes.ctx[e]
  let s := if j.ring.isSome ∧ j.rec_.isNone then s.setCtx .aes e { j with fence := true } else s
  if fence then s.setBit R.CRYP_STATUS (2 + e) true else s

/-! ### Key slots (R337, R338, R343) -/

/-- ERASE of a slot: zeros, EMPTY, KEPOCH + 1. -/
def State.eraseSlot (s : State) (k : Nat) : State :=
  let s := (s.aesCatchUp k 0).aesCatchUp k 1
  let y := s.keySlot k
  s.setKeySlot k { owner := y.owner, kepoch := (y.kepoch + 1) % 1048576 }

/-- VALID slots of a group, ascending (R338). -/
def State.groupSlots (s : State) (g : Nat) : List Nat :=
  s.cryp.slots.filterMap (fun p => if p.2.valid ∧ p.2.owner = g then some p.1 else none)

/-- Every listed slot is erased, in the order given. -/
def State.eraseSlots (s : State) : List Nat → State
  | [] => s
  | k :: r => State.eraseSlots (s.eraseSlot k) r

/-- The key-slot command at the front takes place; its RESULT and its count of erased slots are kept until it finishes (R338). -/
def State.ksRun (s : State) (o : KsOp) : State :=
  let result (s : State) (r n : Nat) : State := s.onCryp (fun c => { c with ksRes := (r, n) })
  match o.op with
  | 1 =>
    match (s.wk o.wk).bind (fun k => kwUnwrap k 8 o.blob) with
    | none => result (s.bump R.CRYP_CNT_UNWRAP) 1 0
    | some key =>
      if key.take 32 = key.drop 32 then result s 2 0
      else
        let s := (s.aesCatchUp o.slot 0).aesCatchUp o.slot 1
        result (s.setKeySlot o.slot ⟨true, o.group, ((s.keySlot o.slot).kepoch + 1) % 1048576, key.take 32, key.drop 32⟩) 0 0
  | 2 => result (s.eraseSlot o.slot) 0 0
  | 3 =>
    let l := s.groupSlots o.group
    result (s.eraseSlots l) 0 l.length
  | _ =>
    let y := s.keySlot o.slot
    if y.valid then result (s.setKeySlot o.slot { y with owner := o.group }) 0 0 else result s 3 0

/-- A write of CRYP_KS_CMD commits the initiator's staging; commands are decided one at a time (R338). -/
def State.ksCommit (s : State) (i : Initiator) (op wk : Nat) : State :=
  let sel := iniGet 0 s.cryp.ksSel i
  let o : KsOp := ⟨op, wk, bitsOf sel 11 0, bitsOf sel 27 16, stagedBytes (iniGet [] s.cryp.ksBlob i) 18⟩
  let first := s.cryp.ksOps.isEmpty
  let s := s.onCryp (fun c => { c with ksOps := c.ksOps ++ [o] })
  let s := (s.setBit R.CRYP_KS_RES 0 true).setBit R.CRYP_STATUS 4 true
  if first then s.ksRun o else s

/-- KS_DONE: the command at the front finishes; its RESULT appears (R343). -/
def State.ksDone (s : State) : State :=
  match s.cryp.ksOps with
  | [] => s
  | o :: rest =>
    let (r, n) := s.cryp.ksRes
    let s := (s.pmuH 0x43 1).setFld R.CRYP_KS_RES 2 1 r
    let s := if o.op = 3 then s.setFld R.CRYP_KS_RES 27 16 n else s
    let s := (s.setBit R.CRYP_INT_STATUS 8 true).onCryp (fun c => { c with ksOps := rest })
    match rest with
    | [] => (s.setBit R.CRYP_KS_RES 0 false).setBit R.CRYP_STATUS 4 false
    | p :: _ => s.ksRun p

/-- CRYP_KS_INFO of a slot. -/
def State.ksInfo (s : State) (k : Nat) : Nat := (s.keySlot k).kepoch + 2147483648 * b2n (s.keySlot k).valid

/-! ### Meters (R344 to R348) -/

/-- Length of an epoch in ns (R346). -/
def epochNs : Nat := 60000000000

/-- Change the meter unit. -/
def State.onMtr (s : State) (f : Mtr → Mtr) : State := { s with mtr := f s.mtr }

/-- The epoch of a GTC value under the origin in force (R346). -/
def State.epochOf (s : State) (t : Nat) : Int := ((t : Int) - s.mtr.origin).fdiv epochNs

/-- GTC of the boundary that ends the open bank's epoch. -/
def State.boundary (s : State) : Int := (s.mtr.origin : Int) + epochNs * (s.mtr.bank.epoch + 1)

/-- MTR_STATUS follows the unit (R356). -/
def State.mtrSync (s : State) : State :=
  ((s.setBit R.MTR_STATUS 0 (s.bit R.MTR_CTRL 0)).setBit R.MTR_STATUS 1 (!s.mtr.closing.isEmpty)).setBit R.MTR_STATUS 2 s.mtr.bank.merr

/-- The open bank closes at GTC `at_`, and a new one opens (R346, R347). -/
def State.closeBank (s : State) (at_ : Nat) (part ploss newPart : Bool) : State :=
  let b := s.mtr.bank
  let closed := { b with
    closed := at_
    origin := s.mtr.origin
    partial_ := b.partial_ || part
    ploss := ploss }
  (s.onMtr (fun m => { m with
    closing := m.closing ++ [closed]
    bank := { opened := at_, epoch := s.epochOf at_, partial_ := newPart } })).mtrSync

/-- A boundary that has come is processed before anything else (R354). -/
def State.atBoundary (s : State) : State :=
  if s.bit R.MTR_CTRL 0 ∧ s.boundary ≤ (s.gtc : Int) then s.closeBank s.boundary.toNat false false false else s

/-- MTR_CHG_AMT commits a charge (R345). -/
def State.meterCharge (s : State) (i : Initiator) (amt : Nat) : State :=
  let sel := iniGet 0 s.mtr.chgSel i
  let g := bitsOf sel 11 0
  let m := bitsOf sel 14 12
  if m = 3 then (s.charge g 3 amt).debitAct g amt
  else if m = 7 then s.charge g 7 amt
  else
    let s := (s.bump R.MTR_CNT_REFUSED).protocol 144 0
    if s.bit R.MTR_CTRL 0 then s.onMtr (fun x => { x with bank := { x.bank with refused := satU 32 (x.bank.refused + 1) } }) else s

/-- A write of MTR_ORIGIN_LO commits the origin (R347). -/
def State.originWrite (s : State) (w : Nat) : State :=
  let s := (s.atBoundary).setReg R.MTR_ORIGIN_LO w
  let o := s.rd64 R.MTR_ORIGIN_LO R.MTR_ORIGIN_HI
  if s.bit R.MTR_CTRL 0 then
    let s := s.closeBank s.gtc true false true
    let s := s.onMtr (fun m => { m with origin := o })
    s.onMtr (fun m => { m with bank := { m.bank with epoch := s.epochOf s.gtc } })
  else s.onMtr (fun m => { m with origin := o })

/-- A write of MTR_CTRL.EN (R347). -/
def State.meterEnable (s : State) (on : Bool) : State :=
  if on = s.bit R.MTR_CTRL 0 then s
  else if on then
    ((s.setBit R.MTR_CTRL 0 true).onMtr (fun m => { m with
      bank := { opened := s.gtc, epoch := s.epochOf s.gtc, partial_ := true } })).mtrSync
  else
    (((s.atBoundary.closeBank s.gtc true false false).setBit R.MTR_CTRL 0 false).onMtr (fun m => { m with bank := {} })).mtrSync

/-- MAON's power-loss decision closes the bank PARTIAL and PLOSS (R347). -/
def State.meterPloss (s : State) : State :=
  if s.domOn 11 ∧ s.bit R.MTR_CTRL 0 then s.atBoundary.closeBank s.gtc true true true else s

/-- The bytes of a bank's record (R348). -/
def Bank.record (b : Bank) (seq : Nat) : List Byte :=
  let arr := (List.range 32768).flatMap (fun k => toBytes 8 (spGet 0 b.vals k))
  let h := wordsToBytes [0x4D540001, seq] ++ toBytes 8 (ofS 64 b.epoch) ++ toBytes 8 b.opened ++ toBytes 8 b.closed
    ++ toBytes 8 b.origin
    ++ wordsToBytes [b2n b.partial_ + 2 * b2n b.ploss + 4 * b2n b.sat + 8 * b2n b.merr, b.refused] ++ toBytes 8 0
    ++ toBytes 4 (crc32c arr)
  h ++ toBytes 4 (crc32c h) ++ arr

/-- METER_LOG_WRITTEN: the oldest closed bank's record is in its slot, and MTR_LOG_SEQ advances (R348). -/
def State.logWritten (s : State) : State :=
  match s.mtr.closing with
  | [] => s
  | b :: rest =>
    let seq := (s.rd R.MTR_LOG_SEQ + 1) % 2 ^ 32
    let r := b.record seq
    let a := s.rd64 R.MTR_LOG_BASE_LO R.MTR_LOG_BASE_HI + 266240 * (seq % 64)
    let s := (s.busWrite (a + 64) (r.drop 64)).busWrite a (r.take 64)
    ((s.setReg R.MTR_LOG_SEQ seq).onMtr (fun m => { m with closing := rest })).mtrSync

/-- One bucket's refill (R349). -/
def refill (rate burst : Nat) (lvl : Int) : Int := if rate = 0 then lvl else min (lvl + rate) (1000 * burst)

/-- CAP_REFILL (R349). -/
def State.capRefill (s : State) : State :=
  s.onMtr (fun m => { m with caps := m.caps.map (fun p => (p.1, { p.2 with
    lvlCmd := refill p.2.rateCmd p.2.burstCmd p.2.lvlCmd
    lvlKib := refill p.2.rateKib p.2.burstKib p.2.lvlKib
    lvlAct := refill p.2.rateAct p.2.burstAct p.2.lvlAct })) })

/-! ### Background verify (R351, R352) -/

/-- The lowest head at or above `h` in BV_CFG.HEADS. -/
def State.bvHead (s : State) (n : Fin 4) (h : Nat) : Option Nat :=
  (List.range 8).find? (fun k => h ≤ k && s.bit (R.BV_CFG n) k)

/-- The lowest track at or above `t` that lies in a zone with sectors, with its zone (R351). -/
def ZoneTable.nextTrack (z : ZoneTable) (t last : Nat) : Option (Nat × Zone) :=
  z.zones.foldl (fun best e =>
    let c := max t e.first
    if c < e.first + e.count ∧ c ≤ last ∧ 0 < e.s then
      match best with
      | some (b, _) => if c < b then some (c, e) else best
      | none => some (c, e)
    else best) none

/-- The first place at or after head `h`, track `t`, sector `k` where the walk finds sectors: head, track, sector, zone. -/
def State.bvFind (s : State) (n : Fin 4) : Nat → Nat → Nat → Nat → State × Option (Nat × Nat × Nat × Zone)
  | 0, _, _, _ => (s, none)
  | fuel + 1, h, t, k =>
    match s.bvHead n h with
    | none => (s, none)
    | some h' =>
      let first := s.fld (R.BV_FIRST n) 23 0
      let t' := if h' = h then max t first else first
      let k' := if h' = h ∧ t' = t then k else 0
      let r := s.schedTable n h'
      match r.2 with
      | none => State.bvFind r.1 n fuel (h' + 1) 0 0
      | some z =>
        match z.nextTrack t' (s.fld (R.BV_LAST n) 23 0) with
        | none => State.bvFind r.1 n fuel (h' + 1) 0 0
        | some (t2, e) =>
          let k2 := if t2 = t' then k' else 0
          if k2 < e.s then (r.1, some (h', t2, k2, e))
          else
            match z.nextTrack (t2 + 1) (s.fld (R.BV_LAST n) 23 0) with
            | none => State.bvFind r.1 n fuel (h' + 1) 0 0
            | some (t3, e3) => (r.1, some (h', t3, 0, e3))

/-- Set the walk's position. -/
def State.bvSetPos (s : State) (n : Fin 4) (h t k : Nat) : State :=
  (s.setReg (R.BV_POS n) (t % 2 ^ 24 + 16777216 * (h % 8))).setReg (R.BV_POS_SECT n) (k % 4096)

/-- RESTART and the end of a walk: back to its start (R351). -/
def State.bvStart (s : State) (n : Fin 4) : State :=
  s.bvSetPos n ((s.bvHead n 0).getD 0) (s.fld (R.BV_FIRST n) 23 0) 0

/-- The engine is enabled and not fenced. -/
def State.bvRuns (s : State) (n : Fin 4) : Bool :=
  s.domOn 11 && s.bit (R.BV_CTRL n) 0 && !s.fenced n && !s.bit (R.BV_STATUS n) 2

/-- The engine may submit: its section is ON and loaded, and is neither loading nor retracting (R489). -/
def State.bvReady (s : State) (n : Fin 4) : Bool :=
  s.bvRuns n && s.domOn (16 + n) && !s.parked n && !s.retracting n && (s.sec n).load.isNone

/-- BV_SUBMIT: one VERIFY operation enters the scheduler (R351, R352, R489). A walk that finds no sector ends its pass without one. -/
def State.bvSubmit (s : State) (n : Fin 4) : State :=
  let m := s.msch n
  if s.bvReady n = false ∨ s.domOn 7 = false ∨ m.bvPending ∨ m.pending ≠ [] ∨ m.run ≠ [] ∨ m.pos.isSome
      ∨ s.gtc < m.idleAt + s.fld (R.BV_CFG n) 31 24 * 1000000 ∨ s.bit (R.MSCH_CTRL n) 1 ∨ s.granted n then s
  else
    let f := s.bvFind n 9 (s.fld (R.BV_POS n) 26 24) (s.fld (R.BV_POS n) 23 0) (s.fld (R.BV_POS_SECT n) 11 0)
    match f.2 with
    | none => (f.1.bump (R.BV_PASS n)).bvStart n
    | some (h, t, k, z) =>
      let cnt := min (s.fld (R.BV_CFG n) 16 8) (z.s - k)
      let o : Mop :=
        { seq := m.seq, op := 3, head := h, ord := false, urg := false, keep := false, hmdLen := 0, optag := 0, track := t
          first := k, count := cnt, lba := 0, nsid := 0, ktag := 0, group := f.1.fld (R.BV_GROUP n) 11 0, slot := 0, data := 0
          side := 0, wstamp := 0, takenAt := s.gtc, bv := true, zone := z }
      let s := f.1.onMsch n (fun m => { m with
        seq := m.seq + 1
        pending := m.pending ++ [o]
        bvPending := true })
      let g := s.bvFind n 9 h t (k + cnt)
      (match g.2 with
        | some (h2, t2, k2, _) => g.1.bvSetPos n h2 t2 k2
        | none => (g.1.bump (R.BV_PASS n)).bvStart n).mschSync n

/-- A fence of the section or of the verify engine: the pending verify operation completes FLUSHED, the engine stops (R352). -/
def State.bvFence (s : State) (n : Fin 4) : State :=
  let m := s.msch n
  let s := match m.pending.find? (fun o => o.bv) with
    | some o => ((s.onMsch n (fun m => { m with pending := m.pending.filter (fun o => !o.bv) })).opRecord n o 3 s.gtc false []).mschSync n
    | none =>
      let waits : Option OpRun := m.pos.bind (fun p => if p.1.op.bv then some p.1 else none)
      let runs : Option OpRun := m.run.find? (fun r => r.op.bv)
      match waits, runs with
      | some r, _ => ((s.onMsch n (fun m => { m with pos := none })).opRecord n r.op 3 r.start false []).mschSync n
      | none, some r =>
        ((s.onMsch n (fun m => { m with
          run := m.run.filter (fun r => !r.op.bv)
          cur := none })).opRecord n r.op 3 r.start r.retried r.secs).mschSync n
      | none, none => s
  s.setBit (R.BV_STATUS n) 2 true

/-! ### Commands -/

/-- Something that acts in CRYP while it is ON. -/
def State.ifCryp (s : State) (f : State → State) : State := if s.domOn 10 then f s else s

/-- Something that acts in the meters and verify engines while FLOW is ON. -/
def State.ifFlow (s : State) (f : State → State) : State := if s.domOn 11 then f s else s

/-- KS_LOAD (R338). -/
def execKsLoad (t : Nat) (i : Initiator) (wk : BitVec 2) (s : State) : Res :=
  .next ((s.at t).onReg i R.CRYP_KS_CMD (fun s => s.ksCommit i 1 wk.toNat))

/-- KS_ERASE (R338). -/
def execKsErase (t : Nat) (i : Initiator) (s : State) : Res := .next ((s.at t).onReg i R.CRYP_KS_CMD (fun s => s.ksCommit i 2 0))

/-- ERASE_GROUP (R338). -/
def execEraseGroup (t : Nat) (i : Initiator) (s : State) : Res := .next ((s.at t).onReg i R.CRYP_KS_CMD (fun s => s.ksCommit i 3 0))

/-- SET_OWNER (R338). -/
def execSetOwner (t : Nat) (i : Initiator) (s : State) : Res := .next ((s.at t).onReg i R.CRYP_KS_CMD (fun s => s.ksCommit i 4 0))

/-- KS_DONE (R343). -/
def execKsDone (t : Nat) (s : State) : Res := .next ((s.at t).ifCryp (fun s => s.ksDone))

/-- The engine as a context. -/
def aesCtx (e : Fin 2) : Fin 8 := ⟨e.val, by omega⟩

/-- AES_JOB_START (R341). -/
def execAesJobStart (t : Nat) (e : Fin 2) (s : State) : Res := .next ((s.at t).jobStart .aes 0 8 (aesCtx e))

/-- AES_JOB_END (R342). -/
def execAesJobEnd (t : Nat) (e : Fin 2) (s : State) : Res := .next ((s.at t).aesJobEnd (aesCtx e))

/-- AES_COMPLETION_RECORD (R341). -/
def execAesCompletionRecord (t : Nat) (e : Fin 2) (s : State) : Res := .next ((s.at t).jobRecord .aes (aesCtx e))

/-- METER_CHARGE (R345). -/
def execMeterCharge (t : Nat) (i : Initiator) (w : BitVec 32) (s : State) : Res :=
  .next ((s.at t).onReg i R.MTR_CHG_AMT (fun s => s.meterCharge i w.toNat))

/-- EPOCH_BOUNDARY (R346). -/
def execEpochBoundary (t : Nat) (s : State) : Res := .next ((s.at t).ifFlow (fun s => s.atBoundary))

/-- MTR_ORIGIN_WRITE (R347). -/
def execMtrOriginWrite (t : Nat) (i : Initiator) (w : BitVec 32) (s : State) : Res :=
  .next ((s.at t).onReg i R.MTR_ORIGIN_LO (fun s => s.originWrite w.toNat))

/-- METER_ENABLE (R347). -/
def execMeterEnable (t : Nat) (i : Initiator) (on : Bool) (s : State) : Res :=
  .next ((s.at t).onReg i R.MTR_CTRL (fun s => s.meterEnable on))

/-- METER_LOG_WRITTEN (R348). -/
def execMeterLogWritten (t : Nat) (s : State) : Res := .next ((s.at t).ifFlow (fun s => s.logWritten))

/-- CAP_REFILL (R349). -/
def execCapRefill (t : Nat) (s : State) : Res := .next ((s.at t).ifFlow (fun s => s.capRefill))

/-- BV_ENABLE (R351). -/
def execBvEnable (t : Nat) (i : Initiator) (n : Fin 4) (on : Bool) (s : State) : Res :=
  .next ((s.at t).onReg i (R.BV_CTRL n) (fun s => s.setBit (R.BV_CTRL n) 0 on))

/-- RESTART (R351). -/
def execBvRestart (t : Nat) (i : Initiator) (n : Fin 4) (s : State) : Res :=
  .next ((s.at t).onReg i (R.BV_CTRL n) (fun s => s.bvStart n))

/-- BV_SUBMIT (R352). -/
def execBvSubmit (t : Nat) (n : Fin 4) (s : State) : Res := .next ((s.at t).bvSubmit n)

/-- WK_LOAD (R468). -/
def execWkLoad (t : Nat) (i : Initiator) (w : BitVec 32) (s : State) : Res :=
  .next ((s.at t).onReg i R.CRYP_WK_CMD (fun s => s.wkLoad w.toNat))

/-- WK_CLEAR (R468). -/
def execWkClear (t : Nat) (i : Initiator) (w : BitVec 32) (s : State) : Res :=
  .next ((s.at t).onReg i R.CRYP_WK_CMD (fun s => s.wkClear w.toNat))

/-- WRAP (R468). -/
def execWrap (t : Nat) (i : Initiator) (w : BitVec 32) (s : State) : Res :=
  .next ((s.at t).onReg i R.CRYP_WK_CMD (fun s => s.wkWrap w.toNat))

/-! ### Random numbers (R466) -/

/-- A read of CRYP_RNG_DATA: 32 fresh bits, which are a free value; 0 while FAIL is set (R466; log 12). -/
def State.rngRead (s : State) : State :=
  if s.bit R.CRYP_RNG_STATUS 1 then { s with lastRead := 0#32 }
  else
    let n := s.cryp.rngCount + 1
    ({ s.useFree with lastRead := Config.freeWord s.free }).onCryp (fun c => { c with rngCount := if n = 65536 then 0 else n })

/-- CLR_FAIL starts the start-up test (R466). -/
def State.rngTestStart (s : State) : State := s.onCryp (fun c => { c with rngTest := true })

/-- The start-up test ends: FAIL clears only if it passed (R466). -/
def State.rngTestDone (s : State) (ok : Bool) : State :=
  if s.cryp.rngTest then
    let s := s.onCryp (fun c => { c with rngTest := false })
    if ok then (s.setBit R.CRYP_RNG_STATUS 1 false).setBit R.CRYP_RNG_STATUS 0 true else s
  else s

/-- A continuous health test fails (R466). -/
def State.rngHealthFail (s : State) : State :=
  let n := satU 16 (s.fld R.CRYP_RNG_STATUS 31 16 + 1)
  ((s.setFld R.CRYP_RNG_STATUS 31 16 n).setBit R.CRYP_RNG_STATUS 1 true).setBit R.CRYP_RNG_STATUS 0 false

/-- RESEED (R466). -/
def execReseed (t : Nat) (i : Initiator) (s : State) : Res :=
  .next ((s.at t).onReg i R.CRYP_RNG_CTRL (fun s => s.onCryp (fun c => { c with rngCount := 0 })))

/-- CLR_FAIL (R466). -/
def execClrFail (t : Nat) (i : Initiator) (s : State) : Res :=
  .next ((s.at t).onReg i R.CRYP_RNG_CTRL (fun s => s.rngTestStart))

/-- RNG_STARTUP_TEST_DONE (R466). -/
def execRngStartupTestDone (t : Nat) (ok : Bool) (s : State) : Res := .next ((s.at t).ifCryp (fun s => s.rngTestDone ok))

/-- RNG_HEALTH_FAIL (R466). -/
def execRngHealthFail (t : Nat) (s : State) : Res := .next ((s.at t).ifCryp (fun s => s.rngHealthFail))

/-- RNG_READ (R466). -/
def execRngRead (t : Nat) (_i : Initiator) (s : State) : Res := .next ((s.at t).ifCryp (fun s => s.rngRead))

end Sys2Proof.Machine
end

