-- ==== Sys2Proof/Machine/Mailbox.lean ====
section
/-! DEFINITION. The mailbox channels (R357 to R362, R374), Expert Grants (R365 to R370), and what Wounser reloads (R132, R369,
R371). -/

namespace Sys2Proof.Machine

open Sys2Proof

/-! ### Channels (R357 to R361) -/

/-- Change MBOX. -/
def State.onMbox (s : State) (f : Mbox → Mbox) : State := { s with mbox := f s.mbox }

/-- What Wounser keeps for channel `ch`. -/
def State.chan (s : State) (ch : Fin 16) : MbChan := s.mbox.chans[ch]

/-- Change channel `ch`. -/
def State.onMbChan (s : State) (ch : Fin 16) (f : MbChan → MbChan) : State :=
  s.onMbox (fun m => { m with chans := m.chans.set ch (f m.chans[ch]) })

/-- The initiator owns the channel (R357). -/
def mbOwner (ch : Fin 16) (i : Initiator) : Bool :=
  match i with
  | .app _ => decide (ch.val ≤ 11)
  | .hostA => ch == 12 || ch == 13
  | .hostB => ch == 12 || ch == 13
  | .mgmt => ch == 14
  | .peer => ch == 15
  | .cc => false

/-- RINGER code of an initiator (R374). -/
def ringer : Initiator → Nat
  | .app c => c.val
  | .hostA => 4
  | .hostB => 5
  | .mgmt => 6
  | .peer => 7
  | .cc => 7

/-- Rope is up and paired (R357, R476). -/
def State.paired (s : State) : Bool := s.bit R.ROPE_STATUS 1

/-- A doorbell of the channel is accepted in the present state (R357). -/
def State.ringAccepted (s : State) (ch : Fin 16) : Bool :=
  if ch = 12 ∨ ch = 13 then
    [1, 2, 4].contains s.lcState || (s.lcState == 3 && s.bit R.MB_HOSTWIN 0)
  else if ch = 15 then s.paired
  else true

/-- Wounser serves (R375). -/
def State.wounserUp (s : State) : Bool := s.bit R.MB_VER 31

/-- RUN of a channel. -/
def State.mbRunning (s : State) (ch : Fin 16) : Bool := s.bit (R.MB_STAT ch) 2

/-- OPCODE and SEQ of the request. -/
def State.mbOp (s : State) (ch : Fin 16) : Nat := s.fld (R.MB_REQ ch 0) 7 0
def State.mbSeq (s : State) (ch : Fin 16) : Nat := s.fld (R.MB_STAT ch) 31 16

/-- Request word `k`. -/
def State.mbReq (s : State) (ch : Fin 16) (k : Nat) : Nat := s.rd (R.MB_REQ ch k)

/-- MB_INT of the channel and its interrupt where IE is 1 (R370, R374). -/
def State.mbInt (s : State) (ch : Fin 16) (bit_ : Nat) : State :=
  let s := s.setBit (R.MB_INT ch) bit_ true
  if s.bit (R.MB_CFG ch) 0 = false then s
  else if ch.val ≤ 11 then s.irq (appTarget (s.fld (R.MB_CFG ch) 2 1)) (.mailbox ch)
  else if ch = 14 then s.irq .mgmt (.mailbox ch)
  else s

/-- Write response words from word `k` on. -/
def State.mbWrite (s : State) (ch : Fin 16) : Nat → List Nat → State
  | _, [] => s
  | k, w :: r => State.mbWrite (s.setReg (R.MB_RSP ch k) (w % 2 ^ 32)) ch (k + 1) r

/-- A response of 16 words: unused words are 0 (R358). -/
def mbWords (op status seq : Nat) (words : List Nat) : List Nat :=
  ((op + 256 * status + 65536 * seq) :: words ++ List.replicate 15 0).take 16

/-- Wounser completes the command on a channel (R359, R361). -/
def State.mbReply (s : State) (ch : Fin 16) (status : Nat) (words : List Nat) : State :=
  let r := mbWords (s.mbOp ch) status (s.mbSeq ch) words
  let late := s.fld (R.MB_STAT ch) 1 0 == 3
  let s := s.mbWrite ch 0 r
  let s := ((s.setFld (R.MB_STAT ch) 2 0 2).setBit (R.MB_STAT ch) 3 false).setBit (R.MB_STAT ch) 4 late
  (s.onMbChan ch (fun c => { c with
    wait := false
    run := none
    kept := some r })).mbInt ch 0

/-- Wounser returns the kept response (R360). -/
def State.mbReplay (s : State) (ch : Fin 16) (r : List Nat) : State :=
  let s := s.mbWrite ch 0 r
  let s := ((s.setFld (R.MB_STAT ch) 2 0 2).setBit (R.MB_STAT ch) 3 true).setBit (R.MB_STAT ch) 4 false
  (s.onMbChan ch (fun c => { c with wait := false })).mbInt ch 0

/-- The sequence of R207 runs: until every section reads PARKED, SPIN stands and no dump is due or runs (R373). -/
def State.plRuns (s : State) : Bool :=
  s.maon.powerLossAt.isSome
    && !(s.allParked && (s.spin_ == spOFF || s.spin_ == spFAULT) && s.buf.dumpDue.isNone && s.fld R.BUF_DUMP_STATUS 1 0 != 1)

/-- Wounser serves an opcode on a channel during that sequence (R373). -/
def plServes (op ch : Nat) : Bool :=
  (ch == 14 && (op == 0x01 || op == 0x02)) || (ch == 15 && (op == 0x02 || op == 0x80 || op == 0x83))

/-- Wounser takes the requests of a channel now. -/
def State.mbServes (s : State) (ch : Fin 16) : Bool := s.wounserUp && (!s.plRuns || plServes (s.mbOp ch) ch)

/-- The SEQ of a kept response. -/
def keptSeq (r : List Nat) : Nat := r.headD 0 / 65536 % 65536

/-- The request's SEQ is that of the kept response (R360). -/
def State.mbKept (s : State) (ch : Fin 16) : Bool :=
  match (s.chan ch).kept with
  | some r => keptSeq r == s.mbSeq ch
  | none => false

/-- MAILBOX_RING: MB_DB.RING is written 1 (R357, R359, R360). -/
def State.mbRing (s : State) (i : Initiator) (ch : Fin 16) : State :=
  if mbOwner ch i = false then s.protocol (96 + ch) 0
  else if s.ringAccepted ch = false then
    if ch = 15 then s else s.mbWrite ch 0 (mbWords (s.mbOp ch) 0x0C (s.fld (R.MB_REQ ch 0) 31 16) [])
  else if s.mbRunning ch then s.protocol (96 + ch) 0
  else
    let seq := s.fld (R.MB_REQ ch 0) 31 16
    let s := (s.pmuH 0x58 1).setReg (R.MB_STAT ch) (1 + 4 + 256 * ringer i + 65536 * seq)
    let s := (s.onMbChan ch (fun c => { c with
      wait := true
      busyAt := s.gtc })).onMbox (fun m => { m with order := m.order.filter (· ≠ ch) ++ [ch] })
    match (s.chan ch).kept with
    | some r =>
      if s.mbServes ch ∧ keptSeq r = seq then
        (s.mbReplay ch r).onMbox (fun m => { m with order := m.order.filter (· ≠ ch) })
      else s
    | none => s

/-- MAILBOX_TIMEOUT: the hardware answers a channel that has stood BUSY for TMO (R361). -/
def State.mbTimeout (s : State) (ch : Fin 16) : State :=
  if s.fld (R.MB_STAT ch) 1 0 = 1 ∧ (s.chan ch).busyAt + 100000000 * s.fld (R.MB_CFG ch) 23 16 ≤ s.gtc then
    let s := s.mbWrite ch 0 (mbWords (s.mbOp ch) 0x0B (s.mbSeq ch) [])
    (((s.setFld (R.MB_STAT ch) 1 0 3).mbInt ch 0).pmuH 0x59 1).sendFault (96 + ch) kTIMEOUT 0
  else s

/-- What a CCORE reset leaves of a channel: Wounser forgets its command, its challenge and its staged token; a channel that was DONE
keeps its response words (R360). -/
def State.mbCoreReset (s : State) (ch : Fin 16) : State :=
  let kept := if s.fld (R.MB_STAT ch) 1 0 = 2 then some ((List.range 16).map (fun k => s.rd (R.MB_RSP ch k))) else none
  s.onMbChan ch (fun c => { c with
    wait := false
    run := none
    kept := kept
    chal := none
    token := [] })

/-- The restarted Wounser answers ABORTED on a channel that was BUSY or TIMEOUT at the reset; a request rung since then is served,
or replayed (R360). -/
def State.mbRestore (s : State) (ch : Fin 16) : State :=
  let c := s.chan ch
  if c.wait then
    match c.kept with
    | some r =>
      if keptSeq r = s.mbSeq ch then (s.mbReplay ch r).onMbox (fun m => { m with order := m.order.filter (· ≠ ch) }) else s
    | none => s
  else if s.fld (R.MB_STAT ch) 1 0 = 1 ∨ s.fld (R.MB_STAT ch) 1 0 = 3 then s.mbReply ch 0x0E []
  else s

/-- Wounser begins to serve the channels. -/
def State.mbUp (s : State) : State :=
  ((List.finRange 16).foldl (fun s ch => s.mbRestore ch) s).setBit R.MB_VER 31 true

/-! ### Grants (R365 to R370) -/

/-- Index of a grant unit (R365). -/
def grantIdx (func unit : Nat) : Option (Fin 31) :=
  match func with
  | 0 => if h : unit < 4 then some ⟨unit, by omega⟩ else none
  | 1 => if h : unit < 4 then some ⟨4 + unit, by omega⟩ else none
  | 2 => if unit = 0 then some 8 else none
  | 3 => if h : unit < 4 then some ⟨9 + unit, by omega⟩ else none
  | 4 => if h : unit < 16 then some ⟨13 + unit, by omega⟩ else none
  | 5 => if unit = 0 then some 29 else none
  | 6 => if unit = 0 then some 30 else none
  | _ => none

/-- FUNC and UNIT of a grant index. -/
def grantUnit (g : Nat) : Nat × Nat :=
  if g < 4 then (0, g)
  else if g < 8 then (1, g - 4)
  else if g = 8 then (2, 0)
  else if g < 13 then (3, g - 9)
  else if g < 29 then (4, g - 13)
  else if g = 29 then (5, 0)
  else (6, 0)

/-- HOLDER of grant `g`: 0 none, 1 to 4 application cores, 5 Wounser for a channel, 6 RESTORING. -/
def State.holder (s : State) (g : Nat) : Nat := s.fld (R.MB_GRANT g) 2 0

/-- Grant `g` is held by an actor. -/
def State.held (s : State) (g : Nat) : Bool := 1 ≤ s.holder g && s.holder g ≤ 5

/-- The caller of channel `ch` holds grant `g` (R366). -/
def State.callerHolds (s : State) (ch : Fin 16) (g : Nat) : Bool :=
  if ch.val ≤ 11 then s.holder g == s.fld (R.MB_STAT ch) 10 8 + 1
  else s.holder g == 5 && s.fld (R.MB_GRANT g) 7 4 == ch.val

/-- A notice on a channel (R370). -/
def State.notice_ (s : State) (ch : Fin 16) (kind g cause : Nat) : State :=
  let (f, u) := grantUnit g
  (s.setReg (R.MB_NOTICE ch) (kind + 256 * f + 4096 * u + 65536 * cause)).mbInt ch 1

/-- The channel on which grant `g` was taken. -/
def State.grantCh (s : State) (g : Nat) : Fin 16 := ⟨s.fld (R.MB_GRANT g) 7 4 % 16, Nat.mod_lt _ (by decide)⟩

/-- Grant `g` ends with the cause's place in the list of R369: the entry reads RESTORING; a notice unless its holder released
it (R369, R370). -/
def State.endGrant (s : State) (g cause : Nat) : State :=
  if s.held g then
    let ch := s.grantCh g
    let s := (s.setFld (R.MB_GRANT g) 2 0 6).onMbox (fun m => { m with
      expiry := m.expiry.filter (fun p => p.1 ≠ g)
      warned := m.warned.filter (· ≠ g) })
    if cause = 0 then s else s.notice_ ch 1 g cause
  else s

/-- Every grant of a list that meets `f` ends. -/
def State.endGrants (s : State) (f : State → Nat → Bool) (cause : Nat) : List Nat → State
  | [] => s
  | g :: r => State.endGrants (if f s g then s.endGrant g cause else s) f cause r

/-- Every grant ends (R369: a life-cycle transition, a CCORE reset). -/
def State.endAllGrants (s : State) (cause : Nat) : State := s.endGrants (fun _ _ => true) cause (List.range 31)

/-- Every grant of an application core ends: the reset of the core (R369, R441). -/
def State.endCoreGrants (s : State) (c : Nat) : State :=
  s.endGrants (fun s g => s.holder g == c + 1) 4 (List.range 31)

/-- Every grant taken on a channel ends. -/
def State.endChanGrants (s : State) (ch cause : Nat) : State :=
  s.endGrants (fun s g => s.holder g == 5 && s.fld (R.MB_GRANT g) 7 4 == ch) cause (List.range 31)

/-- The grants of the host channels end at a reset of a host port (R369). -/
def State.endHostGrants (s : State) : State := (s.endChanGrants 12 5).endChanGrants 13 5

/-! ### What Wounser reloads -/

/-- The RWG fields of a register take the values of Wounser's own loads (R369; log 47). -/
def restoreFields (cal now : Nat) : List Fld → Nat
  | [] => now
  | f :: r => if f.acc = .rwg then putBits (restoreFields cal now r) f.hi f.lo (bitsOf cal f.hi f.lo) else restoreFields cal now r

/-- Restore the register at an address. -/
def State.restoreReg (s : State) (a : Nat) : State :=
  match regAt a with
  | some (_, _, r, _) =>
    if r.has .rwg ∧ s.addrOn a then s.setReg a (restoreFields (spGet (resetOf a) s.mbox.cal a).toNat (s.rd a) r.fields) else s
  | none => s

/-- Restore every RWG field of the registers from `lo` to `hi` (R369). -/
def State.restoreRange (s : State) (lo hi : Nat) : State :=
  let keys := (s.regs.map (fun p => p.1) ++ s.mbox.cal.map (fun p => p.1)).filter (fun a => lo ≤ a && a < hi)
  keys.foldl (fun s a => s.restoreReg a) s

/-- Wounser writes a register and keeps the value as its own load (log 47). -/
def State.calWrite (s : State) (a v : Nat) : State :=
  (s.setReg a v).onMbox (fun m => { m with cal := spPut (resetOf a) m.cal a (BitVec.ofNat 32 v) })

/-- Write words at consecutive registers, as Wounser's own load. -/
def State.calWords (s : State) : Nat → List Nat → State
  | _, [] => s
  | a, w :: r => State.calWords (s.calWrite a (w % 2 ^ 32)) (a + 4) r

/-- The device head of head `h` of section n (R10, R44). -/
def devHead (n : Fin 4) (h : Nat) : Nat := 8 * n.val + h % 8

/-- Index of the zone that holds a track in a table. -/
def ZoneTable.zoneIdx (z : ZoneTable) (t : Nat) : Option Nat :=
  (List.range z.zones.length).find? (fun k => match z.zones[k]? with
    | some e => e.first ≤ t && t < e.first + e.count
    | none => false)

/-- The band of a track of head `h` (R371). -/
def State.bandOf (s : State) (n : Fin 4) (h track : Nat) : Option (Nat × BandCal × ChCal) :=
  match (findKey (devHead n h) s.mbox.chcal), (s.sec n).zoneNew[headIdx h] with
  | some c, some z =>
    match z.zoneIdx track with
    | some k => ((List.range c.bands.length).find? (fun j => match c.bands[j]? with
        | some b => b.firstZone ≤ k && k ≤ b.lastZone
        | none => false)).bind (fun j => (c.bands[j]?).map (fun b => (j, b, c)))
    | none => none
  | _, _ => none

/-- The bits of word `j` of an equaliser set that hold a field (R133). -/
def eqMask (j : Nat) : Nat := if j = 0 then 1 else if j < 50 then 0x03FF03FF else if j < 58 then 0xFFFFFFFF else 0

/-- Step 1 of R372: the head's band values go to CH_AFE, CH_AGC, CH_WPC0, CH_WPC1 and the equaliser sets, unless a CHAN grant of
the section is held. -/
def State.loadBand (s : State) (n : Fin 4) (h track : Nat) : State :=
  if s.holder (4 + n) ≠ 0 then s
  else
    match s.bandOf n h track with
    | none => s
    | some (_, b, c) =>
      let s := (((s.setReg (R.CH_AFE n) b.afe).setReg (R.CH_AGC n) b.agc).setReg (R.CH_WPC0 n) b.wpc0).setReg (R.CH_WPC1 n) b.wpc1
      let put (s : State) (k : Nat) (ws : List Nat) : State :=
        (List.range 64).foldl (fun s j => s.setReg (R.CH_EQ n (64 * k + j)) (ws.getD j 0 &&& eqMask j)) s
      let s := put s 0 (b.eq0.set 0 (b.eq0.headD 0 ||| 1))
      ((List.range 8).foldl (fun s k => put s (k + 1) (c.sets.getD k [])) s).onChan n (fun x => { x with afeCopy := none })

/-- Restore the unit of grant `g` (R369). -/
def State.restoreUnit (s : State) (g : Fin 31) : State :=
  let (f, u) := grantUnit g
  let n : Fin 4 := ⟨u % 4, Nat.mod_lt _ (by decide)⟩
  match f with
  | 0 =>
    let s := ((s.restoreRange (baseLoop n) (baseLoop n + 0x2000)).restoreRange (baseAtb n) (baseAtb n + 0x1000)).restoreRange
      (baseAct n) (baseAct n + 0x1000)
    -- with heads loaded Wounser switches to region 7 by LOOP_MODE before it rewrites the other regions
    if s.parked n then s else s.onLoop n (fun l => { l with pend := some (BitVec.ofNat 32 (4 * 7), 0#32) })
  | 1 =>
    let e := s.rd (R.MB_GRANT (4 + n))
    ((s.setReg (R.MB_GRANT (4 + n)) 0).loadBand n (s.head n) (s.tgtTrack n)).setReg (R.MB_GRANT (4 + n)) e
  | 2 => s.restoreRange baseSpin (baseSpin + 0x1000)
  | 3 => s.setReg (R.SQZ_TUNE u) 0x14
  | 5 => s.restoreRange basePmu (basePmu + 0x10000)
  | _ => s

/-- GRANT_RESTORE: the unit is restored, and its entry clears (R369). -/
def State.grantRestore (s : State) (g : Fin 31) : State :=
  if s.wounserUp ∧ s.holder g = 6 then (s.restoreUnit g).setReg (R.MB_GRANT g) 0 else s

/-- GRANT_EXPIRY (R369). -/
def State.grantExpiry (s : State) (g : Fin 31) : State :=
  match findKey g.val s.mbox.expiry with
  | some e => if s.wounserUp ∧ e ≤ s.gtc then s.endGrant g 1 else s
  | none => s

/-- GRANT_EXPIRY_WARN, 10 s before expiry (R370). -/
def State.grantWarn (s : State) (g : Fin 31) : State :=
  match findKey g.val s.mbox.expiry with
  | some e =>
    if s.wounserUp ∧ e ≤ s.gtc + 10000000000 ∧ s.mbox.warned.contains g = false ∧ s.held g then
      (s.notice_ (s.grantCh g) 2 g 0).onMbox (fun m => { m with warned := g :: m.warned })
    else s
  | none => s

/-- CHALLENGE_LAPSE: 60 s after its issue (R368). -/
def State.chalLapse (s : State) (ch : Fin 16) : State :=
  match (s.chan ch).chal with
  | some (_, t0) => if t0 + 60000000000 ≤ s.gtc then s.onMbChan ch (fun c => { c with chal := none }) else s
  | none => s

/-! ### Commands -/

/-- MAILBOX_RING (R359). -/
def execMailboxRing (t : Nat) (i : Initiator) (ch : Fin 16) (s : State) : Res := .next ((s.at t).mbRing i ch)

/-- MAILBOX_TIMEOUT (R361). -/
def execMailboxTimeout (t : Nat) (ch : Fin 16) (s : State) : Res := .next ((s.at t).mbTimeout ch)

/-- GRANT_EXPIRY (R369). -/
def execGrantExpiry (t : Nat) (g : Fin 31) (s : State) : Res := .next ((s.at t).grantExpiry g)

/-- GRANT_EXPIRY_WARN (R370). -/
def execGrantExpiryWarn (t : Nat) (g : Fin 31) (s : State) : Res := .next ((s.at t).grantWarn g)

/-- GRANT_RESTORE (R369). -/
def execGrantRestore (t : Nat) (g : Fin 31) (s : State) : Res := .next ((s.at t).grantRestore g)

/-- CHALLENGE_LAPSE (R368). -/
def execChallengeLapse (t : Nat) (ch : Fin 16) (s : State) : Res := .next ((s.at t).chalLapse ch)

end Sys2Proof.Machine
end

