-- ==== Sys2Proof/Machine/Rope.lean ====
section
/-! DEFINITION. Rope between the two devices of a pair (R470 to R484): ownership, the link, pairing, heartbeats, messages, mirror jobs,
and their commands. -/

namespace Sys2Proof.Machine

open Sys2Proof

/-- Change ROPE. -/
def State.onRope (s : State) (f : RopeSt → RopeSt) : State := { s with rope := f s.rope }

/-- Something that acts in ROPE while it is ON. -/
def State.ifRope (s : State) (f : State → State) : State := if s.domOn 13 then f s else s

/-- The link is up. -/
def State.ropeUp (s : State) : Bool := s.bit R.ROPE_STATUS 0

/-- The peer is SUSPECT. -/
def State.suspect (s : State) : Bool := s.bit R.ROPE_STATUS 2

/-- A bit of ROPE_INT_STATUS, and its interrupt where enabled: bits 0 to 2 and 5 to the Control Core, 3 and 4 to an application
core (R484). -/
def State.ropeInt (s : State) (k : Nat) : State :=
  let s := s.setBit R.ROPE_INT_STATUS k true
  if s.bit R.ROPE_INT_EN k then
    s.irq (if k = 3 ∨ k = 4 then appTarget (s.fld R.ROPE_MSG_STAT 17 16) else .cc) (.unit 192)
  else s

/-- Every mirror job that runs ends LINK (R481). -/
def State.mirLink (s : State) : State :=
  s.onRope (fun r => { r with mir := r.mir.map (fun m => m.map (fun x => { x with status := some (x.status.getD 3) })) })

/-- PAIRED clears (R476). -/
def State.unpair (s : State) : State := (s.setBit R.ROPE_STATUS 1 false).mirLink

/-- The peer becomes SUSPECT (R369, R477, R481). -/
def State.suspectPeer (s : State) : State :=
  (((((s.setBit R.ROPE_STATUS 2 true).ropeInt 0).bump R.ROPE_CNT_HBMISS).sendFault 192 kHEARTBEAT 0).mirLink).endChanGrants 15 7

/-- The Rope link goes down (R475, R476). -/
def State.ropeDown (s : State) (msg : Bool) : State :=
  if s.ropeUp = false then s
  else
    let s := ((s.setBit R.ROPE_STATUS 0 false).unpair).onRope (fun r => { r with
      downAt := some s.gtc
      rx := { r.rx with replays := 0 } })
    if msg then (s.bump R.ROPE_CNT_DOWN).sendFault 192 kLINKUE 0 else s

/-- Retraining completes: messages that waited are sent (R475, R484). -/
def State.ropeTrained (s : State) : State :=
  if s.ropeUp then s
  else
    let s := (s.setBit R.ROPE_STATUS 0 true).setFld R.ROPE_STATUS 9 8 3
    let q := s.rope.txq
    let s := s.onRope (fun r => { r with
      downAt := none
      txq := []
      hbAt := s.gtc })
    { s with toPeer := s.toPeer ++ q.map RopeTx.msg }

/-- A flit arrives: accepted, corrected, or replayed; the eighth replay that fails takes the link down (R475). -/
def State.ropeFlit (s : State) (flit : Nat) : State :=
  if s.ropeUp = false then s
  else
    let e := s.rope.rx
    let put (s : State) (e : LinkEnd) : State := s.onRope (fun r => { r with rx := e })
    match eccLinkClass (chk (flit / 65536) ^^^ (flit % 65536)) with
    | .clean => put s { e with replays := 0 }
    | .ue => if 8 ≤ e.replays then s.ropeDown true else put (s.bump R.ROPE_CNT_REPLAY) { e with replays := e.replays + 1 }
    | _ =>
      let s := s.bump R.ROPE_CNT_CE
      if 1024 ≤ e.ceTotal + 1 then put (s.sendFault 192 kCE 0) ⟨0, 0⟩ else put s ⟨e.ceTotal + 1, 0⟩

/-- The identity exchange completes: PAIRED sets, or Wounser clears its EN (R476). -/
def State.pair (s : State) (p : PeerId) : State :=
  if s.bit R.ROPE_CTRL 0 = false ∨ s.ropeUp = false ∨ s.bit R.ROPE_STATUS 4 ∨ p.en = false then s
  else
    let s := (List.range 4).foldl (fun s k => s.setReg (R.ROPE_PEER_ID k) (p.devid / 2 ^ (32 * k) % 2 ^ 32)) s
    if p.lc = s.lcState ∧ p.major = s.fld R.MB_VER 30 16 then
      (s.setBit R.ROPE_STATUS 1 true).onRope (fun r => { r with hbAt := s.gtc })
    else if s.wounserUp then s.setBit R.ROPE_CTRL 0 false
    else s

/-- A write of ROPE_CTRL: EN 0 unpairs; SOLO is copied (R476, R484). -/
def State.ropeCtrl (s : State) (w : Nat) : State :=
  let s := (s.setFld R.ROPE_CTRL 2 0 w).setBit R.ROPE_STATUS 3 (bitOf w 1)
  if bitOf w 0 then s else s.unpair

/-- A write of ROPE_HB_KICK; other values are ignored (R477). -/
def State.hbKick (s : State) (w : Nat) : State := if w = 0x4B43 then s.onRope (fun r => { r with kickAt := some s.gtc }) else s

/-- HEARTBEAT_SEND: every 50 µs while kicked within 1 ms (R477). -/
def State.hbSend (s : State) : State :=
  match s.rope.kickAt with
  | some k => if s.bit R.ROPE_CTRL 2 ∧ s.gtc ≤ k + 1000000 then s.sendPeer .heartbeat else s
  | none => s

/-- A write of ROPE_OWN_REQ drives OWN_REQ (R470). -/
def State.ownReq (s : State) (w : Nat) : State := (s.setReg R.ROPE_OWN_REQ (w % 32)).setFld R.ROPE_OWN 4 0 w

/-- SUSPECT clears: Wounser withdraws every request that is not granted and that no OWN_TAKE names (R480). -/
def State.withdraw (s : State) : State :=
  let takes := s.mbox.chans.toList.foldl (fun x c => match c.run with
    | some (.take m _) => x ||| m
    | _ => x) 0
  if s.suspect ∧ s.wounserUp then s.ownReq (s.fld R.ROPE_OWN 4 0 &&& (s.fld R.ROPE_OWN 12 8 ||| takes)) else s

/-- HEARTBEAT_RECEIVE (R477, R480). -/
def State.hbReceive (s : State) : State :=
  if s.ropeUp then (s.withdraw.setBit R.ROPE_STATUS 2 false).onRope (fun r => { r with hbAt := s.gtc }) else s

/-- HEARTBEAT_LOSS: 150 µs without a heartbeat while paired, or a link-down of more than 150 µs (R477). -/
def State.hbLoss (s : State) : State :=
  let down : Bool := match s.rope.downAt with
    | some t => decide (t + 150000 < s.gtc)
    | none => false
  if s.suspect = false ∧ ((s.paired ∧ s.rope.hbAt + 150000 ≤ s.gtc) ∨ down = true) then s.suspectPeer else s

/-- PEER_SAFE_RECEIVE: Wounser issues SAFE_ENTER while the peer owns the spindle and a section is unparked (R478). -/
def State.peerSafeIn (s : State) : State :=
  if s.ropeUp = false then s
  else
    let s := (s.setBit R.ROPE_STATUS 5 true).ropeInt 1
    if s.wounserUp ∧ s.ownsSpin = false ∧ s.allParked = false then
      (s.enterSafe 111 kSAFEREQ 0).sendFault 111 kSAFEREQ 0
    else s

/-! ### Ownership (R470 to R474, R480) -/

/-- The section of ownership unit `u` (1 to 4). -/
def unitSec (u : Fin 5) : Fin 4 := ⟨(u.val + 3) % 4, Nat.mod_lt _ (by decide)⟩

/-- The unit is not owned any more: the section is parked with its ATB in MASTER and its loop in IDLE; SPIN is OFF (R472, R474). -/
def State.loseUnit (s : State) (u : Fin 5) (forced : Bool) : State :=
  if u = 0 then s.spinGo spOFF
  else
    let n := unitSec u
    let s := if forced then (s.flushEvents n).schedEnd n 3 else s
    let s := s.setSec n { s.sec n with load := none }
    let s := (s.retractStop n).assertWinh n
    ((s.setFld (R.LOOP_STATUS n) 1 0 2).setBit (R.LOOP_STATUS n) 5 false).onLoop n (fun l => { l with pend := none, nextReg := none })

/-- Wounser takes the spindle: the peer is SUSPECT, or an OWN_TAKE that names it runs (R479, R480). -/
def State.takesSpin (s : State) : Bool :=
  s.suspect || s.mbox.chans.toList.any (fun c => match c.run with
    | some (.take m _) => bitOf m 0
    | _ => false)

/-- OWN_GNT of unit `u` changes (R472, R474, R479, R480). -/
def State.gntChange (s : State) (u : Fin 5) (level : Bool) : State :=
  if s.owned u = level then s
  else
    let s := (s.setBit R.ROPE_OWN (8 + u) level).ropeInt 2
    if level then
      let s := if u = 0 ∧ s.wounserUp ∧ s.takesSpin then s.onWrite .cc R.SP_CMD .cc (fun s => s.spinCmd 1) else s
      if s.suspect ∧ s.wounserUp then
        let s := if u = 0 then s else s.startRetract (unitSec u)
        if (List.range 5).all (fun k => s.owned k) then (s.setBit R.ROPE_CTRL 1 true).setBit R.ROPE_STATUS 3 true else s
      else s
    else
      let forced := s.bit R.ROPE_OWN u
      let s := s.loseUnit u forced
      if forced then
        let s := (s.ropeInt 5).sendFault 192 kHEARTBEAT (2 ^ u.val)
        if s.wounserUp then (s.setBit R.ROPE_OWN_REQ u false).setBit R.ROPE_OWN u false else s
      else s

/-! ### Messages (R484) -/

/-- A write of ROPE_TXMSG3 sends the staged message; with 16 waiting it is discarded with OVERRUN (R484). -/
def State.msgSend (s : State) (w3 : Word) : State :=
  let m : List Word := (List.range 3).map (fun k => BitVec.ofNat 32 (spGet 0 s.rope.txw k)) ++ [w3]
  if s.ropeUp then { s with toPeer := s.toPeer ++ [.msg m] }
  else if s.rope.txq.length < 16 then s.onRope (fun r => { r with txq := r.txq ++ [m] })
  else s.sendFault 192 kOVERRUN 0

/-- A message arrives and is held while there is room (R484). -/
def State.msgReceive (s : State) (m : List Word) : State :=
  if s.ropeUp ∧ s.rope.rxq.length < 16 then (s.onRope (fun r => { r with rxq := r.rxq ++ [m] })).ropeInt 3 else s

/-! ### Mirror jobs (R481) -/

/-- The descriptor at the head of core c's mirror ring: its words. -/
def State.mirHead (s : State) (c : Nat) : List Nat :=
  let a := s.rd64 (R.ROPE_MQ_BASE_LO c) (R.ROPE_MQ_BASE_HI c) + 64 * (s.rd (R.ROPE_MQ_CONS c) % s.rd (R.ROPE_MQ_SIZE c))
  let r := s.busRead 5 a 64
  (List.range 16).map (fun k => wordAt r.bytes (4 * k))

/-- OP of a descriptor. -/
def mirOp (w : List Nat) : Nat := w.headD 0 % 16

/-- Reserved values and misalignment (R481). -/
def mirOk (w : List Nat) : Bool :=
  let d (k : Nat) : Nat := w.getD k 0
  let op := mirOp w
  1 ≤ op && op ≤ 3 && bitsOf (d 0) 15 4 == 0 && bitsOf (d 1) 31 16 == 0 && d 3 == 0 && (w.drop 10).all (· == 0)
    && (if op = 3 then d 2 == 0
        else d 2 % 64 == 0 && 64 ≤ d 2 && d 2 ≤ 16777216 && dramAligned 64 (d 4 + 2 ^ 32 * d 5) && dramAligned 64 (d 6 + 2 ^ 32 * d 7))
    && (op != 2 || dramAligned 64 (d 8 + 2 ^ 32 * d 9))

/-- Core c's next mirror job starts if its OP meets `ok` (R481). -/
def State.mirStart (s : State) (c : Fin 4) (ok : Nat → Bool) : State :=
  let size := s.rd (R.ROPE_MQ_SIZE c)
  let w := s.mirHead c
  if s.domOn 13 = false ∨ s.rope.mir[c].isSome ∨ s.rd (R.ROPE_MQ_PROD c) % size = s.rd (R.ROPE_MQ_CONS c) % size
      ∨ ok (mirOp w) = false then s
  else
    let d (k : Nat) : Nat := w.getD k 0
    let op := mirOp w
    let s := s.setReg (R.ROPE_MQ_CONS c) (ringNext (s.rd (R.ROPE_MQ_CONS c) % size) size)
    let run (s : State) (st : Option Nat) : State := s.onRope (fun r => { r with mir := r.mir.set c (some ⟨d 0 / 65536, st⟩) })
    if mirOk w = false then run s (some 4)
    else if s.paired = false ∨ s.suspect then run s (some 3)
    else if op = 3 then run (s.sendPeer (.clean (d 1 % 65536))) none
    else
      let data := s.busRead 5 (d 4 + 2 ^ 32 * d 5) (d 2)
      let ent : BytesRead := if op = 2 then data.st.busRead 5 (d 8 + 2 ^ 32 * d 9) 64 else ⟨data.st, [], false⟩
      if data.err ∨ ent.err then run ent.st (some 5)
      else
        let s := ent.st.sendPeer (.copy (d 6 + 2 ^ 32 * d 7) data.bytes)
        run (if op = 2 then s.sendPeer (.mark (d 1 % 65536) ent.bytes) else s) none

/-- Core c's mirror job ends: its completion is written once its ring has room (R481). -/
def State.mirEnd (s : State) (c : Fin 4) (status res : Nat) : State :=
  match s.rope.mir[c] with
  | none => s
  | some m =>
    if s.domOn 13 = false ∨ ringFull (s.rd (R.ROPE_MC_PROD c)) (s.rd (R.ROPE_MC_CONS c)) (s.rd (R.ROPE_MC_SIZE c)) then s
    else
      let st := m.status.getD (status % 4)
      let s := s.onRope (fun r => { r with mir := r.mir.set c none })
      (s.ringWrite (R.ROPE_MC_BASE_LO c) (R.ROPE_MC_BASE_HI c) (R.ROPE_MC_SIZE c) (R.ROPE_MC_PROD c)
        (wordsToBytes [m.tag + 65536 * st, if m.status.isSome then 0 else res, s.gtc % 2 ^ 32, s.gtc / 2 ^ 32]) 16).ropeInt 4

/-! ### Commands -/

/-- OWN_REQ_WRITE (R470). -/
def execOwnReqWrite (t : Nat) (i : Initiator) (w : BitVec 32) (s : State) : Res :=
  .next ((s.at t).onReg i R.ROPE_OWN_REQ (fun s => s.ownReq w.toNat))

/-- OWN_GNT_CHANGE (R474). -/
def execOwnGntChange (t : Nat) (u : Fin 5) (level : Bool) (s : State) : Res := .next ((s.at t).gntChange u level)

/-- PEER_SAFE_N_CHANGE (R470). -/
def execPeerSafeNChange (t : Nat) (u : Fin 5) (level : Bool) (s : State) : Res :=
  .next ((s.at t).setBit R.ROPE_OWN (16 + u) level)

/-- ROPE_FLIT_RECEIVE (R475). -/
def execRopeFlitReceive (t : Nat) (flit : BitVec 144) (s : State) : Res := .next ((s.at t).ifRope (fun s => s.ropeFlit flit.toNat))

/-- ROPE_LINK_UP (R476). -/
def execRopeLinkUp (t : Nat) (s : State) : Res := .next ((s.at t).ifRope (fun s => s.ropeTrained))

/-- ROPE_RETRAIN (R484). -/
def execRopeRetrain (t : Nat) (i : Initiator) (s : State) : Res := .next ((s.at t).onReg i R.ROPE_CMD (fun s => s.ropeDown false))

/-- PAIR (R476). -/
def execPair (t : Nat) (peer : PeerId) (s : State) : Res := .next ((s.at t).ifRope (fun s => s.pair peer))

/-- ROPE_HB_KICK (R477). -/
def execRopeHbKick (t : Nat) (i : Initiator) (w : BitVec 32) (s : State) : Res :=
  .next ((s.at t).onReg i R.ROPE_HB_KICK (fun s => s.hbKick w.toNat))

/-- HEARTBEAT_SEND (R477). -/
def execHeartbeatSend (t : Nat) (s : State) : Res := .next ((s.at t).ifRope (fun s => s.hbSend))

/-- HEARTBEAT_RECEIVE (R477). -/
def execHeartbeatReceive (t : Nat) (s : State) : Res := .next ((s.at t).ifRope (fun s => s.hbReceive))

/-- HEARTBEAT_LOSS (R477). -/
def execHeartbeatLoss (t : Nat) (s : State) : Res := .next ((s.at t).ifRope (fun s => s.hbLoss))

/-- PEER_SAFE_RECEIVE (R478). -/
def execPeerSafeReceive (t : Nat) (s : State) : Res := .next ((s.at t).ifRope (fun s => s.peerSafeIn))

/-- COPY: reserved OP values end here too, BAD_DESC (R481). -/
def execCopy (t : Nat) (c : Fin 4) (s : State) : Res := .next ((s.at t).mirStart c (fun op => op != 2 && op != 3))

/-- COPY_MARK (R481). -/
def execCopyMark (t : Nat) (c : Fin 4) (s : State) : Res := .next ((s.at t).mirStart c (· == 2))

/-- MIRROR_CLEAN (R481). -/
def execMirrorClean (t : Nat) (c : Fin 4) (s : State) : Res := .next ((s.at t).mirStart c (· == 3))

/-- MIRROR_COMPLETE (R481): STATUS and BUF_DT_RES as the peer answers. -/
def execMirrorComplete (t : Nat) (c : Fin 4) (status : BitVec 4) (res : BitVec 32) (s : State) : Res :=
  .next ((s.at t).mirEnd c status.toNat res.toNat)

/-- ROPE_MESSAGE_SEND (R484). -/
def execRopeMessageSend (t : Nat) (i : Initiator) (w3 : BitVec 32) (s : State) : Res :=
  .next ((s.at t).onReg i (R.ROPE_TXMSG 3) (fun s => s.msgSend w3))

/-- ROPE_MESSAGE_RECEIVE (R484). -/
def execRopeMessageReceive (t : Nat) (w0 w1 w2 w3 : BitVec 32) (s : State) : Res :=
  .next ((s.at t).ifRope (fun s => s.msgReceive [w0, w1, w2, w3]))

/-- ROPE_RXMSG_POP (R484). -/
def execRopeRxmsgPop (t : Nat) (i : Initiator) (s : State) : Res :=
  .next ((s.at t).onReg i R.ROPE_RXMSG_POP (fun s => s.onRope (fun r => { r with rxq := r.rxq.drop 1 })))

/-- ROPE_LANE_LOCK_LOSS (R475). -/
def execRopeLaneLockLoss (t : Nat) (lane : Fin 2) (s : State) : Res :=
  .next ((s.at t).ifRope (fun s => if s.ropeUp then (s.setBit R.ROPE_STATUS (8 + lane) false).ropeDown true else s))

end Sys2Proof.Machine
end

