-- ==== Sys2Proof/Machine/SqzCode.lean ====
section
/-! DEFINITION. The Squeeze stream (R312 to R319), its decoder with its errors (R326, R330), and the compressor (R321, R325, R327)
up to the choice of matches, which is a free function (log 14). -/

namespace Sys2Proof.Machine

open Sys2Proof

/-! ### Codes -/

/-- The bits of the exp-Golomb code of order `k` for `x`, in the order sent (R316). -/
def egBits (k x : Nat) : List Bool :=
  let v := x + 2 ^ k
  let n := Nat.log2 v
  List.replicate (n - k) false ++ (List.range (n + 1)).map (fun j => bitOf v (n - j))

/-- The bits of a residue code (R317). -/
def resBits (rtab z : Nat) : List Bool :=
  if rtab = 4 then (List.range 8).map (fun j => bitOf z (7 - j)) else egBits rtab z

/-- Zigzag value of a byte under a prediction (R315). -/
def zigzag (byte p : Nat) : Nat :=
  let r := (byte + 256 - p) % 256
  if r < 128 then 2 * r else 2 * (256 - r) - 1

/-- The byte that a zigzag value stands for under a prediction (R315). -/
def unzigzag (z p : Nat) : Nat := (if z % 2 = 0 then p + z / 2 else p + 256 - (z + 1) / 2) % 256

/-- Offset back of the predictor (R315). -/
def predBack (pred : Nat) : Nat :=
  match pred with
  | 1 => 1
  | 2 => 4
  | 3 => 8
  | _ => 0

/-- The header (R314). -/
def sqzHeader (pred rtab len : Nat) : Nat :=
  let h := 1 + 16 * pred + 64 * rtab + 1024 * (len - 1)
  h + 67108864 * (h % 59)

/-! ### Decoding -/

/-- What reading a code gives: a value and the position behind it, an illegal code, or the end of the stream. -/
inductive Rd where
  | ok (v pos : Nat)
  | illegal
  | trunc
deriving DecidableEq, Repr

/-- `w` bits from `pos`, most significant first. -/
def msbRead (x : Nat) : Nat → Nat → Nat → Nat
  | _, 0, r => r
  | pos, w + 1, r => msbRead x (pos + 1) w (2 * r + b2n (bitOf x pos))

/-- Count zeros up to the first 1 of an exp-Golomb code; more than 16 are illegal (R316). -/
def egZeros (x nb : Nat) : Nat → Nat → Nat → Rd
  | 0, _, _ => .illegal
  | k + 1, pos, z =>
    if nb ≤ pos then .trunc
    else if bitOf x pos then .ok z pos
    else if 16 ≤ z then .illegal
    else egZeros x nb k (pos + 1) (z + 1)

/-- Read an exp-Golomb code of order `k` at `pos` of a stream of `nb` bits (R316). -/
def egRead (x nb k pos : Nat) : Rd :=
  match egZeros x nb 18 pos 0 with
  | .ok z p =>
    let w := z + k + 1
    if nb < p + w then .trunc else .ok (msbRead x p w 0 - 2 ^ k) (p + w)
  | r => r

/-- Read a residue code (R317). An EG value above 255 names no zigzag value (log 42). -/
def resRead (x nb rtab pos : Nat) : Rd :=
  if rtab = 4 then (if nb < pos + 8 then .trunc else .ok (msbRead x pos 8 0) (pos + 8))
  else
    match egRead x nb rtab pos with
    | .ok v p => if v ≤ 255 then .ok v p else .illegal
    | r => r

/-- A token as read (R316). -/
inductive Tok where
  | residue (z pos : Nat)
  /-- length, distance; `none`: the last distance -/
  | copy (len : Nat) (dist : Option Nat) (pos : Nat)
  | endBlock (pos : Nat)
  | illegal
  | trunc
deriving DecidableEq, Repr

/-- The rest of a match token: the length, then the distance unless it repeats. -/
def copyRead (x nb pos : Nat) (rep : Bool) : Tok :=
  match egRead x nb 2 pos with
  | .ok l p =>
    if rep then .copy (l + 4) none p
    else
      match egRead x nb 4 p with
      | .ok d q => .copy (l + 4) (some (d + 1)) q
      | .illegal => .illegal
      | .trunc => .trunc
  | .illegal => .illegal
  | .trunc => .trunc

/-- Read the token at `pos` (R316). -/
def tokRead (x nb rtab pos : Nat) : Tok :=
  if nb ≤ pos then .trunc
  else if bitOf x pos = false then
    match resRead x nb rtab (pos + 1) with
    | .ok z p => .residue z p
    | .illegal => .illegal
    | .trunc => .trunc
  else if nb ≤ pos + 1 then .trunc
  else if bitOf x (pos + 1) = false then copyRead x nb (pos + 2) false
  else if nb ≤ pos + 2 then .trunc
  else if bitOf x (pos + 2) = false then copyRead x nb (pos + 3) true
  else if nb ≤ pos + 3 then .trunc
  else if bitOf x (pos + 3) then .illegal
  else .endBlock (pos + 4)

/-- STATUS values (R324). -/
def sqOK : Nat := 0
def sqOUTFULL : Nat := 1
def sqNOGAIN : Nat := 2
def sqBADHEADER : Nat := 3
def sqILLEGAL : Nat := 4
def sqDISTANCE : Nat := 5
def sqOVERRUN : Nat := 6
def sqSHORT : Nat := 7
def sqTRUNCATED : Nat := 8
def sqCRC : Nat := 9
def sqBADDESC : Nat := 10
def sqMEMERR : Nat := 11
def sqFENCED : Nat := 12

/-- The decoder between tokens: bits consumed, bytes produced newest first, their count, the last distance. -/
structure Dec where
  pos : Nat
  out : List Byte
  n : Nat
  last : Option Nat
deriving DecidableEq, Repr

/-- How decoding ends: STATUS, EBIT, the decoder, and the rest of a match cut by the output space. -/
structure DecEnd where
  status : Nat
  ebit : Nat
  d : Dec
  mid : Option (Nat × Nat) := none
deriving DecidableEq, Repr

/-- Copy `k` bytes from `dist` positions back, one at a time (R316). A record that names history it does not have reads the byte
`free` (log 42). -/
def copyBytes (free : Byte) (dist : Nat) : Nat → List Byte → List Byte
  | 0, out => out
  | k + 1, out => copyBytes free dist k (out.getD (dist - 1) free :: out)

/-- What a block's decoding needs to know. -/
structure DecEnv where
  x : Nat
  nb : Nat
  pred : Nat
  rtab : Nat
  blen : Nat
  olen : Nat
  nocrc : Bool
  free : Byte := 0#8
deriving DecidableEq, Repr

/-- A match or its rest: all of it, or the bytes that fit (R326). -/
def DecEnv.put (e : DecEnv) (d : Dec) (len dist : Nat) : Dec ⊕ DecEnd :=
  let k := min len (e.olen - d.n)
  let d' : Dec := { d with out := copyBytes e.free dist k d.out, n := d.n + k }
  if k < len then .inr ⟨sqOUTFULL, 0, d', some (len - k, dist)⟩ else .inl d'

/-- End of block: padding, then the trailer (R318, R330). -/
def DecEnv.finish (e : DecEnv) (d : Dec) (tok pos : Nat) : DecEnd :=
  if d.n < e.blen then ⟨sqSHORT, tok, d, none⟩
  else
    let edge := (pos + 7) / 8 * 8
    match (List.range (edge - pos)).find? (fun k => bitOf e.x (pos + k)) with
    | some k => ⟨sqILLEGAL, pos + k, { d with pos := pos + k }, none⟩
    | none =>
      if e.nb < edge + 32 then ⟨sqTRUNCATED, edge, { d with pos := edge }, none⟩
      else if e.nocrc = false ∧ e.x / 2 ^ edge % 2 ^ 32 ≠ crc32c d.out.reverse then
        ⟨sqCRC, edge, { d with pos := edge + 32 }, none⟩
      else ⟨sqOK, 0, { d with pos := edge + 32 }, none⟩

/-- Decode tokens until the block ends (R316, R326, R330). -/
def DecEnv.run (e : DecEnv) : Nat → Dec → DecEnd
  | 0, d => ⟨sqTRUNCATED, d.pos, d, none⟩
  | fuel + 1, d =>
    if e.olen ≤ d.n ∧ d.n < e.blen then ⟨sqOUTFULL, 0, d, none⟩
    else
      match tokRead e.x e.nb e.rtab d.pos with
      | .trunc => ⟨sqTRUNCATED, d.pos, d, none⟩
      | .illegal => ⟨sqILLEGAL, d.pos, d, none⟩
      | .endBlock p => e.finish d d.pos p
      | .residue z p =>
        if e.blen ≤ d.n then ⟨sqOVERRUN, d.pos, d, none⟩
        else
          let b := predBack e.pred
          let pv := if b = 0 then 0 else (d.out.getD (b - 1) 0#8).toNat
          DecEnv.run e fuel ⟨p, BitVec.ofNat 8 (unzigzag z pv) :: d.out, d.n + 1, d.last⟩
      | .copy len dist p =>
        match (match dist with
          | some k => some k
          | none => d.last) with
        | none => ⟨sqDISTANCE, d.pos, d, none⟩
        | some k =>
          if d.n < k then ⟨sqDISTANCE, d.pos, d, none⟩
          else if e.blen < d.n + len then ⟨sqOVERRUN, d.pos, d, none⟩
          else
            match e.put { d with pos := p, last := some k } len k with
            | .inl d' => DecEnv.run e fuel d'
            | .inr r => r

/-- The header's fields, and whether they are good (R314, R330). -/
def headerOk (h : Nat) : Bool :=
  h % 16 == 1 && bitsOf h 8 6 ≤ 4 && bitOf h 9 = false && h / 67108864 == h % 67108864 % 59

/-! ### Compressing -/

/-- Prediction at an offset of the input. -/
def predAt (input : List Byte) (pred i : Nat) : Nat :=
  let b := predBack pred
  if b = 0 ∨ i < b then 0 else (input.getD (i - b) 0#8).toNat

/-- Bits that the first `n` bytes take as residues under a choice of PRED and RTAB (R321). -/
def residueCost (input : List Byte) (pred rtab n : Nat) : Nat :=
  (List.range n).foldl (fun acc i => acc + (resBits rtab (zigzag (input.getD i 0#8).toNat (predAt input pred i))).length) 0

/-- The cheapest pair of a list, the first of equals. -/
def cheapest (cost : Nat × Nat → Nat) : List (Nat × Nat) → Nat × Nat → Nat × Nat
  | [], best => best
  | p :: r, best => cheapest cost r (if cost p < cost best then p else best)

/-- PRED and RTAB in use (R321). -/
def choosePair (input : List Byte) (pred rtab : Nat) : Nat × Nat :=
  let ps := if pred = 7 then [0, 1, 2, 3] else [pred]
  let rs := if rtab = 7 then [0, 1, 2, 3, 4] else [rtab]
  let all := ps.flatMap (fun p => rs.map (fun r => (p, r)))
  cheapest (fun p => residueCost input p.1 p.2 (min input.length 4096)) all (ps.headD 0, rs.headD 0)

/-- The compressor between tokens: input consumed, bits sent, the bits sent by this job in the order sent, newest first, the last
distance. -/
structure Enc where
  pos : Nat
  n : Nat
  bits : List Bool
  last : Option Nat
deriving DecidableEq, Repr

/-- Send a token of `len` bytes. -/
def Enc.send (c : Enc) (b : List Bool) (len : Nat) (last : Option Nat) : Enc :=
  ⟨c.pos + len, c.n + b.length, b.reverse ++ c.bits, last⟩

/-- A match of the input: at least 4 bytes, inside the block, each equal to the byte `d` before it (R312, R316, R319). -/
def matchOk (input : List Byte) (pos len d : Nat) : Bool :=
  4 ≤ len && 1 ≤ d && d ≤ pos && pos + len ≤ input.length
    && (List.range len).all (fun k => input.getD (pos + k) 0#8 == input.getD (pos + k - d) 0#8)

/-- Bits of a match token. -/
def matchBits (len d : Nat) (rep : Bool) : List Bool :=
  if rep then [true, true, false] ++ egBits 2 (len - 4) else [true, false] ++ egBits 2 (len - 4) ++ egBits 4 (d - 1)

/-- The longest length from `len` down to 4 whose token fits in `room` bits (R325). -/
def fitLen (d : Nat) (rep : Bool) (room : Nat) : Nat → Option Nat
  | 0 => none
  | k + 1 => if k + 1 < 4 then none else if (matchBits (k + 1) d rep).length ≤ room then some (k + 1) else fitLen d rep room k

/-- What a compressor works on: input, descriptor, TUNE, PRED, RTAB, bits of output space. -/
structure EncEnv where
  input : List Byte
  desc : List Nat
  tune : Nat
  pred : Nat
  rtab : Nat
  room : Nat
deriving DecidableEq, Repr

/-- The next token: none where it does not fit (R325). -/
def EncEnv.next (e : EncEnv) (c : Enc) : Option Enc :=
  let room := e.room - c.n
  let (len, d, rep) := Config.sqzToken e.input e.desc e.tune c.pos
  let rep := rep && c.last.isSome
  let d := if rep then c.last.getD 0 else d
  if matchOk e.input c.pos len d then
    (fitLen d rep room len).map (fun k => c.send (matchBits k d rep) k (some d))
  else
    let b := false :: resBits e.rtab (zigzag (e.input.getD c.pos 0#8).toNat (predAt e.input e.pred c.pos))
    if b.length ≤ room then some (c.send b 1 c.last) else none

/-- Compress until the input or the output space ends; `true`: the block is complete with its flush (R318, R325). -/
def EncEnv.run (e : EncEnv) : Nat → Enc → Enc × Bool
  | 0, c => (c, false)
  | fuel + 1, c =>
    if e.input.length ≤ c.pos then
      let pad := (8 - (c.n + 4) % 8) % 8
      let crc := crc32c e.input
      let tail := [true, true, true, false] ++ List.replicate pad false ++ (List.range 32).map (bitOf crc)
      if c.n + tail.length ≤ e.room then (c.send tail 0 c.last, true) else (c, false)
    else
      match e.next c with
      | some c' => EncEnv.run e fuel c'
      | none => (c, false)

/-- The number that bits in the order sent spell, first bit least significant (R313). -/
def bitsNat : List Bool → Nat
  | [] => 0
  | b :: r => b2n b + 2 * bitsNat r

end Sys2Proof.Machine
end

