-- ==== Sys2Proof/Machine/Squeeze.lean ====
section
/-! DEFINITION. Squeeze jobs (R320 to R330, R334): descriptors, resume records, what a job leaves in memory and in its completion
record, and their commands. -/

namespace Sys2Proof.Machine

open Sys2Proof

/-- A job's descriptor (R320). -/
structure SqzDesc where
  dir : Nat
  resume : Bool
  ng : Bool
  nocrc : Bool
  pred : Nat
  rtab : Nat
  tag : Nat
  ilen : Nat
  olen : Nat
  group : Nat
  inAddr : Nat
  outAddr : Nat
  rrec : Nat
deriving DecidableEq, Repr

/-- Read the fields of a descriptor's words. -/
def parseSqz (w : List Nat) : SqzDesc :=
  let d (k : Nat) : Nat := w.getD k 0
  ⟨d 0 % 2, bitOf (d 0) 1, bitOf (d 0) 2, bitOf (d 0) 3, bitsOf (d 0) 6 4, bitsOf (d 0) 10 8, d 0 / 65536,
   d 1 % 131072, d 2 % 131072, d 3 % 4096, d 4 + 2 ^ 32 * d 5, d 6 + 2 ^ 32 * d 7, d 8 + 2 ^ 32 * d 9⟩

/-- Reserved fields are 0, values in range, addresses aligned in the DRAM window (R320). -/
def sqzDescOk (w : List Nat) : Bool :=
  let d (k : Nat) : Nat := w.getD k 0
  let x := parseSqz w
  bitOf (d 0) 7 = false && bitsOf (d 0) 15 11 == 0 && d 1 / 131072 == 0 && d 2 / 131072 == 0 && d 3 / 4096 == 0
    && (w.drop 10).all (· == 0)
    && (if x.dir = 0 then !x.nocrc && (x.pred ≤ 3 || x.pred == 7) && (x.rtab ≤ 4 || x.rtab == 7) && 1 ≤ x.ilen
        else !x.ng && x.pred == 0 && x.rtab == 0 && 9 ≤ x.ilen)
    && x.ilen ≤ 65536 && 1 ≤ x.olen && x.olen ≤ 65536
    && dramAligned 64 x.inAddr && dramAligned 64 x.outAddr && dramAligned 64 x.rrec

/-- Input and output overlap: the outcome is undefined (R320). -/
def SqzDesc.overlaps (x : SqzDesc) : Bool := decide (x.inAddr < x.outAddr + x.olen) && decide (x.outAddr < x.inAddr + x.ilen)

/-- A resume record's fields (R328). -/
structure Resume where
  dir : Nat
  pred : Nat
  rtab : Nat
  mid : Bool
  ldv : Bool
  blen : Nat
  icons : Nat
  oprod : Nat
  mrem : Nat
  mdist : Nat
  ldist : Nat
  rcrc : Nat
deriving DecidableEq, Repr

/-- The bytes of a resume record (R328). -/
def Resume.bytes (r : Resume) : List Byte :=
  let h := toBytes 4 0x53520001 ++ toBytes 1 r.dir ++ toBytes 1 r.pred ++ toBytes 1 r.rtab ++ toBytes 1 (b2n r.mid + 2 * b2n r.ldv)
    ++ wordsToBytes [r.blen, r.icons, r.oprod, r.mrem, r.mdist, r.ldist, r.rcrc] ++ List.replicate 24 0#8
  h ++ toBytes 4 (crc32c h)

/-- Read a resume record; none where CHK or MAGIC is wrong (R329). -/
def parseResume (b : List Byte) : Option Resume :=
  let by_ (k : Nat) : Nat := (b.getD k 0#8).toNat
  if wordAt b 0 = 0x53520001 ∧ wordAt b 60 = crc32c (b.take 60) then
    some ⟨by_ 4, by_ 5, by_ 6, by_ 7 % 2 == 1, bitOf (by_ 7) 1, wordAt b 8, wordAt b 12, wordAt b 16, wordAt b 20, wordAt b 24,
          wordAt b 28, wordAt b 32⟩
  else none

/-- A resume record fits the job (R329; log 43). -/
def Resume.fits (r : Resume) (x : SqzDesc) : Bool :=
  r.dir == x.dir
    && (if x.dir = 0 then r.blen == x.ilen && r.icons ≤ x.ilen && r.oprod ≤ 8 * x.olen
        else r.icons ≤ 8 * x.ilen && r.oprod ≤ x.olen)

/-- What a job reports (R323), and its resume record where it writes one. -/
structure SqzEnd where
  st : State
  status : Nat
  icons : Nat
  oprod : Nat
  ebit : Nat
  pred : Nat
  rtab : Nat
  rr : Bool := false

/-- A job that ends without work. -/
def SqzEnd.plain (s : State) (status : Nat) : SqzEnd := ⟨s, status, 0, 0, 0, 0, 0, false⟩

/-- A job whose output and counts are not defined: FENCED, MEM_ERR (R327, R330, R334; log 12). -/
def State.sqzSpoilt (s : State) (x : SqzDesc) (status : Nat) : SqzEnd :=
  let a := s.freeNat 0
  let b := s.freeNat 1
  ⟨(s.useFree.useFree).spoil x.outAddr x.olen, status, a, b, 0, x.pred % 4, x.rtab, false⟩

/-- OUT_FULL: the resume record is written (R328). -/
def State.sqzFull (s : State) (x : SqzDesc) (r : Resume) : SqzEnd :=
  ⟨s.busWrite x.rrec r.bytes, sqOUTFULL, r.icons, r.oprod, 0, r.pred, r.rtab, true⟩

/-- A compress job over its input, from its start or from a resume record (R318, R325, R327, R329). -/
def State.compress (s : State) (x : SqzDesc) (words : List Nat) (tune : Nat) (input : List Byte) (r : Option Resume) : SqzEnd :=
  let pr := match r with
    | some r => (r.pred, r.rtab)
    | none => choosePair input x.pred x.rtab
  let room := 8 * x.olen
  let start : Option Enc := match r with
    | some r => if 0 < r.oprod then some ⟨r.icons, r.oprod, [], if r.ldv then some r.ldist else none⟩ else none
    | none => none
  let hdr := (List.range 32).map (bitOf (sqzHeader pr.1 pr.2 x.ilen))
  let e : EncEnv := ⟨input, words, tune, pr.1, pr.2, room⟩
  let zero : Enc := ⟨0, 0, [], none⟩
  let res : Enc × Bool := match start with
    | some c => e.run (x.ilen + 1) c
    | none => if room < 32 then (zero, false) else e.run (x.ilen + 1) (zero.send hdr 0 none)
  let c := res.1
  let n0 := c.n - c.bits.length
  let gain := decide (c.n < 8 * x.ilen)
  if (res.2 && !gain) || (!res.2 && x.ng) then
    ⟨s.spoil x.outAddr x.olen, sqNOGAIN, c.pos, c.n, 0, pr.1, pr.2, false⟩
  else
    let first := n0 / 8
    let old := (s.busRead 7 (x.outAddr + first) 1)
    let low := if n0 % 8 = 0 then 0 else (old.bytes.getD 0 0#8).toNat % 2 ^ (n0 % 8)
    let s := if n0 % 8 = 0 then s else old.st
    let v := low + 2 ^ (n0 % 8) * bitsNat c.bits.reverse
    let s := s.busWrite (x.outAddr + first) (toBytes ((c.n + 7) / 8 - first) v)
    if res.2 then ⟨s, sqOK, c.pos, c.n, 0, pr.1, pr.2, false⟩
    else s.sqzFull x ⟨0, pr.1, pr.2, false, c.last.isSome, x.ilen, c.pos, c.n, 0, 0, c.last.getD 0,
                      crc32c (input.take c.pos) ^^^ 0xFFFFFFFF⟩

/-- Write the bytes produced since `from_`, and the resume record where the output space ended. -/
def State.decompressEnd (s : State) (x : SqzDesc) (e : DecEnv) (from_ : Nat) (f : DecEnd) : SqzEnd :=
  let all := f.d.out.reverse
  let s := s.busWrite (x.outAddr + from_) (all.drop from_)
  if f.status = sqOUTFULL then
    s.sqzFull x ⟨1, e.pred, e.rtab, f.mid.isSome, f.d.last.isSome, e.blen, f.d.pos, f.d.n, (f.mid.getD (0, 0)).1,
                 (f.mid.getD (0, 0)).2, f.d.last.getD 0, crc32c all ^^^ 0xFFFFFFFF⟩
  else ⟨s, f.status, f.d.pos, f.d.n, f.ebit, e.pred, e.rtab, false⟩

/-- A decompress job over its stream, from its start or from a resume record and the output it names (R326, R329, R330). -/
def State.decompress (s : State) (x : SqzDesc) (input : List Byte) (r : Option (Resume × List Byte)) : SqzEnd :=
  let nb := 8 * x.ilen
  let strm := ofBytes input
  let h := strm % 2 ^ 32
  match r with
  | none =>
    if headerOk h = false then ⟨s, sqBADHEADER, 0, 0, 0, bitsOf h 5 4, bitsOf h 8 6, false⟩
    else
      let e : DecEnv := ⟨strm, nb, bitsOf h 5 4, bitsOf h 8 6, bitsOf h 25 10 + 1, x.olen, x.nocrc, 0#8⟩
      s.decompressEnd x e 0 (e.run (nb + 1) ⟨32, [], 0, none⟩)
  | some (r, out) =>
    let e : DecEnv := ⟨strm, nb, r.pred % 4, r.rtab, r.blen, x.olen, x.nocrc, (Config.freeWord s.free).truncate 8⟩
    let s := s.useFree
    let d : Dec := ⟨r.icons, out.reverse, r.oprod, if r.ldv then some r.ldist else none⟩
    let fin := if r.mid then
        match e.put d r.mrem r.mdist with
        | .inl d' => e.run (nb + 1) d'
        | .inr f => f
      else e.run (nb + 1) d
    s.decompressEnd x e r.oprod fin

/-- The job of context `c` runs (R320, R327 to R330, R334). -/
def State.sqzRun (s : State) (c : Fin 8) (j : JobCtx) : SqzEnd :=
  let x := parseSqz j.desc
  if j.fence then s.sqzSpoilt x sqFENCED
  else if j.bad then SqzEnd.plain s sqMEMERR
  else if sqzDescOk j.desc = false then SqzEnd.plain s sqBADDESC
  else
    let rr : BytesRead := if x.resume then s.busRead 7 x.rrec 64 else ⟨s, [], false⟩
    let rec_ := if x.resume then parseResume rr.bytes else none
    let rec_ := rec_.filter (fun r => r.fits x)
    if rr.err then SqzEnd.plain rr.st sqMEMERR
    else if x.resume ∧ rec_.isNone then SqzEnd.plain rr.st sqBADDESC
    else
      let input := rr.st.busRead 7 x.inAddr x.ilen
      let s := input.st
      let out : BytesRead := match rec_ with
        | some r => if x.dir = 1 then s.busRead 7 x.outAddr r.oprod else ⟨s, [], false⟩
        | none => ⟨s, [], false⟩
      let s := out.st
      if input.err ∨ out.err then s.sqzSpoilt x sqMEMERR
      else
        let e := if x.dir = 0 then s.compress x j.desc (s.rd (R.SQZ_TUNE c)) input.bytes rec_
          else s.decompress x input.bytes (rec_.map (fun r => (r, out.bytes)))
        if x.overlaps then
          { e with
            st := { (e.st.spoil x.outAddr x.olen) with free := e.st.free + x.olen + 5 }
            status := e.st.freeNat (x.olen + 1) % 13
            icons := e.st.freeNat (x.olen + 2)
            oprod := e.st.freeNat (x.olen + 3)
            ebit := e.st.freeNat (x.olen + 4) }
        else e

/-- Whole KiB in a remainder plus an amount, and the rest: the KiB counters (R335; log 44). -/
def kibSplit (rem_ add_ : Nat) : Nat × Nat := ((rem_ + add_) / 1024, (rem_ + add_) % 1024)

/-- The counters and meter 5 at the end of a job (R335, R344, R428). -/
def State.sqzCount (s : State) (x : SqzDesc) (e : SqzEnd) : State :=
  let comp := x.dir = 0
  let s := if comp then (s.bump R.SQZ_CNT_CJOBS).pmuH 0x38 1 else (s.bump R.SQZ_CNT_DJOBS).pmuH 0x39 1
  let s := if e.status = sqNOGAIN then (s.bump R.SQZ_CNT_NOGAIN).pmuH 0x3C 1
    else if e.status = sqOUTFULL then (s.bump R.SQZ_CNT_OUTFULL).pmuH 0x3D 1
    else if 3 ≤ e.status ∧ e.status ≤ 9 then s.bump R.SQZ_CNT_DERR else s
  let s := if comp then
      let (a, ra) := kibSplit s.sqz.cinRem e.icons
      let (b, rb) := kibSplit s.sqz.coutRem (e.oprod / 8)
      { (((s.bumpBy R.SQZ_CNT_CIN_KIB a).pmuH 0x3A a).bumpBy R.SQZ_CNT_COUT_KIB b) with sqz := { s.sqz with cinRem := ra, coutRem := rb } }
    else
      let (a, ra) := kibSplit s.sqz.doutRem e.oprod
      { ((s.bumpBy R.SQZ_CNT_DOUT_KIB a).pmuH 0x3B a) with sqz := { s.sqz with doutRem := ra } }
  if e.status = sqBADDESC ∨ e.status = sqFENCED then s
  else s.charge x.group 5 (if comp then e.icons else e.oprod / 8)

/-- The completion record (R323). -/
def sqzRecord (x : SqzDesc) (e : SqzEnd) (c gtc : Nat) : List Byte :=
  wordsToBytes [x.tag + 65536 * (e.status % 16) + 1048576 * x.dir + 2097152 * b2n e.rr, e.icons % 2 ^ 32, e.oprod % 2 ^ 32,
    e.ebit % 2 ^ 32, e.pred % 4 + 4 * (e.rtab % 8) + 32 * c, 0, gtc % 2 ^ 32, gtc / 2 ^ 32]

/-- The job of context `c` ends. -/
def State.sqzJobEnd (s : State) (c : Fin 8) : State :=
  let j := s.sqz.ctx[c]
  if s.domOn 9 = false ∨ j.ring.isNone ∨ j.rec_.isSome then s
  else
    let x := parseSqz j.desc
    let e := s.sqzRun c j
    (e.st.sqzCount x e).jobEnded .sqz c (sqzRecord x e c e.st.gtc)

/-- Sump fences context `c`, or resets it in place: the job on it ends FENCED (R334, R393). -/
def State.sqzFence (s : State) (c : Fin 8) (fence : Bool) : State :=
  let j := s.sqz.ctx[c]
  let s := if j.ring.isSome ∧ j.rec_.isNone then s.setCtx .sqz c { j with fence := true } else s
  if fence then s.setBit R.SQZ_STATUS (8 + c) true else s

/-- The direction of context `c`. -/
def ctxDir (c : Fin 8) : Fin 2 := if c < 4 then 0 else 1

/-- SQZ_JOB_START (R322). -/
def execSqzJobStart (t : Nat) (c : Fin 8) (s : State) : Res := .next ((s.at t).jobStart .sqz (ctxDir c) 7 c)

/-- SQZ_JOB_END (R323). -/
def execSqzJobEnd (t : Nat) (c : Fin 8) (s : State) : Res := .next ((s.at t).sqzJobEnd c)

/-- SQZ_COMPLETION_RECORD (R323). -/
def execSqzCompletionRecord (t : Nat) (c : Fin 8) (s : State) : Res := .next ((s.at t).jobRecord .sqz c)

/-- SQZ_RING_STOPPED (R334). -/
def execSqzRingStopped (t : Nat) (r : Fin 64) (s : State) : Res :=
  let s := s.at t
  .next (if s.domOn 9 then s.ringStop .sqz r else s)

end Sys2Proof.Machine
end

