-- ==== Sys2Proof/Machine/Sump.lean ====
section
/-! DEFINITION. Sump (R390 to R410): units and their block resets and fences (R393, R403), configuration, overrides and escalation
(R396 to R398, R406), acceptance and reactions (R391 to R395), the log (R407), injection (R409), and their commands. -/

namespace Sys2Proof.Machine

open Sys2Proof

/-! ### Units (R393) -/

/-- The units of R393. -/
inductive FUnit where
  | sec (n : Fin 4)
  | sqz (c : Fin 8)
  | aes (e : Fin 2)
  | verify (n : Fin 4)
  | passage
  | rope
deriving DecidableEq, Repr

/-- The unit of a source (R393). -/
def unitOf (src : Nat) : Option FUnit :=
  if h : 544 ≤ src ∧ src < 548 then some (.sec ⟨src - 544, by omega⟩)
  else if h : 560 ≤ src ∧ src < 564 then some (.sec ⟨src - 560, by omega⟩)
  else if h : 576 ≤ src ∧ src < 580 then some (.sec ⟨src - 576, by omega⟩)
  else if h : 608 ≤ src ∧ src < 612 then some (.sec ⟨src - 608, by omega⟩)
  else if h : 64 ≤ src ∧ src < 72 then some (.sqz ⟨src - 64, by omega⟩)
  else if h : 81 ≤ src ∧ src < 83 then some (.aes ⟨src - 81, by omega⟩)
  else if h : 145 ≤ src ∧ src < 149 then some (.verify ⟨src - 145, by omega⟩)
  else if src = 208 ∨ src = 592 then some .passage
  else if src = 192 then some .rope
  else none

/-- The unit's bit in SUMP_FENCED; Passage has none and supports no FENCE (R393, R410). -/
def FUnit.bit : FUnit → Option Nat
  | .sec n => some n.val
  | .sqz c => some (4 + c.val)
  | .aes e => some (12 + e.val)
  | .rope => some 14
  | .verify n => some (15 + n.val)
  | .passage => none

/-- The unit is fenced. -/
def State.unitFenced (s : State) (u : FUnit) : Bool :=
  match u.bit with
  | some k => s.bit R.SUMP_FENCED k
  | none => false

/-- The loop unit of a section enters IDLE (R403, R472). -/
def State.loopIdle (s : State) (n : Fin 4) : State :=
  ((s.setFld (R.LOOP_STATUS n) 1 0 2).setBit (R.LOOP_STATUS n) 5 false).onLoop n (fun l => { l with pend := none, nextReg := none })

/-- What a section reset discards (R130, R260, R405). -/
def State.sectionDrop (s : State) (n : Fin 4) : State :=
  (((s.chanReset n).flushEvents n).schedEnd n 3)

/-- A section reset: the section's work is discarded and its heads are retracted (R393). -/
def State.sectionReset (s : State) (n : Fin 4) : State :=
  let s := s.sectionDrop n
  if s.parked n then s else s.startRetract n

/-- BLOCK_RESET of a unit (R393). -/
def State.blockReset (s : State) (u : FUnit) : State :=
  match u with
  | .sec n => s.sectionReset n
  | .sqz c => s.sqzFence c false
  | .aes e => s.aesFence (aesCtx e) false
  | .verify _ => s
  | .passage => s.linkDown false false
  | .rope => s.ropeDown false

/-- A fence of actuator section `n` (R403): the loads and grants of the section end with it. -/
def State.fenceSection (s : State) (n : Fin 4) : State :=
  let s := (s.startRetract n).loopIdle n
  let s := (s.sectionDrop n).bvFence n
  let s := s.setSec n { s.sec n with load := none }
  ((s.setBit R.SUMP_FENCED (15 + n) true).endGrant n 3).endGrant (4 + n) 3

/-- FENCE of a unit, which includes its BLOCK_RESET (R394, R403, R334, R342, R352, R482). -/
def State.fenceUnit (s : State) (u : FUnit) : State :=
  let s := match u.bit with
    | some k => s.setBit R.SUMP_FENCED k true
    | none => s
  match u with
  | .sec n => s.fenceSection n
  | .sqz c => s.sqzFence c true
  | .aes e => s.aesFence (aesCtx e) true
  | .verify n => s.bvFence n
  | .passage => s
  | .rope =>
    let s := s.ropeDown false
    let s := (s.unpair).setBit R.ROPE_STATUS 4 true
    if s.suspect then s else s.suspectPeer

/-- A fault of the unit stands: shock, overcurrent or a preamp fault of a section, or a message its sources hold (R403; log 59). -/
def State.unitFault (s : State) (u : FUnit) : Bool :=
  (match u with
    | .sec n => s.bit (R.ACT_STATUS n) 7 || s.bit (R.ACT_STATUS n) 8 || s.bit (R.ACT_STATUS n) 12
    | _ => false)
  || s.sump.held.any (fun m => unitOf m.src == some u)

/-- UNFENCE of a unit whose faults are over: the unit returns to service; a section is reset (R393, R403). -/
def State.unfenceUnit (s : State) (u : FUnit) : State :=
  if s.unitFenced u = false then s
  else
    let s := match u.bit with
      | some k => s.setBit R.SUMP_FENCED k false
      | none => s
    match u with
    | .sec n => ((s.setBit R.SUMP_FENCED (15 + n) false).setBit (R.BV_STATUS n) 2 false).sectionReset n
    | .sqz c => s.setBit R.SQZ_STATUS (8 + c) false
    | .aes e => s.setBit R.CRYP_STATUS (2 + e) false
    | .verify n => s.setBit (R.BV_STATUS n) 2 false
    | .passage => s
    | .rope => s.setBit R.ROPE_STATUS 4 false

/-! ### Configuration (R396, R397, R406) -/

/-- Kinds that are used. -/
def kindUsed (k : Nat) : Bool := 1 ≤ k && k ≤ 25

/-- Kinds marked fixed. -/
def kindFixed (k : Nat) : Bool := k == 0x04 || k == 0x09 || k == 0x14 || k == 0x16 || k == 0x19

/-- The floor of a kind. -/
def kindFloor (k : Nat) : Nat :=
  if k = 0x02 ∨ k = 0x05 ∨ k = 0x0A ∨ k = 0x0D ∨ k = 0x0E ∨ k = 0x0F ∨ k = 0x10 ∨ k = 0x13 ∨ k = 0x15 ∨ k = 0x17 ∨ k = 0x18 then 1
  else 0

/-- The word that a write of configuration `w` leaves over `old`, and whether a value was refused: a fixed kind accepts only its
default; a REACT of 7 or below the floor and an ESC_REACT of 7 are reserved (R16, R396, R397). -/
def kindWrite (k old w : Nat) : Nat × Bool :=
  if kindFixed k then (old, w != kindReset k)
  else
    let badR := w % 8 == 7 || w % 8 < kindFloor k
    let badE := bitsOf w 7 5 == 7
    let x := if badR then putBits w 2 0 old else w
    (if badE then putBits x 7 5 (bitsOf old 7 5) else x, badR || badE)

/-- The reset values replace the configuration while CFG_LOST stands (R406). -/
def State.cfgWord (s : State) (a : Nat) : Nat := if s.bit R.SUMP_STATUS 2 then (resetOf a).toNat else s.rd a

/-- The override entry of the lowest index that applies to a message (R397). -/
def State.override (s : State) (src kind : Nat) : Option Nat :=
  (List.range 32).find? (fun k =>
    let m := s.cfgWord (R.SUMP_OVR_MATCH k)
    bitOf m 31 && bitsOf m 25 20 == kind && (src &&& bitsOf m 19 10) == (bitsOf m 9 0 &&& bitsOf m 19 10))

/-- The configuration of a message (R396, R397): a fixed kind keeps its default, an override obeys the floor; OVERTEMP of source 1
is at least SAFE; a kind that is not used is INT with FWD. -/
def State.kindCfg (s : State) (src kind : Nat) : Nat :=
  if kindFixed kind then kindReset kind
  else
    let w := match s.override src kind with
      | some k => s.cfgWord (R.SUMP_OVR_ACT k)
      | none => if kindUsed kind then s.cfgWord (R.SUMP_KIND_CFG kind) else 17
    let floor := if kind = kOVERTEMP ∧ src = 1 then 4 else kindFloor kind
    putBits w 2 0 (max (w % 8) floor)

/-- The copies of the entry that a decision uses differ (R406). -/
def State.cfgBad (s : State) (src kind : Nat) : Bool :=
  match s.override src kind with
  | some k => s.sump.cfgDiff.any (fun p => p.1 == R.SUMP_OVR_ACT k || p.1 == R.SUMP_OVR_MATCH k)
  | none => s.sump.cfgDiff.any (fun p => p.1 == R.SUMP_KIND_CFG kind)

/-! ### Escalation (R398) -/

/-- The window opened earliest, dropped when a new pair would be the 257th. -/
def escRoom (l : List EscWindow) : List EscWindow :=
  if l.length < 256 then l
  else
    match l.foldl (fun (b : Option EscWindow) w => match b with
        | none => some w
        | some x => some (if w.openedAt < x.openedAt then w else x)) none with
    | some x => l.filter (fun w => !(w.src == x.src && w.kind == x.kind))
    | none => l

/-- The escalation windows after a message that counts `k`, and whether it brings the count to ESC_CNT. -/
def escStep (l : List EscWindow) (src kind now cnt win k : Nat) : List EscWindow × Bool :=
  let old := l.find? (fun w => w.src == src && w.kind == kind)
  let rest := l.filter (fun w => !(w.src == src && w.kind == kind))
  let (t0, c) := match old with
    | some w => if now ≤ w.openedAt + win * 1000000 then (w.openedAt, w.count + k) else (now, k)
    | none => (now, k)
  let hit := decide (cnt ≤ c)
  let rest := if old.isSome then rest else escRoom rest
  (rest ++ [⟨src, kind, t0, if hit then 0 else c⟩], hit)

/-! ### The log (R407) -/

/-- Entries unread by the Control Core, and by the application cores. -/
def Sump.unread (x : Sump) (cc : Bool) : Nat := x.log.length - (if cc then x.curCc else x.curApp)

/-- Drop the entries both cursors have passed. -/
def Sump.trim (x : Sump) : Sump :=
  let k := min x.curCc x.curApp
  { x with log := x.log.drop k, curCc := x.curCc - k, curApp := x.curApp - k }

/-- Log an entry, or count it in SUMP_CNT_OVF while 256 entries are unread by either cursor. -/
def State.logEntry (s : State) (e : LogEntry) : State :=
  if 256 ≤ max (s.sump.unread true) (s.sump.unread false) then (s.bump R.SUMP_CNT_OVF).pmuH 0x51 1
  else { s with sump := { s.sump with log := s.sump.log ++ [e] } }

/-- A message is accepted: counted, logged, its trigger fires; ERR 1 asserts ERR_N (R392, R407, R408, R411). -/
def State.takeMessage (s : State) (m : HeldMsg) (react : Nat) (esc err : Bool) : State :=
  let s := (s.pmuH 0x50 1).logEntry ⟨m.src, m.kind, m.addr, s.gtc, react, m.merge, m.inj, esc⟩
  let s := if err then { s with sump := { s.sump with errCause := true } } else s
  s.flowFault m.src m.kind m.addr

/-- The interrupt of INT (R394). -/
def State.sumpInt (s : State) (fwd : Bool) : State :=
  let s := s.irq .cc .sump
  if fwd then s.irq (appTarget (s.cfgWord R.SUMP_CFG % 4)) .sump else s

/-! ### Reactions (R394, R395, R402, R406) -/

/-- CONFIG_INTEGRITY: SAFE at once; both copies take their reset values; CFG_LOST (R406). -/
def State.integrity (s : State) : State :=
  let s := s.resetRegs (fun a => a == R.SUMP_CFG || (R.SUMP_KIND_CFG 0 ≤ a && a < R.SUMP_INJ))
  let s := ({ s with sump := { s.sump with cfgDiff := [] } }).setBit R.SUMP_STATUS 2 true
  ((s.takeMessage ⟨112, kCONFIG, 0, 0, false⟩ 4 false true).enterSafe 112 kCONFIG 0).sumpInt true

/-- The reaction a message takes in the end (R395). -/
def State.applied (s : State) (src react : Nat) : Nat :=
  if 4 ≤ react then react
  else
    match unitOf src with
    | none => if 2 ≤ react then 4 else react
    | some u => if react = 3 ∧ u.bit = none then 4 else if s.unitFenced u then 0 else react

/-- The reaction acts (R394, R402, R441). -/
def State.react (s : State) (m : HeldMsg) (react : Nat) (fwd : Bool) : State :=
  let s := if 1 ≤ react then s.sumpInt fwd else s
  if react ≤ 1 then s
  else if react = 2 then (match unitOf m.src with | some u => s.blockReset u | none => s)
  else if react = 3 then (match unitOf m.src with | some u => s.fenceUnit u | none => s)
  else
    let s := if m.kind = kSAFEREQ ∧ m.inj = false then s else s.enterSafe m.src m.kind m.addr
    let s := if react = 5 then (s.setBit R.SUMP_STATUS 1 true).qengFatal else s
    let s := if react = 6 then { s with sump := { s.sump with chipReset := true } } else s
    if m.kind = kLOCKSTEP then { s.setBit R.PWR_RST_CAUSE 4 true with sump := { s.sump with ccoreReset := true } } else s

/-- Sump decides and applies the reaction to a message (R391, R392, R396 to R398). -/
def State.sumpDecide (s : State) (m : HeldMsg) : State :=
  let s := if s.cfgBad m.src m.kind then s.integrity else s
  let w := s.kindCfg m.src m.kind
  let (esc, hit) := if bitsOf w 15 8 = 0 then (s.sump.esc, false)
    else escStep s.sump.esc m.src m.kind s.gtc (bitsOf w 15 8) (bitsOf w 31 16) (1 + m.merge)
  let s := { s with sump := { s.sump with esc := esc } }
  let r := s.applied m.src (if hit then max (w % 8) (bitsOf w 7 5) else w % 8)
  (s.takeMessage m r hit (bitOf w 3)).react m r (bitOf w 4)

/-- A held message is offered: M-die messages travel over Passage; MAON's own decisions come with the die alert line
(R391, R399). -/
def State.offered (s : State) (m : HeldMsg) : Bool :=
  srcOnM m.src = false || s.linkUp || m.inj || (m.kind == kSAFEREQ && (m.src == 512 || m.src == 513))

/-- The offered message of the lowest SOURCE, the first held of its source (R391). -/
def lowestMsg (f : HeldMsg → Bool) : List HeldMsg → Option HeldMsg
  | [] => none
  | m :: r =>
    match f m, lowestMsg f r with
    | true, some x => if x.src < m.src then some x else some m
    | true, none => some m
    | false, o => o

/-- FAULT_ACCEPT: Sump accepts the offered message of the lowest SOURCE (R391). -/
def State.faultAccept (s : State) : State :=
  match lowestMsg s.offered s.sump.held with
  | none => s
  | some m => ({ s with sump := { s.sump with held := s.sump.held.erase m } }).sumpDecide m

/-! ### Junction temperature (R396, R400, R524) -/

/-- The hottest junction reads `x` half degrees: OVERTEMP of source 0 on reaching WARN, of source 1 on reaching 125 °C. -/
def State.overtemp (s : State) (x : Int) : State :=
  let warn := decide (toS 16 (s.fld R.SUMP_TEMP 15 0) ≤ x)
  let hot := decide (250 ≤ x)
  let w0 := s.sump.warnSent
  let h0 := s.sump.hotSent
  let s := { s with sump := { s.sump with
    junction := x
    warnSent := warn
    hotSent := hot } }
  let s := if warn && !w0 then s.sendFault 0 kOVERTEMP 0 else s
  if hot && !h0 then s.sendFault 1 kOVERTEMP 0 else s

/-! ### SAFE_EXIT (R400) -/

/-- The conditions of SAFE_EXIT. -/
def State.safeExitOk (s : State) : Bool :=
  !s.maon.safeReq && s.linkUp && !s.bit R.SUMP_STATUS 2
    && (List.finRange 4).all (fun n => !s.retracting n) && decide (s.sump.junction < 250)

/-- Sump deasserts the die safe-request line and MAON clears its own decision; the preamp ports may send again (R399 step 5). -/
def State.safeExit (s : State) : State :=
  let s := { s with
    sump := { s.sump with safeLine := false, alertLine := false }
    maon := { s.maon with safe := false } }
  ((s.setBit R.SUMP_STATUS 0 false).setBit R.SUMP_STATUS 3 false).forSecs (fun n s => s.preStart n)

/-! ### Readers, controls, injection (R402, R406 to R410) -/

/-- SUMP_STATUS as read. -/
def State.sumpStatus (s : State) : Nat :=
  s.fld R.SUMP_STATUS 3 0 + 16 * b2n s.maon.safeReq + 32 * b2n (s.safe || s.sump.errCause || s.sump.chipErr)

/-- The words of an entry: message low, high, GTC low, high, INFO. -/
def LogEntry.words (e : LogEntry) : List Nat :=
  let m := msgWord e.src e.kind e.addr
  [m % 2 ^ 32, m / 2 ^ 32, e.gtc % 2 ^ 32, e.gtc / 2 ^ 32 % 2 ^ 32,
    e.react + 8 * b2n e.inj + 16 * b2n e.esc + 256 * e.merge + 2147483648]

/-- The entry at the reader's cursor. -/
def State.logHead (s : State) (i : Initiator) : Option LogEntry := s.sump.log[if iniIsCc i then s.sump.curCc else s.sump.curApp]?

/-- A read of SUMP_MSG_HEAD: the low word, and the rest latched for the reader (R407). -/
def State.msgHead (s : State) (i : Initiator) : State :=
  let e := s.logHead i
  let s := { s with sump := if iniIsCc i then { s.sump with latchCc := e } else { s.sump with latchApp := e } }
  { s with lastRead := BitVec.ofNat 32 (match e with | some e => e.words.headD 0 | none => 0) }

/-- Word `k` of the entry latched for the reader. -/
def State.msgLatched (s : State) (i : Initiator) (k : Nat) : Nat :=
  match (if iniIsCc i then s.sump.latchCc else s.sump.latchApp) with
  | some e => e.words.getD k 0
  | none => 0

/-- A write of SUMP_MSG_POP advances the writer's cursor. -/
def State.msgPop (s : State) (i : Initiator) : State :=
  let x := s.sump
  if x.unread (iniIsCc i) = 0 then s
  else
    let y := if iniIsCc i then { x with curCc := x.curCc + 1 } else { x with curApp := x.curApp + 1 }
    { s with sump := y.trim }

/-- ERR_CLR, which takes effect only when no safe state stands (R401, R408). -/
def State.errClr (s : State) : State :=
  if s.safe then s else { s with sump := { s.sump with errCause := false, chipErr := false } }

/-- FIRST_CLR. -/
def State.firstClr (s : State) : State := s.setReg64 R.SUMP_FIRST_LO R.SUMP_FIRST_HI 0

/-- CFGFLIP: bit 0 of the second copy of the configuration of KIND (R409). -/
def State.cfgFlip (s : State) (kind : Nat) : State :=
  let a := R.SUMP_KIND_CFG kind
  if kindUsed kind then
    let v := spGet (s.reg a) s.sump.cfgDiff a ^^^ 1#32
    { s with sump := { s.sump with cfgDiff := spPut (s.reg a) s.sump.cfgDiff a v } }
  else s

/-- A write of an injection register: RWL, in MAKER_TEST only (R12, R409). -/
def State.onInj (s : State) (i : Initiator) (f : State → State) : State :=
  s.onReg i R.SUMP_INJ (fun s => if s.lcState = 1 then f s else s.protocol 112 0)

/-- GO: a message with the given SOURCE, KIND and ADDR at Sump's intake (R409). -/
def State.injGo (s : State) (v : Nat) : State :=
  let m : HeldMsg := ⟨bitsOf v 9 0, bitsOf v 15 10, s.rd64 R.SUMP_INJ_ADDR_LO R.SUMP_INJ_ADDR_HI % 2 ^ 48, 0, true⟩
  { s with sump := { s.sump with held := s.sump.held ++ [m] } }

/-- The safe state that PATH orders: SAFE_REQUEST of source 112 with INJ (R409). -/
def State.injPath (s : State) : State :=
  ((s.takeMessage ⟨112, kSAFEREQ, 0, 0, true⟩ 4 false true).enterSafe 112 kSAFEREQ 0).sumpInt true

/-! ### Commands -/

/-- FAULT_ACCEPT (R391). -/
def execFaultAccept (t : Nat) (s : State) : Res := .next (s.at t).faultAccept

/-- SAFE_REQ_N asserted for 100 ns: MAON's decision with source 513 (R399); ignored, and not logged, during power-on reset (R526). -/
def execSafeReqN (t : Nat) (s : State) : Res :=
  let s := s.at t
  let s := { s with maon := { s.maon with safeReq := true } }
  .next (if s.pwr.por then s else s.maonDecide 513 0)

/-- SAFE_REQ_N_DEASSERT (R399, R400). -/
def execSafeReqNDeassert (t : Nat) (s : State) : Res :=
  let s := s.at t
  .next { s with maon := { s.maon with safeReq := false } }

/-- SAFE_STATE_BRAKE: step 6 of R399. -/
def execSafeStateBrake (t : Nat) (s : State) : Res :=
  .next ((s.at t).ifSpin (fun s =>
    if s.safeStands ∧ s.allParked ∧ (s.spin_ = spSPEED ∨ s.spin_ = spRUN) ∧ s.bit R.SUMP_CFG 2 = false then s.spinGo s.brakeState
    else s))

/-- CONFIG_CHECK: the comparison every 2 µs (R406). -/
def execConfigCheck (t : Nat) (s : State) : Res :=
  let s := s.at t
  .next (if s.sump.cfgDiff = [] then s else s.integrity)

/-- SUMP_MSG_HEAD_READ (R407). -/
def execSumpMsgHeadRead (t : Nat) (i : Initiator) (s : State) : Res := .next ((s.at t).msgHead i)

/-- SUMP_MSG_POP (R407). -/
def execSumpMsgPop (t : Nat) (i : Initiator) (s : State) : Res :=
  .next ((s.at t).onReg i R.SUMP_MSG_POP (fun s => s.msgPop i))

/-- ERR_CLR (R408). -/
def execErrClr (t : Nat) (i : Initiator) (s : State) : Res := .next ((s.at t).onReg i R.SUMP_CTRL State.errClr)

/-- FATAL_CLR (R402). -/
def execFatalClr (t : Nat) (i : Initiator) (s : State) : Res :=
  .next ((s.at t).onReg i R.SUMP_CTRL (fun s => s.setBit R.SUMP_STATUS 1 false))

/-- CFG_OK (R406). -/
def execCfgOk (t : Nat) (i : Initiator) (s : State) : Res :=
  .next ((s.at t).onReg i R.SUMP_CTRL (fun s => s.setBit R.SUMP_STATUS 2 false))

/-- FIRST_CLR (R407). -/
def execFirstClr (t : Nat) (i : Initiator) (s : State) : Res := .next ((s.at t).onReg i R.SUMP_CTRL State.firstClr)

/-- INJ_GO: the message at Sump's intake, with INJ (R409). -/
def execInjGo (t : Nat) (i : Initiator) (w : BitVec 32) (s : State) : Res :=
  .next ((s.at t).onInj i (fun s => (s.setReg R.SUMP_INJ (w.toNat % 65536)).injGo w.toNat))

/-- PATH (R409). -/
def execInjPath (t : Nat) (i : Initiator) (s : State) : Res := .next ((s.at t).onInj i State.injPath)

/-- CFGFLIP (R409). -/
def execCfgflip (t : Nat) (i : Initiator) (w : BitVec 32) (s : State) : Res :=
  .next ((s.at t).onInj i (fun s => (s.setReg R.SUMP_INJ (w.toNat % 65536)).cfgFlip (bitsOf w.toNat 15 10)))

/-- OVERTEMP (R396). -/
def execOvertemp (t : Nat) (halfDeg : Int) (s : State) : Res := .next ((s.at t).overtemp halfDeg)

/-- LOCKSTEP: the Control Core's lockstep comparison fails (R402). -/
def execLockstep (t : Nat) (s : State) : Res := .next ((s.at t).sendFault 224 kLOCKSTEP 0)

end Sys2Proof.Machine
end

