-- ==== Sys2Proof/Machine/Life.lean ====
section
/-! DEFINITION. Life cycle and security (R454 to R467): states and fuses, keys, tokens and images, the fuse commands, debug gates,
and their commands. -/

namespace Sys2Proof.Machine

open Sys2Proof

/-! ### Fuses and states (R454, R467) -/

/-- Life-cycle state of the fuses (R454). -/
def Fuses.state (f : Fuses) : Nat :=
  if f.scrap then 5 else if f.lcc = 0 then 0 else if f.lcc = 1 then 1 else 2 + (f.lcc - 2) % 3

/-- Refurbishments used (R454). -/
def Fuses.refurb (f : Fuses) : Nat := (f.lcc - 2) / 3

/-- Keys programmed: 0 and 1 in the boot ROM, 2 and 3 fused (R461, R467). -/
def Fuses.programmed (f : Fuses) : Nat := 3 + 4 * b2n f.oem[0].isSome + 8 * b2n f.oem[1].isSome

/-- LCS_STATE, LCS_KEYS and LCS_SVN follow the fuses. -/
def State.lcsSync (s : State) : State :=
  let f := s.fuses
  let s := s.setReg R.LCS_STATE (f.state + 16 * f.lcc + 256 * f.refurb + 4096 * b2n f.scrap)
  let s := s.setReg R.LCS_KEYS (f.programmed + 16 * f.revoked)
  s.setReg R.LCS_SVN (f.svn[0] + 256 * f.svn[1] + 65536 * f.svn[2])

/-- The registers that hold the device ID and the OEM keys take the fuses' values (R467). -/
def State.lcsLoad (s : State) : State :=
  let s := (List.range 4).foldl (fun s k => s.setReg (R.LCS_DEVID k) (wordAt s.fuses.devid (4 * k))) s
  let put (s : State) (k : Nat) (b : List Byte) : State :=
    (List.range 24).foldl (fun s j => s.setReg (R.LCS_OEMKEY (24 * k + j)) (wordAt b (4 * j))) s
  let s := put s 0 (s.fuses.oem[0].getD [])
  (put s 1 (s.fuses.oem[1].getD [])).lcsSync

/-- Change the fuses. -/
def State.setFuses (s : State) (f : Fuses → Fuses) : State := ({ s with fuses := f s.fuses }).lcsSync

/-- Debug gates that a start opens in a state (R465): bits as LCS_DBG. RETURN opens its gates after the erase of R459. -/
def dbgGates (lc : Nat) : Nat :=
  if lc = 0 then 0xF else if lc = 1 then 0x1F else if lc = 2 then 0x2 else 0

/-- Gates in RETURN after the erase (R465). -/
def dbgReturn : Nat := 0x7

/-- The gates of a start. -/
def State.openGates (s : State) : State := s.setReg R.LCS_DBG (dbgGates s.lcState)

/-! ### Keys and signatures (R461) -/

/-- The public key of KEYIDX `k`, unless it is revoked or was never programmed. -/
def State.pubKey (s : State) (k : Nat) : Option (List Nat) :=
  if bitOf s.fuses.revoked k then none
  else
    match k with
    | 0 => some ((Config.makerKey 0).map BitVec.toNat)
    | 1 => some ((Config.makerKey 1).map BitVec.toNat)
    | 2 => s.fuses.oem[0].map (fun b => b.map BitVec.toNat)
    | 3 => s.fuses.oem[1].map (fun b => b.map BitVec.toNat)
    | _ => none

/-- A signature over `msg` verifies with KEYIDX `k`. -/
def State.sigOk (s : State) (k : Nat) (msg r sg : List Nat) : Bool :=
  match s.pubKey k with
  | some key => ecdsaVerify key msg r sg
  | none => false

/-- The staged token bytes of a channel (R368, R456). -/
def MbChan.tokenBytes (c : MbChan) : List Nat := (List.range 160).map (fun k => spGet 0 c.token k)

/-- A little-endian field of a list of byte values. -/
def leField (b : List Nat) (o n : Nat) : Nat := bytesNat ((b.drop o).take n)

/-- What both kinds of token share: MAGIC, CHAN, NONCE of a challenge not 60 s old, DEVID and the signature (R368, R456). -/
def State.tokenOk (s : State) (ch : Fin 16) (magic keyidx : Nat) : Bool :=
  let c := s.chan ch
  let b := c.tokenBytes
  leField b 0 4 == magic && b.getD 6 0 == ch.val && b.getD 7 0 == keyidx
    && (match c.chal with
      | some (nonce, t0) => leField b 16 16 == nonce && decide (s.gtc < t0 + 60000000000)
      | none => false)
    && (b.drop 32).take 16 == s.fuses.devid.map BitVec.toNat
    && s.sigOk keyidx (b.take 64) ((b.drop 64).take 48) ((b.drop 112).take 48)

/-! ### Transitions (R455, R457, R459, R460) -/

/-- A transition of R455: which keys its token may use (none: no token). Every other pair is refused. -/
def transition (from_ to_ : Nat) : Option (List Nat) :=
  match from_, to_ with
  | 0, 1 => some [0, 1]
  | 1, 2 => some [0, 1]
  | 2, 3 => some [2, 3]
  | 3, 4 => some [0, 1]
  | 4, 2 => some [0, 1]
  | 0, 5 => some []
  | 1, 5 => some []
  | 2, 5 => some []
  | 4, 5 => some []
  | 3, 5 => some [0, 1, 2, 3]
  | _, _ => none

/-- The preconditions of R455. -/
def State.transitionReady (s : State) (to_ : Nat) : Bool :=
  match s.fuses.state, to_ with
  | 0, 1 => s.fuses.devidDone
  | 2, 3 => (s.pubKey 2).isSome || (s.pubKey 3).isSome
  | 4, 2 => decide (s.fuses.lcc < 10)
  | _, _ => true

/-- A transition token passes (R456). -/
def State.moveToken (s : State) (ch : Fin 16) (to_ : Nat) (keys : List Nat) : Bool :=
  let b := (s.chan ch).tokenBytes
  let k := b.getD 7 0
  keys.contains k && b.getD 4 0 == s.fuses.state && b.getD 5 0 == to_ && b.getD 8 0 == s.fuses.lcc && s.tokenOk ch 0x4C540001 k

/-- Every key slot is erased; WK2 and WK3 are cleared (R459, R460). -/
def State.destroyKeys (s : State) : State :=
  (s.eraseSlots (List.range 4096)).onCryp (fun c => { c with
    wk2 := none
    wk3 := none })

/-- The fuse of the transition is programmed, and its effects apply (R455, R457, R459, R460, R409, R281). -/
def State.transitTo (s : State) (to_ : Nat) : State :=
  let old := s.fuses.state
  let s := if to_ = 5 then s.setFuses (fun f => { f with scrap := true }) else s.setFuses (fun f => { f with lcc := f.lcc + 1 })
  let s := if old = 0 ∧ to_ = 1 then
      { s.setFuses (fun f => { f with devsec := bytesNat ((List.range 8).flatMap (fun k => natBytes 4 (s.freeNat k))) })
        with free := s.free + 8 }
    else s
  let s := if old = 1 then ((s.setReg R.SUMP_INJ 0).setReg64 R.SUMP_INJ_ADDR_LO R.SUMP_INJ_ADDR_HI 0).setReg R.BUF_CHK_CTRL 0 else s
  let s := if to_ = 4 ∨ to_ = 5 then s.destroyKeys else s
  s.setReg R.LCS_DBG (s.rd R.LCS_DBG &&& dbgGates to_)

/-! ### Images (R462 to R464) -/

/-- A header field of an image. -/
def imgField (b : List Byte) (o n : Nat) : Nat := ofBytes ((b.drop o).take n)

/-- The longest image of a kind, header included (R462). -/
def imgMax (kind : Nat) : Nat := if kind = 0 then 458752 else if kind = 1 then 4194304 else 131072

/-- KEYIDX is allowed for an image kind in a state (R463 check 2). -/
def imgKeyOk (kind k lc : Nat) : Bool :=
  if kind = 1 ∧ 2 ≤ lc then k == 2 || k == 3 else k == 0 || k == 1

/-- An image verifies (R463). -/
def State.imgOk (s : State) (kind : Nat) (b : List Byte) : Bool :=
  let len := imgField b 16 4
  let k := imgField b 5 1
  let body := ((b.drop 256).take len).map BitVec.toNat
  let devid := (b.drop 24).take 16
  let h := b.map BitVec.toNat
  imgField b 0 4 == 0x494D0001 && imgField b 4 1 == kind && len % 16 == 0 && decide (256 + len ≤ b.length)
    && decide (256 + len ≤ imgMax kind)
    && imgKeyOk kind k s.lcState && bitOf s.fuses.revoked k == false
    && (bitOf (imgField b 6 2) 1 == false || s.lcState == 1)
    && (devid.all (fun x => x == 0#8) || devid == s.fuses.devid)
    && decide (s.fuses.svn.toList.getD kind 0 ≤ imgField b 8 4)
    && (h.drop 64).take 48 == sha384 body
    && s.sigOk k (h.take 160) ((h.drop 160).take 48) ((h.drop 208).take 48)

/-- ADV_SVN: the counter of kind `k` rises to `v`; a lower value is ignored (R458, R464). -/
def State.advSvnTo (s : State) (k v : Nat) : State :=
  if h : k < 3 then
    if v ≤ 32 ∧ s.fuses.svn[k] < v then s.setFuses (fun f => { f with svn := f.svn.set k v }) else s
  else s

/-! ### The fuse commands (R458, R467) -/

/-- A fuse command ends. -/
def State.fuseEnd (s : State) (res : Nat) : State := s.setReg R.LCS_FUSE_STATUS (2 * res)

/-- A write of LCS_FUSE_CMD: refused with its RESULT, or BUSY while the fuse is programmed. A write while BUSY is 1 is ignored
(log 62). -/
def State.fuseCmd (s : State) (w : Nat) (refusal : Option Nat) : State :=
  if s.bit R.LCS_FUSE_STATUS 0 then s
  else
    match refusal with
    | some r => s.fuseEnd r
    | none => (s.setReg R.LCS_FUSE_CMD w).setReg R.LCS_FUSE_STATUS 1

/-- The staged OEM key `k`, 96 bytes. -/
def State.oemStaged (s : State) (k : Nat) : List Byte :=
  (List.range 24).flatMap (fun j => toBytes 4 (s.rd (R.LCS_OEMKEY (24 * k + j))))

/-- PROG_OEMKEY's refusal. -/
def State.oemRefusal (s : State) (k : Fin 2) : Option Nat :=
  let b := (s.oemStaged k).map BitVec.toNat
  if s.lcState ≠ 2 ∨ s.fuses.oem[k].isSome then some 1
  else if onCurve (beNat (b.take 48)) (beNat ((b.drop 48).take 48)) then none else some 2

/-- REVOKE's refusal. -/
def State.revokeRefusal (s : State) (k : Nat) : Option Nat :=
  let other := if k % 2 = 0 then k + 1 else k - 1
  if s.lcState ≠ 1 ∧ s.lcState ≠ 2 ∧ s.lcState ≠ 4 then some 1
  else if bitOf s.fuses.revoked other ∨ bitOf s.fuses.programmed other = false then some 2
  else none

/-- PROG_DEVID, PROG_OEMKEY, REVOKE and ADV_SVN, the last from the Control Core only (R458). -/
def State.progDevid (s : State) : State := s.fuseCmd 1 (if s.lcState ≠ 0 ∨ s.fuses.devidDone then some 1 else none)
def State.progOemkey (s : State) (k : Bool) : State := s.fuseCmd (2 + 16 * b2n k) (s.oemRefusal (if k then 1 else 0))
def State.revokeKey (s : State) (k : Nat) : State := s.fuseCmd (3 + 16 * k) (s.revokeRefusal k)
def State.advSvn (s : State) (i : Initiator) (kind v : Nat) : State :=
  if iniIsCc i = false then s
  else s.fuseCmd (4 + 256 * kind + 65536 * v) (if s.lcState = 5 then some 1 else none)

/-- FUSE_PROGRAM_DONE. -/
def State.fuseDone (s : State) (ok : Bool) : State :=
  if s.bit R.LCS_FUSE_STATUS 0 = false then s
  else
    let w := s.rd R.LCS_FUSE_CMD
    let s := s.setReg R.LCS_FUSE_CMD 0
    if ok = false then s.fuseEnd 3
    else
      let k : Fin 2 := if bitOf w 4 then 1 else 0
      let s := match w % 8 with
        | 1 => s.setFuses (fun f => { f with
            devid := (List.range 4).flatMap (fun j => toBytes 4 (s.rd (R.LCS_DEVID j)))
            devidDone := true })
        | 2 => s.setFuses (fun f => { f with oem := f.oem.set k (some (s.oemStaged k)) })
        | 3 => s.setFuses (fun f => { f with revoked := f.revoked ||| 2 ^ bitsOf w 5 4 })
        | _ => s.advSvnTo (bitsOf w 9 8) (bitsOf w 21 16)
      s.fuseEnd 0

/-! ### Commands -/

/-- PROG_DEVID (R458). -/
def execProgDevid (t : Nat) (i : Initiator) (s : State) : Res :=
  .next ((s.at t).onReg i R.LCS_FUSE_CMD (fun s => s.progDevid))

/-- PROG_OEMKEY (R458). -/
def execProgOemkey (t : Nat) (i : Initiator) (k : Bool) (s : State) : Res :=
  .next ((s.at t).onReg i R.LCS_FUSE_CMD (fun s => s.progOemkey k))

/-- REVOKE (R458). -/
def execRevoke (t : Nat) (i : Initiator) (k : BitVec 2) (s : State) : Res :=
  .next ((s.at t).onReg i R.LCS_FUSE_CMD (fun s => s.revokeKey k.toNat))

/-- ADV_SVN: the Control Core only, in every state but SCRAP (R458). -/
def execAdvSvn (t : Nat) (i : Initiator) (kind : BitVec 2) (v : BitVec 6) (s : State) : Res :=
  .next ((s.at t).onReg i R.LCS_FUSE_CMD (fun s => s.advSvn i kind.toNat v.toNat))

/-- FUSE_PROGRAM_DONE (R458). -/
def execFuseProgramDone (t : Nat) (ok : Bool) (s : State) : Res := .next ((s.at t).fuseDone ok)

/-- The instruction that acts when one is loaded: a closed gate makes a private instruction BYPASS (R465). -/
def State.jtagActs (s : State) (j : JtagInstr) : JtagInstr :=
  match j with
  | .gated g => if s.bit R.LCS_DBG g then j else .bypass
  | _ => j

/-- JTAG_INSTRUCTION: the use of a private instruction whose gate is closed is counted; EXTEST and CLAMP assert the die safe-request
line (R465, R509). -/
def execJtagInstruction (t : Nat) (j : JtagInstr) (s : State) : Res :=
  let s := s.at t
  let s := { s with pwr := { s.pwr with jtag := s.jtagActs j } }
  .next (match j with
    | .idcode => s
    | .bypass => s
    | .samplePreload => s
    | .extest => (s.enterSafe 160 kSAFEREQ 0).sendFault 160 kSAFEREQ 0
    | .clamp => (s.enterSafe 160 kSAFEREQ 0).sendFault 160 kSAFEREQ 0
    | .gated g => if s.bit R.LCS_DBG g then s else s.bump R.LCS_CNT_DBGDENY)

end Sys2Proof.Machine
end

