-- ==== Sys2Proof/Machine/Hosts.lean ====
section
/-! DEFINITION. Resets of the host ports (R233), and MAON's power-loss decision (R207, R261, R284, R289, R346, R540), with their
commands. -/

namespace Sys2Proof.Machine

open Sys2Proof

/-- What every reset of a port in the table of R233 ends outside QENG: the grants of channels 12 and 13 (R369), the port's hold of
the Command Window (R382). -/
def State.portReset (s : State) (p : Port) : State :=
  let s := s.endHostGrants
  if s.fld R.CW_LOCK 1 0 = (portNo p).val + 1 then s.setReg R.CW_LOCK 0 else s

/-- Controller reset: CC.EN 1→0 (R233). -/
def State.hostControllerReset (s : State) (p : Port) : State := (s.controllerReset p).portReset p

/-- Function Level Reset (R233): the configuration space and the MSI-X table are reset too. -/
def State.functionReset (s : State) (p : Port) : State :=
  let s := (s.hostControllerReset p).msixReset p
  s.setPort p { s.port p with
    aqa := 0#32
    asq := 0
    acq := 0
    nssro := false }

/-- Conventional reset: as FLR, and the link trains anew (R233). -/
def State.conventionalReset (s : State) (p : Port) : State :=
  let s := s.functionReset p
  s.setPort p { s.port p with up := false }

/-- NVM subsystem reset of both ports, sent to the peer while PAIRED (R233, R483). -/
def State.subsystemReset (s : State) : State :=
  let s := (s.conventionalReset .a).conventionalReset .b
  let s := (s.setPort .a { s.port .a with nssro := true }).setPort .b { s.port .b with nssro := true }
  if s.paired then s.sendPeer .subsystemReset else s

/-- Steps 1 to 3 of R207: write inhibit, POWER_LOSS, the retract machines, SPIN. -/
def State.powerLossMotion (s : State) : State :=
  let s := (s.assertWinhAll).sendFault 512 kPOWERLOSS 0
  (s.forSecs (fun n s => if s.parked n then s else s.startRetract n)).spinPowerLoss

/-- BUF in retention powers up at once for the dump (R540). -/
def State.dumpPower (s : State) : State :=
  if s.buf.dumpDue.isSome && s.dom 7 == 0 then (s.setFld (R.PWR_DOM_CTRL 7) 3 2 1).setBit (R.PWR_DOM_CTRL 7) 0 true else s

/-- Step 4 of R207 and what else stops on the H-die: a window command that Wounser serves, the dump, the fill engine, the schedulers,
the meters (R261, R289, R346, R496). -/
def State.powerLossHost (s : State) : State :=
  let s := if s.wounserUp then s.cwAbortServed else s
  let s := ((s.dumpOrder).onMbox (fun m => { m with plReport := none, plTold := false })).dumpPower.fillStop
  (s.forSecs (fun n s => if s.domOn 7 then s.schedEnd n 6 else s)).meterPloss

/-- MAON decides power loss (R207). -/
def State.powerLoss (s : State) : State :=
  if s.maon.powerLossAt.isSome then s
  else
    let maon := { s.maon with powerLossAt := some s.gtc }
    let sump := { s.sump with alertLine := true }
    ({ s with maon := maon, sump := sump }).powerLossMotion.powerLossHost

/-- POWER_LOSS (R207). -/
def execPowerLoss (t : Nat) (s : State) : Res := .next (s.at t).powerLoss

/-- CONVENTIONAL_RESET (R233). -/
def execConventionalReset (t : Nat) (p : Port) (s : State) : Res :=
  .next ((s.at t).ifHost p (fun s => s.conventionalReset p))

/-- FUNCTION_LEVEL_RESET (R233). -/
def execFunctionLevelReset (t : Nat) (p : Port) (s : State) : Res :=
  .next ((s.at t).ifHost p (fun s => s.functionReset p))

/-- CONTROLLER_RESET (R233): CC.EN 1→0. -/
def execControllerReset (t : Nat) (p : Port) (s : State) : Res :=
  .next ((s.at t).ifHost p (fun s => if s.ccEn p then s.hostControllerReset p else s))

/-- NVM_SUBSYSTEM_RESET: NSSR is written with 0x4E56_4D65 (R233). -/
def execNvmSubsystemReset (t : Nat) (p : Port) (w : BitVec 32) (s : State) : Res :=
  .next ((s.at t).ifHost p (fun s => if w = 0x4E564D65#32 then s.subsystemReset else s))

/-- PCIE_LINK_TRAINED: a port trains while its domain is ON and PERST# is deasserted (R447, R451). -/
def execPcieLinkTrained (t : Nat) (p : Port) (s : State) : Res :=
  let s := s.at t
  .next (if s.domOn (1 + (portNo p).val) ∧ s.domOn 3 ∧ (p = .a ∨ s.dual = true) then s.setPort p { s.port p with up := true } else s)

end Sys2Proof.Machine
end

