-- ==== Sys2Proof/Machine/Power.lean ====
section
/-! DEFINITION. Power domains and their sequences (R431 to R437), resets (R401, R441), watchdogs (R442), the Safe Store ports and the
directory (R443 to R445, R453), and their commands. -/

namespace Sys2Proof.Machine

open Sys2Proof

/-! ### Domains (R431 to R437) -/

/-- Parents of a domain (R431). -/
def parentsOf : Nat → List Nat
  | 1 => [3]
  | 2 => [3]
  | 3 => [7]
  | 4 => [0]
  | 5 => [0]
  | 6 => [5]
  | 7 => [0]
  | 8 => [7]
  | 9 => [7]
  | 10 => [7]
  | 11 => [7]
  | 12 => [0]
  | 13 => [7]
  | 15 => [14, 12]
  | 16 => [14, 12]
  | 17 => [14, 12]
  | 18 => [14, 12]
  | 19 => [14, 12]
  | _ => []

/-- Domains with retention (R431). -/
def canRetain (d : Nat) : Bool := d == 5 || d == 7 || d == 8 || d == 10 || d == 11

/-- Domains that never leave ON (R431). -/
def alwaysOn (d : Nat) : Bool := d == 0 || d == 4 || d == 14

/-- A domain is OFF. -/
def State.domOff (s : State) (d : Nat) : Bool := s.dom d == 0

/-- The condition under which ON 0 is accepted (R431). -/
def State.offOk (s : State) (d : Nat) : Bool :=
  match d with
  | 3 => s.domOff 1 && s.domOff 2
  | 5 => s.domOff 6
  | 7 => [3, 8, 9, 10, 11, 13].all (fun k => s.domOff k) && s.fld R.BUF_DUMP_STATUS 1 0 != 1
  | 12 => [15, 16, 17, 18, 19].all (fun k => s.domOff k)
  | 13 => !s.paired
  | 15 => s.spin_ == spOFF
  | 16 => s.parked 0
  | 17 => s.parked 1
  | 18 => s.parked 2
  | 19 => s.parked 3
  | _ => true

/-- The target of a domain (R436). -/
def State.target (s : State) (d : Nat) : Bool := s.bit (R.PWR_DOM_CTRL d) 0

/-- Set the STATE field of a domain. -/
def State.setDom (s : State) (d st : Nat) : State := s.setFld (R.PWR_DOM_CTRL d) 3 2 st

/-- Section internals after a power-up without retention: what Wounser keeps for the section stays. -/
def freshSection (x : Section) : Section := { x with atb := {}, chan := {}, loop := {}, act := {}, load := none }

/-- The registers and memories of a domain that loses power without retention, or is reset, take their reset values (R14, R431,
R435). -/
def State.domInit (s : State) (d : Nat) : State :=
  let s := s.resetRegs (fun a => domainOf a == some d)
  match d with
  | 1 => s.setPort .a {}
  | 2 => s.setPort .b {}
  | 3 => { s with qeng := {}, mgmt := { s.mgmt with cwLate := [] } }
  | 5 => { s with sram := [] }
  | 7 =>
    let b := s.buf
    let s := { s with
      dram := []
      dramSyn := []
      buf := { marks := b.marks, dumpStarted := b.dumpStarted, dumpDue := b.dumpDue, dtRes := b.dtRes } }
    s.forSecs (fun n s => s.onMsch n (fun _ => { idleAt := s.gtc }))
  | 8 => { s with mapc := {} }
  | 9 => { s with sqz := {} }
  | 10 => { s with cryp := {}, aes := {} }
  | 11 => { s with flow := {}, mtr := {} }
  | 13 => { s with rope := {} }
  | 15 => { s with spin := {} }
  | 16 => s.setSec 0 (freshSection (s.sec 0))
  | 17 => s.setSec 1 (freshSection (s.sec 1))
  | 18 => s.setSec 2 (freshSection (s.sec 2))
  | 19 => s.setSec 3 (freshSection (s.sec 3))
  | _ => s

/-- What stops when a domain begins to power down (R435 Down 1; R431, R434, R475). -/
def State.domLeave (s : State) (d : Nat) : State :=
  match d with
  | 1 => s.conventionalReset .a
  | 2 => s.conventionalReset .b
  | 5 => s.cwSvcClear
  | 12 => s.linkDown false true
  | 13 => s.ropeDown false
  | _ => s

/-- A domain follows its target: a sequence starts, or PEND says that it waits (R436). -/
def State.domStep (s : State) (d : Nat) : State :=
  let up := (parentsOf d).all (fun k => s.domOn k)
  let st := s.dom d
  if s.target d then
    if st = 0 then (if up then (s.setDom d 1).setBit (R.PWR_DOM_CTRL d) 4 false else s.setBit (R.PWR_DOM_CTRL d) 4 true)
    else s.setBit (R.PWR_DOM_CTRL d) 4 (st == 3)
  else if st = 2 then ((s.domLeave d).setDom d 3).setBit (R.PWR_DOM_CTRL d) 4 false
  else s.setBit (R.PWR_DOM_CTRL d) 4 (st == 1)

/-- Every domain follows its target. -/
def State.domSteps (s : State) : State := (List.range 20).foldl (fun s d => s.domStep d) s

/-- Retained state is discarded: RET 0 written while the domain is OFF (R437). -/
def State.dropRetained (s : State) (d : Nat) : State :=
  if h : d < 20 then
    if s.pwr.retained[d] then ({ s with pwr := { s.pwr with retained := s.pwr.retained.set d false } }).domInit d else s
  else s

/-- A write of PWR_DOM_CTRLd (R16, R431, R432, R436, R437). -/
def State.domWrite (s : State) (i : Initiator) (d : Nat) (on ret : Bool) : State :=
  if iniIsCc i = false ∧ ¬ (6 ≤ d ∧ d ≤ 11) then s.protocol 0 0
  else if s.target d ∧ on = false ∧ alwaysOn d = false ∧ s.offOk d = false then s.protocol 0 d
  else
    let badOn := (on == false && alwaysOn d) || (on && d == 2 && !s.dual)
    let badRet := ret && !canRetain d
    let s := if badOn || badRet then s.protocol 0 0 else s
    let s := if badOn then s else s.setBit (R.PWR_DOM_CTRL d) 0 on
    let s := if badRet then s else s.setBit (R.PWR_DOM_CTRL d) 1 ret
    let s := if !ret && s.domOff d then s.dropRetained d else s
    s.domStep d

/-- PWR_INT_STATUS bit `d`, and its interrupt (R435, R452). -/
def State.pwrInt (s : State) (d : Nat) : State :=
  let s := s.setBit R.PWR_INT_STATUS d true
  if s.bit R.PWR_INT_EN d then s.irq .cc (.unit 0) else s

/-- The PLL of the DRAM is locked while BUF is ON (R431, R435; log 67). -/
def State.pllDram (s : State) (d : Nat) (on : Bool) : State := if d = 7 then s.setBit R.PWR_CLK_STATUS 4 on else s

/-- What a domain has once it is ON: DRAM trained, Passage trained (R431). -/
def State.domArrive (s : State) (d : Nat) : State :=
  match d with
  | 7 => (s.setBit R.BUF_STATUS 0 true).pllDram 7 true
  | 12 => s.linkTrained
  | _ => s

/-- The sequence of a domain ends: UP reaches ON, DOWN reaches OFF (R435, R436, R437). -/
def State.domEnd (s : State) (d : Fin 20) : State :=
  let st := s.dom d
  if st = 1 then
    let s := { s with pwr := { s.pwr with retained := s.pwr.retained.set d false } }
    ((s.setDom d 2).domArrive d).pwrInt d |>.domSteps
  else if st = 3 then
    let ret := s.bit (R.PWR_DOM_CTRL d) 1
    let s := { s with pwr := { s.pwr with retained := s.pwr.retained.set d ret } }
    let s := if ret then s else s.domInit d
    (((s.setDom d 0).pllDram d false).pwrInt d).domSteps
  else s

/-! ### Chip reset (R401, R441, R449, R459) -/

/-- Domain `d` at a chip reset: AON and MAON stay, CCORE restarts, every other goes OFF, into retention where RET was 1; BUF always
enters retention when it was ON. -/
def State.domReset (s : State) (d : Nat) : State :=
  if d = 0 ∨ d = 14 then s
  else if d = 4 then s.domInit 4
  else if h : d < 20 then
    let was := s.pwr.retained[d]
    let keep := if s.domOn d then s.bit (R.PWR_DOM_CTRL d) 1 || d == 7 else was
    let s := { s with pwr := { s.pwr with retained := s.pwr.retained.set d keep } }
    let s := if keep then s else s.domInit d
    let s := { s with flow := { s.flow with run := if d = 11 then none else s.flow.run } }
    (((s.setDom d 0).pllDram d false).setBit (R.PWR_DOM_CTRL d) 0 false).setBit (R.PWR_DOM_CTRL d) 4 false
  else s

/-- No domain sequence is in progress. -/
def State.domsQuiet (s : State) : Bool := (List.range 20).all (fun d => s.dom d != 1 && s.dom d != 3)

/-- What the start of the Control Core forgets and reports (R401, R447, R449). -/
def State.coreStart (s : State) : State :=
  let pwr := { s.pwr with rom := false, appRun := Vector.replicate 4 false, winWounser := none, winFw := false }
  (({ s with pwr := pwr }).setReg R.PWR_BOOT_STATUS 0).cwSvcClear.openGates

/-- The calibration that Wounser loaded for section n is lost with CCORE (R405). -/
def State.dropTables (s : State) (n : Fin 4) : State :=
  s.setSec n { s.sec n with ledge := Vector.replicate 8 none, zoneNew := Vector.replicate 8 none, zone := Vector.replicate 8 none }

/-- The chip reset takes effect. -/
def State.chipResetNow (s : State) : State :=
  let sw := s.sump.chipResetSw
  let s := s.setBit R.PWR_RST_CAUSE (if sw then 3 else 2) true
  let s := s.linkDown false true
  let s := ((s.conventionalReset .a).conventionalReset .b).cwAbortRun
  let s := s.onCryp (fun c => { c with
    wk2 := none
    wk3 := none })
  let sump := { s.sump with chipReset := false, chipResetSw := false, ccoreReset := false, chipErr := s.sump.chipErr || !sw }
  let s := { s with sump := sump, mbox := {} }.forSecs (fun n s => s.dropTables n)
  ((List.range 20).foldl (fun s d => s.domReset d) s).coreStart

/-- CHIP_RESET: Sump's waits for every section PARKED; each waits for the domain sequences in progress (R401, R441). -/
def State.chipReset (s : State) : State :=
  if ((s.sump.chipReset && s.allParked) || s.sump.chipResetSw) && s.domsQuiet then s.chipResetNow else s

/-! ### Power-on reset (R439, R440, R441, R447) -/

/-- Power-on reset: only the Safe Store, the fuses and the waiting commands survive (R441). -/
def State.powerOnReset (s : State) (brownout : Bool) : State :=
  let x := { State.reset with pending := s.pending, store := s.store, fuses := s.fuses }
  (x.lcsLoad).setBit R.PWR_RST_CAUSE 1 brownout

/-- The deassertion of power-on reset; `vdd33`: VDDIO2 stands at 3.3 V, where a strap that chooses I3C leaves Chimney silent (R439, R447
step 1, R465, R522). -/
def State.porDeassert (s : State) (hostMode i3c hold vdd33 : Bool) : State :=
  if s.pwr.por = false then s
  else
    let s := { s with pwr := { s.pwr with por := false, porEnd := s.gtc, chmOff := i3c && vdd33 } }
    ((s.setReg R.PWR_STRAP (b2n hostMode + 2 * b2n i3c + 4 * b2n hold)).setBit R.PWR_CLK_STATUS 0 true).lcsLoad.openGates.setBit R.CHM_STATUS 0 i3c

/-- The AON PLL locks: the GTC runs; the management core starts (R440, R447 step 2). -/
def State.gtcStart (s : State) : State :=
  if s.pwr.por then s
  else
    let s := { s with gtcRun := true, pwr := { s.pwr with mgmtUp := true } }
    ((s.setBit R.PWR_CLK_STATUS 1 true).setBit R.PWR_CLK_STATUS 2 true).setBit R.PWR_CLK_STATUS 3 true

/-! ### Watchdogs (R442) -/

/-- The key of a kick. -/
def wdogKey : Nat := 0x4B43

/-- Control Core watchdog kick. -/
def State.wdogKick (s : State) (w : Nat) : State :=
  if w = wdogKey ∧ s.bit R.PWR_WDOG_CFG 31 then
    { s with pwr := { s.pwr with wdogAt := s.gtc, wdogTmo := s.fld R.PWR_WDOG_CFG 15 0 } }
  else s

/-- Management core watchdog kick. -/
def State.mwdogKick (s : State) (w : Nat) : State :=
  if w = wdogKey ∧ s.bit R.PWR_MWDOG_CFG 31 then
    { s with pwr := { s.pwr with mwdogAt := s.gtc, mwdogTmo := s.fld R.PWR_MWDOG_CFG 15 0 } }
  else s

/-- A write of PWR_WDOG_CFG or PWR_MWDOG_CFG at `a` (R16, R442): the word the register takes, a TMO of 0 leaving TMO as it was; none
where the write would leave EN at 1 with TMO at 0, and is discarded. -/
def State.wdogCfg (s : State) (a w : Nat) : Option Nat :=
  let en := s.bit a 31 || bitOf w 31
  let tmo := if bitsOf w 15 0 = 0 then s.fld a 15 0 else bitsOf w 15 0
  if en ∧ tmo = 0 then none else some (tmo + 2147483648 * b2n en)

/-- A write of PWR_WDOG_CFG. -/
def State.writeWdog (s : State) (w : Nat) : State :=
  match s.wdogCfg R.PWR_WDOG_CFG w with
  | none => s.protocol 0 0
  | some v =>
    let first := !s.bit R.PWR_WDOG_CFG 31 && bitOf v 31
    let s := if bitsOf w 15 0 = 0 then s.protocol 0 0 else s
    let s := s.setReg R.PWR_WDOG_CFG v
    if first then { s with pwr := { s.pwr with wdogAt := s.gtc, wdogTmo := v % 65536 } } else s

/-- A write of PWR_MWDOG_CFG. -/
def State.writeMwdog (s : State) (w : Nat) : State :=
  match s.wdogCfg R.PWR_MWDOG_CFG w with
  | none => s.protocol 0 0
  | some v =>
    let first := !s.bit R.PWR_MWDOG_CFG 31 && bitOf v 31
    let s := if bitsOf w 15 0 = 0 then s.protocol 0 0 else s
    let s := s.setReg R.PWR_MWDOG_CFG v
    if first then { s with pwr := { s.pwr with mwdogAt := s.gtc, mwdogTmo := v % 65536 } } else s

/-- The Control Core watchdog expires: the safe state, TIMEOUT of source 224, a CCORE reset. -/
def State.wdogExpiry (s : State) : State :=
  if s.bit R.PWR_WDOG_CFG 31 ∧ s.sump.ccoreReset = false ∧ s.pwr.wdogAt + 1000000 * s.pwr.wdogTmo ≤ s.gtc then
    let s := ((s.enterSafe 224 kTIMEOUT 0).sendFault 224 kTIMEOUT 0).setBit R.PWR_RST_CAUSE 5 true
    { s with sump := { s.sump with ccoreReset := true } }
  else s

/-! ### Safe Store ports (R443, R453) -/

/-- A command's operands on a port. -/
def State.ssRun (s : State) (p op : Nat) : SsRun :=
  ⟨op, s.rd (R.SS_ADDR_LO p) + 2 ^ 32 * s.fld (R.SS_ADDR_HI p) 0 0, s.rd64 (R.SS_MEM_LO p) (R.SS_MEM_HI p) % 2 ^ 48, s.rd (R.SS_LEN p)⟩

/-- Operand values that end a command BADPARAM: length, multiple, memory address. -/
def ssBad (r : SsRun) : Bool :=
  r.len == 0 || decide (16777216 < r.len) || (r.op == 2 && r.len % 256 != 0) || (r.op == 3 && r.len % 65536 != 0)
    || (r.op != 3 && !(inDram r.mem && inDram (r.mem + r.len - 1)) && !decide (0x20000000 ≤ r.mem ∧ r.mem + r.len ≤ 0x20400000))

/-- A byte range lies in a window of 64 KiB blocks. -/
def inBlocks (base lim a n : Nat) : Bool := decide (65536 * base ≤ a) && decide (a + n ≤ 65536 * (base + lim))

/-- A port command outside the port's range ends RANGE (R443). -/
def State.ssInRange (s : State) (p : Nat) (r : SsRun) : Bool :=
  decide (r.addr + r.len ≤ s.ssCapacity) &&
  match p with
  | 0 => true
  | 1 =>
    inBlocks (s.rd R.SS_WIN1_BASE) (s.rd R.SS_WIN1_LIM) r.addr r.len || inBlocks (s.rd R.SS_WIN2_BASE) (s.rd R.SS_WIN2_LIM) r.addr r.len
  | _ =>
    match s.directory with
    | some (_, b) => inBlocks (dirEntry b 8).base (dirEntry b 8).size r.addr r.len
    | none => false

/-- The initiator is of the port's requester class (R453). -/
def ssOwner (p : Fin 3) (i : Initiator) : Bool :=
  match i with
  | .cc => p == 0
  | .app _ => p == 1
  | .mgmt => p == 2
  | _ => false

/-- A write of SS_CMD (R443, R453). -/
def State.ssCmd (s : State) (i : Initiator) (p : Fin 3) (op : Nat) : State :=
  if ssOwner p i = false then s
  else if s.bit (R.SS_STATUS p) 0 then s.protocol 0 0
  else
    let r := s.ssRun p op
    if ssBad r then s.ssEnd p 4
    else if s.ssInRange p r = false then s.ssEnd p 1
    else ({ s with pwr := { s.pwr with ss := s.pwr.ss.set p (some r) } }).setReg (R.SS_STATUS p) 1

/-- SS_COMMAND_DONE: a command ends OK or DEVERR; none starts or ends while a dump runs (R443). How far a command got that the
device ends with an error is free. -/
def State.ssDone (s : State) (p : Fin 3) (devErr : Bool) : State :=
  match s.pwr.ss[p] with
  | none => s
  | some r =>
    if s.fld R.BUF_DUMP_STATUS 1 0 = 1 then s
    else if devErr then
      ((s.useFree).ssDo p r ((Config.freeWord s.free).toNat % (r.len + 1))).ssEnd p 2
    else (s.ssDo p r r.len).ssEnd p 0

/-! ### Commands -/

/-- DOMAIN_ON (R436). -/
def execDomainOn (t : Nat) (i : Initiator) (d : Fin 20) (ret : Bool) (s : State) : Res :=
  .next ((s.at t).onReg i (R.PWR_DOM_CTRL d) (fun s => s.domWrite i d true ret))

/-- DOMAIN_OFF (R431). -/
def execDomainOff (t : Nat) (i : Initiator) (d : Fin 20) (ret : Bool) (s : State) : Res :=
  .next ((s.at t).onReg i (R.PWR_DOM_CTRL d) (fun s => s.domWrite i d false ret))

/-- POWER_ON_RESET (R439, R441). -/
def execPowerOnReset (t : Nat) (brownout : Bool) (s : State) : Res := .next ((s.at t).powerOnReset brownout)

/-- POR_DEASSERT (R439, R447). -/
def execPorDeassert (t : Nat) (hostMode i3c bootHold vdd33 : Bool) (s : State) : Res :=
  .next ((s.at t).porDeassert hostMode i3c bootHold vdd33)

/-- GTC_START (R440). -/
def execGtcStart (t : Nat) (s : State) : Res := .next (s.at t).gtcStart

/-- CHIP: PWR_RST_CTRL.CHIP, from the Control Core (R441). -/
def execChip (t : Nat) (i : Initiator) (s : State) : Res :=
  .next ((s.at t).onReg i R.PWR_RST_CTRL (fun s =>
    if iniIsCc i then { s with sump := { s.sump with chipResetSw := true } } else s))

/-- CHIP_RESET (R401, R441). -/
def execChipReset (t : Nat) (s : State) : Res := .next (s.at t).chipReset

/-- WDOG_KICK (R442). -/
def execWdogKick (t : Nat) (i : Initiator) (w : BitVec 32) (s : State) : Res :=
  .next ((s.at t).onReg i R.PWR_WDOG_KICK (fun s => s.wdogKick w.toNat))

/-- WDOG_EXPIRY (R442). -/
def execWdogExpiry (t : Nat) (s : State) : Res := .next (s.at t).wdogExpiry

/-- MWDOG_KICK (R442). -/
def execMwdogKick (t : Nat) (i : Initiator) (w : BitVec 32) (s : State) : Res :=
  .next ((s.at t).onReg i R.PWR_MWDOG_KICK (fun s => s.mwdogKick w.toNat))

/-- SS_CMD_READ (R443). -/
def execSsCmdRead (t : Nat) (i : Initiator) (p : Fin 3) (s : State) : Res := .next ((s.at t).ssCmd i p 1)

/-- PROGRAM (R443). -/
def execProgram (t : Nat) (i : Initiator) (p : Fin 3) (s : State) : Res := .next ((s.at t).ssCmd i p 2)

/-- SS_CMD_ERASE (R443). -/
def execSsCmdErase (t : Nat) (i : Initiator) (p : Fin 3) (s : State) : Res := .next ((s.at t).ssCmd i p 3)

/-- SS_COMMAND_DONE (R443). -/
def execSsCommandDone (t : Nat) (p : Fin 3) (devErr : Bool) (s : State) : Res := .next ((s.at t).ssDone p devErr)

end Sys2Proof.Machine
end

