-- ==== Sys2Proof/Machine/Tables.lean ====
section
/-! DEFINITION. The tables and values that Wounser loads: their checks (R16, R76, R86, R87, R146, R157, R163, R371) and the
registers they go to, and the calibration slots of the Safe Store (R446). -/

namespace Sys2Proof.Machine

open Sys2Proof

/-! ### Register values (R16) -/

/-- A register accepts every field of a word. -/
def regOk (a w : Nat) : Bool :=
  match regAt a with
  | some (_, _, r, _) => !(applyFields (resetOf a).toNat w r.fields).2
  | none => false

/-- Every word of a list is accepted by the register it goes to. -/
def regsOk : Nat → List Nat → Bool
  | _, [] => true
  | a, w :: r => regOk a w && regsOk (a + 4) r

/-- The value a register takes when `w` is written over `old`. -/
def regValue (a old w : Nat) : Nat :=
  match regAt a with
  | some (_, _, r, _) => (applyFields old w r.fields).1
  | none => old

/-- Wounser writes a register of its own load (R26, R31, R433; log 47). -/
def State.wWrite (s : State) (a w : Nat) : State := s.onWrite .cc a .core (fun s => s.calWrite a (regValue a (s.rd a) w))

/-- Wounser writes words at consecutive registers. -/
def State.wWords (s : State) : Nat → List Nat → State
  | _, [] => s
  | a, w :: r => State.wWords (s.wWrite a w) (a + 4) r

/-- The 32-bit words of bytes from offset `o`. -/
def wordsOf (b : List Byte) (o n : Nat) : List Nat := (List.range n).map (fun k => wordAt b (o + 4 * k))

/-- A 16-bit field of bytes. -/
def halfAt (b : List Byte) (o : Nat) : Nat := ofBytes ((b.drop o).take 2)

/-! ### Ledge records (R76) -/

/-- Section and head of a device head. -/
def headOf (d : Nat) : Fin 4 × Fin 8 := (⟨d / 8 % 4, Nat.mod_lt _ (by decide)⟩, headIdx d)

/-- Load a ledge record; none where it is rejected. -/
def State.loadLedge (s : State) (b : List Byte) : Option State :=
  match parseLedge b with
  | some (d, r) =>
    if 32 ≤ d then none
    else
      let (n, h) := headOf d
      let x := s.sec n
      some ((s.setSec n { x with ledge := x.ledge.set h (some r) }).onMbox (fun m => { m with ledgeB := setKey m.ledgeB d b }))
  | none => none

/-- Load consecutive records: the state, and the bits of those rejected (R364). -/
def State.loadLedges (s : State) : Nat → List Byte → Nat → State × Nat
  | 0, _, _ => (s, 0)
  | c + 1, b, k =>
    match s.loadLedge (b.take 80) with
    | some s' => State.loadLedges s' c (b.drop 80) (k + 1)
    | none =>
      let r := State.loadLedges s c (b.drop 80) (k + 1)
      (r.1, r.2 + 2 ^ k)

/-! ### Zone tables (R86, R87) -/

/-- The highest spindle speed configured. -/
def State.maxRpm (s : State) : Nat := s.fld R.SP_TGT 13 0

/-- Load a zone table; none where it is rejected. It takes effect under R99. -/
def State.loadZone (s : State) (b : List Byte) : Option State :=
  let d := halfAt b 4
  if 32 ≤ d then none
  else
    match parseZoneTable d s.maxRpm b with
    | none => none
    | some z =>
      let (n, h) := headOf d
      let x := s.sec n
      some ((s.setSec n { x with zoneNew := x.zoneNew.set h (some z) }).onMbox (fun m => { m with zoneB := setKey m.zoneB d b }))

/-- No zone of any loaded table exceeds 8.0 Gb/s at a speed (R87). -/
def State.speedOk (s : State) (rpm : Nat) : Bool :=
  s.secs.toList.all (fun x => x.zoneNew.toList.all (fun z => match z with
    | some z => z.zones.all (fun e => rateOk e.n rpm)
    | none => true))

/-! ### Channel calibration tables (R371) -/

/-- Read one band. -/
def parseBand (b : List Byte) : BandCal :=
  ⟨halfAt b 0, halfAt b 2, wordAt b 4, wordAt b 8, wordAt b 12, wordAt b 16, wordsOf b 32 64⟩

/-- The bands stand in ascending order, without overlap and without a gap, from zone `z`; the zone after the last. -/
def bandsFrom (z : Nat) : List BandCal → Option Nat
  | [] => some z
  | b :: r => if b.firstZone = z ∧ b.firstZone ≤ b.lastZone then bandsFrom (b.lastZone + 1) r else none

/-- The register values of a band are accepted. -/
def BandCal.ok (n : Nat) (b : BandCal) : Bool :=
  regOk (R.CH_AFE n) b.afe && regOk (R.CH_AGC n) b.agc && regOk (R.CH_WPC0 n) b.wpc0 && regOk (R.CH_WPC1 n) b.wpc1
    && regsOk (R.CH_EQ n 0) b.eq0

/-- Length of a table with `k` bands. -/
def chCalLen (k : Nat) : Nat := 16 + 288 * k + 2048 + 4

/-- Load a channel calibration table; none where it is rejected. -/
def State.loadChCal (s : State) (b : List Byte) : Option State :=
  let d := halfAt b 4
  let k := halfAt b 6
  let len := chCalLen k
  let bands := (List.range k).map (fun j => parseBand ((b.drop (16 + 288 * j)).take 288))
  let sets := (List.range 8).map (fun j => wordsOf b (16 + 288 * k + 256 * j) 64)
  let (n, h) := headOf d
  let covered : Bool := match (s.sec n).zoneNew[h], bandsFrom 0 bands with
    | some z, some e => decide (z.zones.length ≤ e)
    | _, _ => false
  let regs : Bool := bands.all (BandCal.ok n) && (List.range 8).all (fun j => regsOk (R.CH_EQ n (64 * (j + 1))) (sets.getD j []))
  if wordAt b 0 == 0x43430001 && decide (d < 32) && decide (1 ≤ k) && decide (k ≤ 8) && decide (len ≤ b.length)
      && wordAt b (len - 4) == crc32c (b.take (len - 4)) && covered && regs
  then some (s.onMbox (fun m => { m with chcal := setKey m.chcal d ⟨b.take len, bands, sets⟩ }))
  else none

/-! ### Loop images (R146, R157, R364) -/

/-- Word `w` of region `r` of an image. -/
def imgRegion (b : List Byte) (r w : Nat) : Nat := wordAt b (16 * r + 4 * w)

/-- Value `v` of bank `r` of an image. -/
def imgCoef (b : List Byte) (r v : Nat) : Nat := halfAt b (128 + 256 * r + 2 * v)

/-- No field of a region entry or of its bank holds a reserved value. -/
def regionFieldsOk (b : List Byte) (r : Nat) : Bool :=
  let w := imgRegion b r 0
  let x := imgRegion b r 3
  bitsOf w 8 7 != 3 && bitsOf w 15 14 == 0 && bitsOf w 31 24 == 0 && bitsOf w 23 16 != 0
    && bitOf x 15 == false && bitOf x 31 == false
    && bitsOf (imgCoef b r 74) 15 12 == 0 && imgCoef b r 75 == 0
    && (List.range 22).all (fun k => imgCoef b r (106 + k) == 0)

/-- The chain of links from region `r` reaches 7, which means none, within `fuel` links. -/
def chainEnds (next : Nat → Nat) : Nat → Nat → Bool
  | 0, _ => false
  | fuel + 1, r => if r = 7 then true else chainEnds next fuel (next r)

/-- The links that `shift` selects form no cycle. -/
def linksOk (b : List Byte) (lo : Nat) : Bool :=
  let next (r : Nat) : Nat := bitsOf (imgRegion b r 0) (lo + 2) lo
  (List.range 8).all (fun r => chainEnds next 9 (next r))

/-- A loop image passes the checks of R146 and its CRC. -/
def loopImageOk (b : List Byte) : Bool :=
  b.length == 2180 && wordAt b 2176 == crc32c (b.take 2176)
    && (List.range 8).all (regionFieldsOk b)
    && bitOf (imgRegion b 6 0) 9
    && (List.range 6).all (fun r => decide (imgRegion b r 1 < imgRegion b r 2))
    && (List.range 8).all (fun r => bitsOf (imgRegion b r 0) 8 7 != 1 || imgCoef b r 72 != 0)
    && linksOk b 0 && linksOk b 3

/-- Load a loop image into section n; none where it is rejected. -/
def State.loadLoop (s : State) (n : Fin 4) (b : List Byte) : Option State :=
  if loopImageOk b then some ((s.wWords (R.LOOP_REGION n 0) (wordsOf b 0 32)).wWords (R.LOOP_BANK n 0) (wordsOf b 128 512)) else none

/-- The loop image in force in section n. -/
def State.loopImage (s : State) (n : Fin 4) : List Byte :=
  let b := wordsToBytes ((List.range 32).map (fun k => s.rd (R.LOOP_REGION n k)) ++ (List.range 512).map (fun k => s.rd (R.LOOP_BANK n k)))
  b ++ toBytes 4 (crc32c b)

/-! ### Profile sets and actuator parameters (R163, R364) -/

/-- A profile set passes the checks of R163. -/
def psetOk (v : List Nat) : Bool :=
  let vmax := v.getD 0 0
  let amax := v.getD 1 0
  let abrk := v.getD 2 0
  let jmax := v.getD 3 0
  jmax != 0 && amax % jmax == 0 && decide (abrk ≤ amax) && abrk != 0 && vmax != 0

/-- Load profile set `k` of section n; none where it is refused. -/
def State.loadPset (s : State) (n : Fin 4) (k : Nat) (v : List Nat) : Option State :=
  if psetOk v then some (s.wWords (R.PG_SET n (4 * k)) (v.take 4)) else none

/-- ACT_PARAMS: default PSET, PARK_TRACK, RT_CFG, RT_TIME; none where a value is reserved. -/
def State.loadParams (s : State) (n : Fin 4) (pset park cfg time : Nat) : Option State :=
  if regOk (R.RT_CFG n) cfg && regOk (R.RT_TIME n) time then
    let s := s.onMbox (fun m => { m with act := m.act.set n ⟨pset, park⟩ })
    some ((s.wWrite (R.RT_CFG n) cfg).wWrite (R.RT_TIME n) time)
  else none

/-- The default profile set of section n. -/
def State.defPset (s : State) (n : Fin 4) : Nat := s.mbox.act[n].pset

/-- Profile set `k` of section n has JMAX 0 (R163). -/
def State.psetBare (s : State) (n : Fin 4) (k : Nat) : Bool := s.rd (R.PG_SET n (4 * k + 3)) == 0

/-! ### Spindle block, budget and period (R364) -/

/-- The 16 words from SP_ENC to SP_OC, then their CRC. -/
def spinBlockOk (b : List Byte) : Bool :=
  let th0 := wordAt b 44
  wordAt b 64 == crc32c (b.take 64) && regsOk R.SP_ENC (wordsOf b 0 16) && decide (bitsOf th0 31 16 < bitsOf th0 15 0)

/-- Load a spindle block, with the MAON copies of R210; none where it is rejected. -/
def State.loadSpin (s : State) (b : List Byte) : Option State :=
  if spinBlockOk b then
    let s := { s with maon := { s.maon with
      th1 := BitVec.ofNat 32 (wordAt b 48)
      plCfg := BitVec.ofNat 32 (wordAt b 52) } }
    some (s.wWords R.SP_ENC (wordsOf b 0 16))
  else none

/-- The spindle block in force. -/
def State.spinBlock (s : State) : List Byte :=
  let b := wordsToBytes ((List.range 16).map (fun k => s.rd (R.SP_ENC + 4 * k)))
  b ++ toBytes 4 (crc32c b)

/-- SET_BUDGET; none where a value is out of its range. -/
def State.loadBudget (s : State) (isup spin cap : Nat) : Option State :=
  if isup = 0 ∨ 20000 < isup ∨ isup < cap ∨ 65536 ≤ spin then none
  else some (((s.wWrite R.LE_ISUP isup).wWrite R.LE_ISPIN_RES spin).wWrite R.LE_FOLLOW_CAP cap)

/-- SET_PERIOD: every profile set of every section returns to JMAX 0 (R163); none where the value is reserved. -/
def State.loadPeriod (s : State) (v : Nat) : Option State :=
  if regOk R.LE_PERIOD v then
    let bare (s : State) (n : Fin 4) : State := (List.range 4).foldl (fun s k => s.calWrite (R.PG_SET n (4 * k + 3)) 0) s
    some ((s.wWrite R.LE_PERIOD v).forSecs (fun n s => if s.domOn (16 + n) then bare s n else s))
  else none

/-! ### Calibration slots (R446) -/

/-- A block of a slot: TYPE, INDEX, body. -/
structure CalBlock where
  typ : Nat
  index : Nat
  body : List Byte
deriving DecidableEq, Repr

/-- The blocks of a slot after its header, while every CRC matches; a TYPE of 0 or the end of the bytes ends the slot. -/
def parseBlocks : Nat → List Byte → Option (List CalBlock)
  | 0, _ => some []
  | fuel + 1, b =>
    if b.length < 16 ∨ halfAt b 0 = 0 then some []
    else
      let len := wordAt b 4
      let body := (b.drop 16).take len
      if body.length = len ∧ wordAt b 12 = crc32c body then
        (parseBlocks fuel (b.drop (16 + len))).map (fun l => ⟨halfAt b 0, halfAt b 2, body⟩ :: l)
      else none

/-- The blocks of a slot's bytes; none where MAGIC or a CRC does not match. -/
def parseSlot (b : List Byte) : Option (List CalBlock) :=
  if wordAt b 0 = 0x434C0001 ∧ 32 ≤ b.length ∧ wordAt b 28 = crc32c (b.take 28) then
    parseBlocks b.length ((b.drop 32).take (wordAt b 4))
  else none

/-- The blocks of the slot in force: the valid one with the higher GEN. -/
def State.calBlocks (s : State) : List CalBlock :=
  match s.directory with
  | none => []
  | some (_, d) => ((slotOrder d 6).findSome? (fun e => parseSlot (s.slotBytes d e))).getD []

/-- The bytes of a block. -/
def CalBlock.bytes (x : CalBlock) : List Byte :=
  toBytes 2 x.typ ++ toBytes 2 x.index ++ toBytes 4 x.body.length ++ toBytes 4 0 ++ toBytes 4 (crc32c x.body) ++ x.body

/-- The bytes of a slot that holds blocks. -/
def slotImage (l : List CalBlock) : List Byte :=
  let body := l.flatMap CalBlock.bytes ++ toBytes 16 0
  let h := toBytes 4 0x434C0001 ++ toBytes 4 body.length ++ toBytes 20 0
  h ++ toBytes 4 (crc32c h) ++ body

/-- The sections whose registers SAVE_CAL can read. -/
def State.onSecs (s : State) : List (Fin 4) := (List.finRange 4).filter (fun n => s.domOn (16 + n))

/-- The body of a block of type 5: the profile sets and the ACT_PARAMS words of a section. -/
def State.paramBlock (s : State) (n : Fin 4) : List Byte :=
  let p := s.mbox.act[n]
  wordsToBytes ((List.range 16).map (fun k => s.rd (R.PG_SET n k)) ++ [n.val + 16 * p.pset, p.parkTrack, s.rd (R.RT_CFG n), s.rd (R.RT_TIME n)])

/-- The blocks of the tables in force, of one type. Type 7 goes with the profile sets, which depend on the period. -/
def State.blocksOf (s : State) (typ : Nat) : List CalBlock :=
  match typ with
  | 1 => s.mbox.ledgeB.map (fun p => ⟨1, p.1, p.2⟩)
  | 2 => s.mbox.zoneB.map (fun p => ⟨2, p.1, p.2⟩)
  | 3 => s.mbox.chcal.map (fun p => ⟨3, p.1, p.2.bytes⟩)
  | 4 => s.onSecs.map (fun n => ⟨4, n.val, s.loopImage n⟩)
  | 5 => s.onSecs.map (fun n => ⟨5, n.val, s.paramBlock n⟩)
  | 6 => if s.domOn 15 then [⟨6, 0, s.spinBlock⟩] else []
  | _ => [⟨7, 0, wordsToBytes [s.rd R.LE_ISUP, s.rd R.LE_ISPIN_RES, s.rd R.LE_FOLLOW_CAP, s.rd R.LE_PERIOD]⟩]

/-- The request bit of SAVE_CAL that selects a block type. -/
def calSelect (typ : Nat) : Nat := if typ = 7 then 4 else typ - 1

/-- The slot that SAVE_CAL writes for request word 1: selected types from the tables in force, the others copied. -/
def State.saveBlocks (s : State) (w : Nat) : List CalBlock :=
  let old := s.calBlocks
  [1, 2, 3, 4, 7, 5, 6].flatMap (fun t => if bitOf w (calSelect t) then s.blocksOf t else old.filter (fun x => x.typ == t))

/-- Load one block through the checks of its load command; a block that fails them, or of a domain that is not ON, is not loaded. -/
def State.loadBlock (s : State) (x : CalBlock) : State :=
  let n : Fin 4 := ⟨x.index % 4, Nat.mod_lt _ (by decide)⟩
  let w (k : Nat) : Nat := wordAt x.body (4 * k)
  match x.typ with
  | 1 => (s.loadLedge x.body).getD s
  | 2 => (s.loadZone x.body).getD s
  | 3 => (s.loadChCal x.body).getD s
  | 4 => if s.domOn (16 + n) then (s.loadLoop n x.body).getD s else s
  | 5 =>
    if s.domOn (16 + n) then
      let s := (List.range 4).foldl (fun s k => (s.loadPset n k (wordsOf x.body (16 * k) 4)).getD s) s
      (s.loadParams n (bitsOf (w 16) 5 4) (w 17 % 2 ^ 24) (w 18) (w 19)).getD s
    else s
  | 6 => if s.domOn 15 then (s.loadSpin x.body).getD s else s
  | 7 =>
    let s := (s.loadBudget (w 0) (w 1) (w 2)).getD s
    (s.loadPeriod (w 3)).getD s
  | _ => s

/-- Wounser loads the calibration in force, the period before the profile sets that depend on it (R163, R446, R447 step 7). -/
def State.loadCal (s : State) : State :=
  let l := s.calBlocks
  (l.filter (fun x => x.typ == 7) ++ l.filter (fun x => x.typ != 7)).foldl (fun s x => s.loadBlock x) s

/-- Wounser loads again what the calibration holds for a domain that came up: the spindle, or a section (R446). -/
def State.loadCalDom (s : State) (d : Nat) : State :=
  (s.calBlocks.filter (fun x =>
    if d = 15 then x.typ == 6 else (x.typ == 4 || x.typ == 5) && x.index % 4 + 16 == d)).foldl (fun s x => s.loadBlock x) s

end Sys2Proof.Machine
end

