-- ==== Sys2Proof/Machine/Wounser.lean ====
section
/-! DEFINITION. How Wounser takes a mailbox request (R359, R362, R363, R373), and the general, spindle and actuator commands (R364,
R181, R487, R488). -/

namespace Sys2Proof.Machine

open Sys2Proof

/-! ### Statuses (R363) -/

def mbOK : Nat := 0
def mbBADOP : Nat := 1
def mbBADPARAM : Nat := 2
def mbLEVEL : Nat := 3
def mbLCSTATE : Nat := 4
def mbSTATE : Nat := 5
def mbBUSYFUNC : Nat := 6
def mbFENCED : Nat := 7
def mbREJECTED : Nat := 8
def mbLIMIT : Nat := 9
def mbTOKEN : Nat := 10
def mbDENIED : Nat := 12
def mbFAILED : Nat := 13
def mbABORTED : Nat := 14
def mbMEMERR : Nat := 15

/-! ### The command set (R364) -/

/-- The life-cycle states in which an opcode is accepted; none: the opcode does not exist. In BLANK and SCRAP only the opcodes that
R364 lists for them are accepted. -/
def opStates (op : Nat) : Option (List Nat) :=
  if op = 0x01 ∨ op = 0x02 ∨ op = 0x60 then some [0, 1, 2, 3, 4, 5]
  else if op = 0x40 ∨ op = 0x41 ∨ op = 0x61 ∨ op = 0x62 then some [0, 1, 2, 3, 4]
  else if op = 0x14 ∨ op = 0x25 ∨ op = 0x31 ∨ op = 0x32 ∨ op = 0x35 ∨ op = 0x37 ∨ op = 0x38 then some [1, 2, 4]
  else if (0x10 ≤ op ∧ op ≤ 0x13) ∨ (0x20 ≤ op ∧ op ≤ 0x24) ∨ op = 0x30 ∨ op = 0x33 ∨ op = 0x34 ∨ op = 0x36
      ∨ (0x42 ≤ op ∧ op ≤ 0x45) ∨ (0x50 ≤ op ∧ op ≤ 0x53) ∨ (0x80 ≤ op ∧ op ≤ 0x83) then some [1, 2, 3, 4]
  else none

/-- A channel is listed for an opcode. -/
def opChannel (op ch : Nat) : Bool :=
  if op = 0x14 ∨ op = 0x30 ∨ op = 0x31 ∨ op = 0x32 ∨ op = 0x33 ∨ op = 0x36 ∨ op = 0x62 then decide (ch ≤ 11)
  else if op = 0x51 ∨ op = 0x52 ∨ op = 0x53 ∨ op = 0x61 then decide (ch ≤ 14)
  else if op = 0x81 ∨ op = 0x82 then decide (ch ≤ 11) || ch == 14 || ch == 15
  else if op = 0x83 then ch == 15
  else true

/-- The functions an opcode acts on, for the order of R362: 0 the spindle, 1 + n section n, 10 and up tables, 32 and up grant units. -/
def opFuncs (op w1 : Nat) : List Nat :=
  if 0x10 ≤ op ∧ op ≤ 0x14 then [0]
  else if op = 0x20 then [0, 1 + w1 % 4]
  else if (0x21 ≤ op ∧ op ≤ 0x25) ∨ op = 0x33 ∨ op = 0x34 then [1 + w1 % 4]
  else if 0x30 ≤ op ∧ op ≤ 0x38 then [op - 38]
  else if op = 0x42 ∨ op = 0x43 then [32 + w1 % 8 + 8 * bitsOf w1 7 4]
  else []

/-- No request rung earlier on another channel waits for a function of this one (R362). -/
def State.mbFirst (s : State) (ch : Fin 16) : Bool :=
  let mine := opFuncs (s.mbOp ch) (s.mbReq ch 1)
  (s.mbox.order.takeWhile (· != ch)).all (fun c =>
    !(s.chan c).wait || (opFuncs (s.mbOp c) (s.mbReq c 1)).all (fun f => !mine.contains f))

/-- Wounser takes a request: it waits no longer. -/
def State.mbTake (s : State) (ch : Fin 16) : State :=
  (s.onMbChan ch (fun c => { c with wait := false })).onMbox (fun m => { m with order := m.order.filter (· != ch) })

/-- Wounser starts a command that takes time. -/
def State.mbStart (s : State) (ch : Fin 16) (r : MbRun) : State := s.onMbChan ch (fun c => { c with run := some r })

/-- Wounser can take the request that waits on a channel, and does not answer it with the kept response (R360). -/
def State.mbReady (s : State) (ch : Fin 16) : Bool :=
  s.mbServes ch && (s.chan ch).wait && !s.mbKept ch && s.mbFirst ch

/-- The first status of R363 that applies before BADPARAM; `denied`: a holder mismatch or a unit of the pair that is not owned;
`level`: the grant of an Expert command. -/
def State.mbRefusal (s : State) (ch : Fin 16) (denied level : Bool) : Option Nat :=
  match opStates (s.mbOp ch) with
  | none => some mbBADOP
  | some l =>
    if opChannel (s.mbOp ch) ch = false ∨ denied then some mbDENIED
    else if l.contains s.lcState = false then some mbLCSTATE
    else if level then none
    else some mbLEVEL

/-- Wounser takes the request of opcode `op` that waits on a channel and answers the first status of R363 that applies, or does
`f`. -/
def State.mbServe (s : State) (ch : Fin 16) (op : Nat) (denied level : State → Bool) (f : State → State) : State :=
  if s.mbReady ch ∧ s.mbOp ch = op then
    let s := s.mbTake ch
    match s.mbRefusal ch (denied s) (level s) with
    | some st => s.mbReply ch st []
    | none => f s
  else s

/-- Neither a holder nor an owner is asked for. -/
def always (_ : State) : Bool := true
def never (_ : State) : Bool := false

/-- A Basic command that needs no ownership. -/
def State.mbBasic (s : State) (ch : Fin 16) (op : Nat) (f : State → State) : State := s.mbServe ch op never always f

/-- The first condition of a list that holds gives the status; otherwise `f`. -/
def State.mbGuard (s : State) (ch : Fin 16) (f : State → State) : List (Bool × Nat) → State
  | [] => f s
  | (b, st) :: r => if b then s.mbReply ch st [] else State.mbGuard s ch f r

/-- Answer OK without words. -/
def State.mbOk (s : State) (ch : Fin 16) : State := s.mbReply ch mbOK []

/-- The section of request word 1. -/
def State.mbSect (s : State) (ch : Fin 16) : Fin 4 := ⟨s.mbReq ch 1 % 4, Nat.mod_lt _ (by decide)⟩

/-- The safe state holds for Wounser: SUMP_STATUS, or a decision on its way (R400). -/
def State.safeHolds (s : State) : Bool := s.safe || s.safeStands

/-! ### INFO, STATUS, LC_GET -/

/-- INFO. -/
def State.cmdInfo (s : State) (ch : Fin 16) : State :=
  s.mbReply ch mbOK ([s.rd R.MB_VER % 2 ^ 31, s.rd R.LCS_REV, s.rd R.LCS_STATE, Config.headsPresent.toNat]
    ++ (List.range 4).map (fun k => wordAt s.fuses.devid (4 * k)))

/-- The present track of section n. -/
def State.statTrack (s : State) (n : Fin 4) : Nat := s.rd (R.LOOP_TRK n) % 2 ^ 24

/-- The STATUS word of section n. -/
def State.statWord (s : State) (n : Fin 4) : Nat :=
  b2n (s.parked n) + 2 * b2n (s.fenced n) + 4 * s.loopMode n + 16 * s.head n + 256 * s.statTrack n

/-- STATUS. -/
def State.cmdStatus (s : State) (ch : Fin 16) : State :=
  let held := (List.range 31).foldl (fun x g => x + 2 ^ g * b2n (s.held g)) 0
  s.mbReply ch mbOK ([s.spin_ + 16 * b2n (s.bit R.SP_STATUS 4) + 65536 * (s.speedQ / 4)]
    ++ (List.finRange 4).map (fun n => s.statWord n)
    ++ [held, b2n s.safeHolds + 2 * b2n s.maon.powerLossAt.isSome])

/-- LC_GET. -/
def State.cmdLcGet (s : State) (ch : Fin 16) : State := s.mbReply ch mbOK [s.rd R.LCS_STATE, s.fld R.LCS_STATE 9 8]

/-! ### The spindle (R364, R487, R488, R490, R494) -/

/-- Wounser writes SP_CMD. -/
def State.spCmd (s : State) (op : Nat) : State := s.onWrite .cc R.SP_CMD .cc (fun s => s.spinCmd op)

/-- Wounser writes SP_TGT. -/
def State.spTgt (s : State) (w : Nat) : State := s.onWrite .cc R.SP_TGT .cc (fun s => s.writeTgt w)

/-- RPM of SPIN_START and SPIN_SPEED outside its range. -/
def State.rpmBad (s : State) (ch : Fin 16) : Bool :=
  let rpm := s.mbReq ch 1 % 2 ^ 14
  decide (rpm < 3600) || decide (10000 < rpm)

/-- The SP_TGT word of a request. -/
def State.tgtWord (s : State) (ch : Fin 16) : Nat :=
  let w := s.mbReq ch 1
  bitsOf w 13 0 + 65536 * bitsOf w 18 16

/-- SPIN_START: from SPEED and RUN it only changes the speed (R488). -/
def State.cmdSpinStart (s : State) (ch : Fin 16) : State :=
  let st := s.spin_
  s.mbGuard ch (fun s =>
    let s := s.spTgt (s.tgtWord ch)
    (if st = spSPEED ∨ st = spRUN then s else s.spCmd 1).mbOk ch)
    [(s.rpmBad ch, mbBADPARAM), (s.safeHolds || !s.domOn 15 || st == spFAULT || st == spGEN, mbSTATE), (s.held 8, mbBUSYFUNC),
     (!s.speedOk (s.mbReq ch 1 % 2 ^ 14), mbREJECTED)]

/-- SPIN_SPEED. -/
def State.cmdSpinSpeed (s : State) (ch : Fin 16) : State :=
  s.mbGuard ch (fun s => (s.spTgt (s.tgtWord ch)).mbOk ch)
    [(s.rpmBad ch, mbBADPARAM), (s.safeHolds || !s.domOn 15, mbSTATE), (!s.speedOk (s.mbReq ch 1 % 2 ^ 14), mbREJECTED)]

/-- The peer has reported that every section it owns is PARKED, where the pair asks for it (R483, R494). -/
def State.peerStopped (s : State) : Bool :=
  if s.paired ∧ s.bit R.ROPE_CTRL 1 = false ∧ s.suspect = false then
    let mine := s.fld R.ROPE_OWN 12 9
    match s.mbox.plReport with
    | some w => (List.range 4).all (fun k => bitOf mine k || bitOf w (k + 1))
    | none => mine == 15
  else true

/-- SPIN_STOP and SPIN_COAST. -/
def State.cmdSpinOff (s : State) (ch : Fin 16) (op : Nat) : State :=
  s.mbGuard ch (fun s => (s.spCmd op).mbOk ch) [(!s.domOn 15 || !s.allParked || !s.peerStopped, mbSTATE)]

/-! ### Tables and buffers in the DRAM -/

/-- ADDR of a request: two words, the low word first. -/
def State.mbAddr (s : State) (ch : Fin 16) (k : Nat) : Nat := s.mbReq ch k + 2 ^ 32 * s.mbReq ch (k + 1)

/-- A buffer of `n` bytes does not lie in the DRAM window. -/
def addrBad (a n : Nat) : Bool := !(inDram a && inDram (a + n - 1))

/-- Wounser reads `n` bytes of the buffer that request words `k` and `k + 1` name: BADPARAM outside the DRAM window, MEMERR at an
error indication, otherwise `f` with the bytes. -/
def State.mbBuffer (s : State) (ch : Fin 16) (k n : Nat) (f : State → List Byte → State) : State :=
  let a := s.mbAddr ch k
  if addrBad a n then s.mbReply ch mbBADPARAM []
  else
    let r := s.busRead 0 a n
    if r.err then r.st.mbReply ch mbMEMERR [] else f r.st r.bytes

/-- Answer OK with the state of a load, or REJECTED. -/
def State.mbLoaded (s : State) (ch : Fin 16) (o : Option State) : State :=
  match o with
  | some t => t.mbOk ch
  | none => s.mbReply ch mbREJECTED []

/-- SPIN_CFG. -/
def State.cmdSpinCfg (s : State) (ch : Fin 16) : State :=
  if addrBad (s.mbAddr ch 1) 68 then s.mbReply ch mbBADPARAM []
  else if s.domOn 15 = false ∨ s.spin_ ≠ spOFF then s.mbReply ch mbSTATE []
  else s.mbBuffer ch 1 68 (fun s b => s.mbLoaded ch (s.loadSpin b))

/-! ### Angle events of Wounser (R54, R55, R59) -/

/-- Wounser loads an event at an extended angle, without CPL, with a TAG of its own below 0x4000. -/
def State.ccEvent (s : State) (n : Fin 4) (ext typ p0 p1 : Nat) : State :=
  let tag := (Config.freeWord s.free).toNat % 16384
  let s := s.useFree
  let w0 := BitVec.ofNat 32 (ext % REV_COUNTS)
  let w1 := BitVec.ofNat 32 (ext / REV_COUNTS % 256 + 256 * typ + 65536 * tag)
  let s := ((s.stageWord n 0 0 w0).stageWord n 0 1 w1).stageWord n 0 2 (BitVec.ofNat 32 p0)
  s.eventCommit n .cc (BitVec.ofNat 32 p1)

/-- The extended angle 2 × ATB_LEAD_CNT ahead; none while no speed is known (R372). -/
def State.ahead (s : State) (n : Fin 4) : Option Nat :=
  let lead := s.rd (R.ATB_LEAD_CNT n)
  if lead = 0xFFFFFFFF then none else some (s.ext n + 2 * lead)

/-- HEAD_SW, when the head changes, and SETPOINT at one angle (R372 step 2). -/
def State.moveTo (s : State) (n : Fin 4) (ext head tgt pset : Nat) : State :=
  let s := if s.head n = head then s else s.ccEvent n ext tyHEADSW head 0
  s.ccEvent n ext tySETPOINT (tgt / 65536) (tgt % 65536 + 65536 * pset)

/-! ### The actuators -/

/-- The channel whose load or seek or unload runs on section n. -/
def State.motionRuns (s : State) (n : Fin 4) : Bool :=
  s.mbox.chans.toList.any (fun c => match c.run with
    | some (.load k) => k == n
    | some (.unload k) => k == n
    | some (.seek k _ _ _) => k == n
    | _ => false)

/-- Wounser writes ATB_HEAD_OFSh of a section with the measured offsets, which are free (R51, R373). -/
def State.measureHeads (s : State) (n : Fin 4) : State :=
  (List.range 8).foldl (fun s h =>
    let v := (Config.freeWord s.free).toNat % REV_COUNTS
    let s := (s.useFree).writeHeadOfs n h v
    s.calWrite (R.ATB_HEAD_OFS n h) v) s

/-- ACT_LOAD: steps 1 and 2 of R181. The load target of velocity mode is free. A loop unit that is not in IDLE gets LOOP_MODE IDLE. -/
def State.loadStart (s : State) (ch : Fin 16) (n : Fin 4) (head track : Nat) : State :=
  let s := s.measureHeads n
  let s := if s.loopMode n = 2 then s else s.onLoop n (fun l => { l with pend := some (2#32, 0#32) })
  let s := s.loadBand n head track
  let s := if s.head n = head then s
    else match s.ahead n with
      | some e => s.ccEvent n e tyHEADSW head 0
      | none => s
  let v := (Config.freeWord s.free).toNat
  let s := s.useFree.onWrite .cc (R.VD_VMODE n) .cc (fun s => s.writeVmode n (v / 4 * 4 + 3))
  let x := s.sec n
  let run : LoadRun := ⟨ch, s.gtc, 2, 0, s.reg (R.MB_REQ ch 1), s.reg (R.MB_REQ ch 2), s.reg (R.MB_REQ ch 3)⟩
  (s.setSec n { x with load := some run }).mbStart ch (.load n)

/-- ACT_LOAD. -/
def State.cmdActLoad (s : State) (ch : Fin 16) : State :=
  let n := s.mbSect ch
  s.mbGuard ch (fun s => s.loadStart ch n (bitsOf (s.mbReq ch 1) 4 2) (s.mbReq ch 2 % 2 ^ 24))
    [(s.safeHolds, mbSTATE), (s.fenced n, mbFENCED),
     (!s.domOn 15 || !s.domOn (16 + n), mbSTATE),
     (s.spin_ != spRUN || !s.bit R.SP_STATUS 4 || !s.parked n || s.retracting n || s.atbState n != stMASTER
        || s.psetBare n (s.defPset n), mbSTATE),
     (s.held 8 || s.held n || s.motionRuns n, mbBUSYFUNC)]

/-- Wounser begins to unload section n: a seek to PARK_TRACK, or PARK at once where the seek cannot run. -/
def State.unloadBegin (s : State) (n : Fin 4) : State :=
  let now (s : State) : State := s.onWrite .cc (R.ACT_CTRL n) .cc (fun s => s.park n)
  if s.parked n ∨ s.retracting n then s
  else
    match s.ahead n with
    | some e =>
      if s.loopMode n = 0 ∧ s.psetBare n (s.defPset n) = false ∧ s.linkUp ∧ s.safeHolds = false then
        s.moveTo n e (s.head n) (s.mbox.act[n].parkTrack * 65536) (s.defPset n)
      else now s
    | none => now s

/-- The generator of section n has arrived at a target. -/
def State.arrivedAt (s : State) (n : Fin 4) (tgt : Nat) : Bool :=
  s.bit (R.ACT_STATUS n) 1 && (s.sec n).act.tgt == ((tgt * 256 : Nat) : Int)

/-- Wounser writes PARK once the seek to PARK_TRACK has arrived. -/
def State.unloadNext (s : State) (n : Fin 4) : State :=
  if s.parked n = false ∧ s.retracting n = false ∧ s.arrivedAt n (s.mbox.act[n].parkTrack * 65536) then
    s.onWrite .cc (R.ACT_CTRL n) .cc (fun s => s.park n)
  else s

/-- ACT_UNLOAD. -/
def State.cmdActUnload (s : State) (ch : Fin 16) : State :=
  let n := s.mbSect ch
  s.mbGuard ch (fun s => (s.unloadBegin n).mbStart ch (.unload n))
    [(s.fenced n, mbFENCED), (!s.domOn (16 + n), mbSTATE), (s.parked n, mbOK), (s.motionRuns n, mbBUSYFUNC)]

/-- The scheduler of section n holds ACT_SEEK off: EN 1 and PAUSED 0. -/
def State.mschHolds (s : State) (n : Fin 4) : Bool := s.bit (R.MSCH_CTRL n) 0 && !s.bit (R.MSCH_STATUS n) 12

/-- ACT_SEEK. -/
def State.cmdActSeek (s : State) (ch : Fin 16) : State :=
  let n := s.mbSect ch
  let w := s.mbReq ch 1
  let head := bitsOf w 4 2
  let track := s.mbReq ch 2 % 2 ^ 24
  let tgt := track * 65536 + s.mbReq ch 3 % 65536
  s.mbGuard ch (fun s =>
    let s := s.loadBand n head track
    let s := match s.ahead n with
      | some e => s.moveTo n e head tgt (bitsOf w 7 6)
      | none => s
    s.mbStart ch (.seek n s.gtc head tgt))
    [(s.safeHolds, mbSTATE), (s.fenced n, mbFENCED), (!s.domOn (16 + n), mbSTATE),
     (s.parked n || s.retracting n || s.psetBare n (bitsOf w 7 6), mbSTATE), (s.motionRuns n || s.mschHolds n, mbBUSYFUNC)]

/-- ACT_MJOG: a MICROJOG at the next wedge beyond the lead. -/
def State.cmdActMjog (s : State) (ch : Fin 16) : State :=
  let n := s.mbSect ch
  let lead := s.rd (R.ATB_LEAD_CNT n)
  s.mbGuard ch (fun s =>
    let e := ((s.ext n + lead) / WEDGE_COUNTS + 1) * WEDGE_COUNTS
    (s.ccEvent n e tyMICROJOG (s.mbReq ch 2 % 65536) 0).mbOk ch)
    [(s.safeHolds, mbSTATE), (s.fenced n, mbFENCED), (!s.domOn (16 + n) || lead == 0xFFFFFFFF, mbSTATE)]

/-- ACT_OC_CLR. -/
def State.cmdOcClr (s : State) (ch : Fin 16) : State :=
  let n := s.mbSect ch
  s.mbGuard ch (fun s => (s.onWrite .cc (R.ACT_CTRL n) .cc (fun s => s.ocClear n)).mbOk ch) [(!s.domOn (16 + n), mbSTATE)]

/-- ACT_PARAMS. -/
def State.cmdActParams (s : State) (ch : Fin 16) : State :=
  let n := s.mbSect ch
  s.mbGuard ch (fun s =>
    s.mbLoaded ch (s.loadParams n (bitsOf (s.mbReq ch 1) 5 4) (s.mbReq ch 2 % 2 ^ 24) (s.mbReq ch 3) (s.mbReq ch 4)))
    [(!s.domOn (16 + n), mbSTATE)]

/-! ### The hand-over of a load (R181) -/

/-- A LOOP_MODE of Wounser that applies at the next sample: MODE, region, MAN_UV. -/
def State.modeNow (s : State) (n : Fin 4) (mode region : Nat) (uv : Int) : State :=
  s.onLoop n (fun l => { l with pend := some (BitVec.ofNat 32 (mode + 4 * region), BitVec.ofNat 32 (ofS 16 uv)) })

/-- The region in which a load enters AUTO: the first with MEAS 1. -/
def State.measRegion (s : State) (n : Fin 4) : Nat := ((List.range 8).find? (fun r => s.rgMeas n r)).getD 6

/-- LOAD_HANDOFF: step 4 after eight good wedges, steps 5 and 6 at the sample after the one in MANUAL. -/
def State.loadHandoff (s : State) (n : Fin 4) : State :=
  match (s.sec n).load with
  | none => s
  | some l =>
    let step (s : State) (k : Nat) : State := s.setSec n { s.sec n with load := some { l with step := k } }
    if s.wounserUp = false ∨ s.linkUp = false ∨ s.atbState n = stMASTER then s
    else if l.step = 2 ∧ 8 ≤ l.good then
      let s := s.modeNow n 1 (s.region n) (s.coilUv n)
      step (s.onWrite .cc (R.VD_VMODE n) .cc (fun s => s.writeVmode n (putBits (s.rd (R.VD_VMODE n)) 0 0 0))) 4
    else if l.step = 4 ∧ s.loopMode n = 1 ∧ (s.sec n).loop.pend.isNone then
      let s := s.modeNow n 0 (s.measRegion n) 0
      let e : Event := {
        w0 := BitVec.ofNat 32 (s.angle n)
        w1 := 0#32
        w2 := BitVec.ofNat 32 (l.w2.toNat % 2 ^ 24)
        w3 := BitVec.ofNat 32 (65536 * s.defPset n) }
      step (actSetpoint n e s) 5
    else s

/-- A load that did not end OK leaves velocity mode (R181). -/
def State.loadDrop (s : State) (n : Fin 4) : State :=
  let s := s.setSec n { s.sec n with load := none }
  if s.bit (R.VD_VMODE n) 0 then s.onWrite .cc (R.VD_VMODE n) .cc (fun s => s.writeVmode n (putBits (s.rd (R.VD_VMODE n)) 0 0 0)) else s

/-- LOAD_TIMEOUT: MASTER still at t0 + 100 ms; PARK, and the load has failed. -/
def State.loadTimeout (s : State) (n : Fin 4) : State :=
  match (s.sec n).load with
  | none => s
  | some l =>
    if s.wounserUp ∧ s.atbState n = stMASTER ∧ l.t0 + 100000000 ≤ s.gtc then
      let s := (s.onWrite .cc (R.ACT_CTRL n) .cc (fun s => s.park n)).loadDrop n
      s.mbReply ⟨l.ch % 16, Nat.mod_lt _ (by decide)⟩ mbFAILED []
    else s

/-! ### Commands -/

/-- The spindle is not owned (R364, R472). -/
def State.noSpin (s : State) : Bool := !s.ownsSpin

/-- The section of a request is not owned. -/
def State.noSect (ch : Fin 16) (s : State) : Bool := !s.ownsAct (s.mbSect ch)

/-- INFO (R364). -/
def execInfo (t : Nat) (ch : Fin 16) (s : State) : Res := .next ((s.at t).mbBasic ch 0x01 (fun s => s.cmdInfo ch))

/-- STATUS (R364). -/
def execStatus (t : Nat) (ch : Fin 16) (s : State) : Res := .next ((s.at t).mbBasic ch 0x02 (fun s => s.cmdStatus ch))

/-- LC_GET (R364). -/
def execLcGet (t : Nat) (ch : Fin 16) (s : State) : Res := .next ((s.at t).mbBasic ch 0x60 (fun s => s.cmdLcGet ch))

/-- SPIN_START (R364, R488). -/
def execSpinStart (t : Nat) (ch : Fin 16) (s : State) : Res :=
  .next ((s.at t).mbServe ch 0x10 State.noSpin always (fun s => s.cmdSpinStart ch))

/-- SPIN_STOP (R364, R483). -/
def execSpinStop (t : Nat) (ch : Fin 16) (s : State) : Res :=
  .next ((s.at t).mbServe ch 0x11 State.noSpin always (fun s => s.cmdSpinOff ch 2))

/-- SPIN_COAST (R364, R483). -/
def execSpinCoast (t : Nat) (ch : Fin 16) (s : State) : Res :=
  .next ((s.at t).mbServe ch 0x12 State.noSpin always (fun s => s.cmdSpinOff ch 3))

/-- SPIN_SPEED (R364). -/
def execSpinSpeed (t : Nat) (ch : Fin 16) (s : State) : Res :=
  .next ((s.at t).mbServe ch 0x13 State.noSpin always (fun s => s.cmdSpinSpeed ch))

/-- SPIN_CFG (R364). -/
def execSpinCfg (t : Nat) (ch : Fin 16) (s : State) : Res := .next ((s.at t).mbBasic ch 0x14 (fun s => s.cmdSpinCfg ch))

/-- ACT_LOAD (R181, R364). -/
def execActLoad (t : Nat) (ch : Fin 16) (s : State) : Res :=
  .next ((s.at t).mbServe ch 0x20 (State.noSect ch) always (fun s => s.cmdActLoad ch))

/-- LOAD_HANDOFF (R181). -/
def execLoadHandoff (t : Nat) (n : Fin 4) (s : State) : Res := .next ((s.at t).loadHandoff n)

/-- LOAD_TIMEOUT (R181). -/
def execLoadTimeout (t : Nat) (n : Fin 4) (s : State) : Res := .next ((s.at t).loadTimeout n)

/-- ACT_UNLOAD (R364). -/
def execActUnload (t : Nat) (ch : Fin 16) (s : State) : Res :=
  .next ((s.at t).mbServe ch 0x21 (State.noSect ch) always (fun s => s.cmdActUnload ch))

/-- ACT_SEEK (R364). -/
def execActSeek (t : Nat) (ch : Fin 16) (s : State) : Res :=
  .next ((s.at t).mbServe ch 0x22 (State.noSect ch) always (fun s => s.cmdActSeek ch))

/-- ACT_MJOG (R364). -/
def execActMjog (t : Nat) (ch : Fin 16) (s : State) : Res :=
  .next ((s.at t).mbServe ch 0x23 (State.noSect ch) always (fun s => s.cmdActMjog ch))

/-- ACT_OC_CLR (R364). -/
def execActOcClr (t : Nat) (ch : Fin 16) (s : State) : Res :=
  .next ((s.at t).mbServe ch 0x24 (State.noSect ch) always (fun s => s.cmdOcClr ch))

/-- ACT_PARAMS (R364). -/
def execActParams (t : Nat) (ch : Fin 16) (s : State) : Res :=
  .next ((s.at t).mbBasic ch 0x25 (fun s => s.cmdActParams ch))

end Sys2Proof.Machine
end

