-- ==== Sys2Proof/Machine/TableCmd.lean ====
section
/-! DEFINITION. The mailbox commands that load tables and values, and SAVE_CAL (R364, R446). -/

namespace Sys2Proof.Machine

open Sys2Proof

/-- LD_LEDGE: the records that pass apply. -/
def State.cmdLdLedge (s : State) (ch : Fin 16) : State :=
  let c := s.mbReq ch 3 % 64
  if c = 0 ∨ 32 < c then s.mbReply ch mbBADPARAM []
  else s.mbBuffer ch 1 (80 * c) (fun s b =>
    let r := s.loadLedges c b 0
    r.1.mbReply ch (if r.2 = 0 then mbOK else mbREJECTED) [r.2])

/-- A table whose length stands in its header at `o`, read in two steps. -/
def State.mbTable (s : State) (ch : Fin 16) (o : Nat) (len : Nat → Nat) (f : State → List Byte → Option State) : State :=
  s.mbBuffer ch 1 16 (fun s h =>
    s.mbBuffer ch 1 (len (halfAt h o)) (fun s b => s.mbLoaded ch (f s b)))

/-- LD_ZONE. -/
def State.cmdLdZone (s : State) (ch : Fin 16) : State :=
  s.mbTable ch 6 (fun z => 20 + 16 * min z 257) (fun s b => s.loadZone b)

/-- LD_CHCAL. -/
def State.cmdLdChcal (s : State) (ch : Fin 16) : State :=
  s.mbTable ch 6 (fun k => chCalLen (min k 9)) (fun s b => s.loadChCal b)

/-- LD_LOOP: an Expert load, which the stored calibration does not take (R369; log 47). -/
def State.cmdLdLoop (s : State) (ch : Fin 16) : State :=
  let n := s.mbSect ch
  if addrBad (s.mbAddr ch 2) 2180 then s.mbReply ch mbBADPARAM []
  else if s.domOn (16 + n) = false ∨ s.loopMode n ≠ 2 then s.mbReply ch mbSTATE []
  else s.mbBuffer ch 2 2180 (fun s b =>
    let cal := s.mbox.cal
    s.mbLoaded ch ((s.loadLoop n b).map (fun t => t.onMbox (fun m => { m with cal := cal }))))

/-- SET_PSET. -/
def State.cmdSetPset (s : State) (ch : Fin 16) : State :=
  let n := s.mbSect ch
  if s.domOn (16 + n) = false then s.mbReply ch mbSTATE []
  else s.mbLoaded ch (s.loadPset n (bitsOf (s.mbReq ch 1) 3 2) ((List.range 4).map (fun k => s.mbReq ch (2 + k))))

/-- SET_BUDGET. -/
def State.cmdSetBudget (s : State) (ch : Fin 16) : State :=
  match s.loadBudget (s.mbReq ch 1) (s.mbReq ch 2) (s.mbReq ch 3) with
  | some t => t.mbOk ch
  | none => s.mbReply ch mbBADPARAM []

/-- LD_CPL: the sixteen values and the shift are staged and committed (R153). -/
def State.cmdLdCpl (s : State) (ch : Fin 16) : State :=
  let v (k : Nat) : Nat := s.mbReq ch (1 + k / 2) / 2 ^ (16 * (k % 2)) % 65536
  let put (s : State) (a w : Nat) : State := s.onWrite .cc a .core (fun s => s.setReg a (regValue a (s.rd a) w))
  let s := (List.range 16).foldl (fun s k => put s (R.LE_CPL k) (v k)) s
  let s := put s R.LE_CPL_SH (s.mbReq ch 9 % 8)
  (s.onWrite .cc R.LE_CTRL .core (fun s => s.setBit R.LE_STATUS 4 true)).mbOk ch

/-- SET_PERIOD. -/
def State.cmdSetPeriod (s : State) (ch : Fin 16) : State :=
  if regOk R.LE_PERIOD (s.mbReq ch 1) = false then s.mbReply ch mbBADPARAM []
  else if s.allParked = false then s.mbReply ch mbSTATE []
  else s.mbLoaded ch (s.loadPeriod (s.mbReq ch 1))

/-- Wounser's stored calibration takes the value of a register. -/
def State.keepCal (s : State) (a : Nat) : State := s.onMbox (fun m => { m with cal := spPut (resetOf a) m.cal a (s.reg a) })

/-- The stored calibration takes what SAVE_CAL has written: loop images, profile sets, the spindle block (R369, R446). -/
def State.keepSaved (s : State) (w : Nat) : State :=
  let regs := s.onSecs.flatMap (fun (n : Fin 4) =>
      (if bitOf w 3 then (List.range 32).map (R.LOOP_REGION n.val) ++ (List.range 512).map (R.LOOP_BANK n.val) else [])
      ++ (if bitOf w 4 then (List.range 16).map (R.PG_SET n.val) else []))
    ++ (if bitOf w 5 && s.domOn 15 then (List.range 16).map (fun k => R.SP_ENC + 4 * k) else [])
  regs.foldl (fun s a => s.keepCal a) s

/-- SAVE_CAL; `ok`: the Safe Store device reports no error. -/
def State.cmdSaveCal (s : State) (ch : Fin 16) (ok : Bool) : State :=
  let w := s.mbReq ch 1
  let data := slotImage (s.saveBlocks w)
  if ok = false then (s.slotFail 6 data).mbReply ch mbFAILED []
  else
    match s.slotStore 6 data with
    | some t => (t.keepSaved w).mbOk ch
    | none => s.mbReply ch mbFAILED []

/-! ### Commands -/

/-- The LOOP grant of the request's section is held by the caller. -/
def State.loopLevel (ch : Fin 16) (s : State) : Bool := s.callerHolds ch (s.mbSect ch)

/-- The LOOP grants of all four units are held by the caller. -/
def State.loopsLevel (ch : Fin 16) (s : State) : Bool := (List.range 4).all (fun g => s.callerHolds ch g)

/-- LD_LEDGE (R76, R364). -/
def execLdLedge (t : Nat) (ch : Fin 16) (s : State) : Res := .next ((s.at t).mbBasic ch 0x30 (fun s => s.cmdLdLedge ch))

/-- LD_ZONE (R87, R364). -/
def execLdZone (t : Nat) (ch : Fin 16) (s : State) : Res := .next ((s.at t).mbBasic ch 0x31 (fun s => s.cmdLdZone ch))

/-- LD_CHCAL (R364, R371). -/
def execLdChcal (t : Nat) (ch : Fin 16) (s : State) : Res := .next ((s.at t).mbBasic ch 0x32 (fun s => s.cmdLdChcal ch))

/-- LD_LOOP (R146, R364). -/
def execLdLoop (t : Nat) (ch : Fin 16) (s : State) : Res :=
  .next ((s.at t).mbServe ch 0x33 never (State.loopLevel ch) (fun s => s.cmdLdLoop ch))

/-- SET_PSET (R163, R364). -/
def execSetPset (t : Nat) (ch : Fin 16) (s : State) : Res := .next ((s.at t).mbBasic ch 0x34 (fun s => s.cmdSetPset ch))

/-- SET_BUDGET (R364). -/
def execSetBudget (t : Nat) (ch : Fin 16) (s : State) : Res := .next ((s.at t).mbBasic ch 0x35 (fun s => s.cmdSetBudget ch))

/-- LD_CPL (R153, R364). -/
def execLdCpl (t : Nat) (ch : Fin 16) (s : State) : Res :=
  .next ((s.at t).mbServe ch 0x36 never (State.loopsLevel ch) (fun s => s.cmdLdCpl ch))

/-- SET_PERIOD (R163, R364). -/
def execSetPeriod (t : Nat) (ch : Fin 16) (s : State) : Res := .next ((s.at t).mbBasic ch 0x37 (fun s => s.cmdSetPeriod ch))

/-- SAVE_CAL (R364, R446). -/
def execSaveCal (t : Nat) (ch : Fin 16) (ok : Bool) (s : State) : Res :=
  .next ((s.at t).mbBasic ch 0x38 (fun s => s.cmdSaveCal ch ok))

end Sys2Proof.Machine
end

