-- ==== Sys2Proof/Machine/GrantCmd.lean ====
section
/-! DEFINITION. The mailbox commands of grants (R364 to R369), safety (R399, R400, R403), the life cycle (R455 to R457), images
(R445) and ownership (R479, R483). -/

namespace Sys2Proof.Machine

open Sys2Proof

/-! ### Challenges and tokens (R368) -/

/-- GR_CHAL: a nonce of four free words; FAILED once the random number generator has failed (R466). -/
def State.cmdGrChal (s : State) (ch : Fin 16) : State :=
  if s.bit R.CRYP_RNG_STATUS 1 then s.mbReply ch mbFAILED []
  else
    let ws := (List.range 4).map (fun k => (Config.freeWord (s.free + k)).toNat)
    let nonce := bytesNat (ws.flatMap (natBytes 4))
    let s := { s with free := s.free + 4 }
    (s.onMbChan ch (fun c => { c with chal := some (nonce, s.gtc) })).mbReply ch mbOK ws

/-- GR_TOKEN. -/
def State.cmdGrToken (s : State) (ch : Fin 16) : State :=
  let w := s.mbReq ch 1
  let o := w % 256
  let n := bitsOf w 15 8
  if o % 16 ≠ 0 ∨ 144 < o ∨ n = 0 ∨ 48 < n ∨ 160 < o + n then s.mbReply ch mbBADPARAM []
  else
    let byte (k : Nat) : Nat := s.mbReq ch (2 + k / 4) / 2 ^ (8 * (k % 4)) % 256
    (s.onMbChan ch (fun c => { c with token := (List.range n).foldl (fun l k => spPut 0 l (o + k) (byte k)) c.token })).mbOk ch

/-- The staged grant token passes for FUNC and UNIT of the request (R368). -/
def State.grantToken (s : State) (ch : Fin 16) : Bool :=
  let b := (s.chan ch).tokenBytes
  let w := s.mbReq ch 1
  let d := leField b 8 4
  b.getD 4 0 == w % 8 && b.getD 5 0 == bitsOf w 7 4 && decide (1 ≤ d ∧ d ≤ 86400) && s.tokenOk ch 0x47540001 (b.getD 7 0)

/-- The challenge of a channel is consumed. -/
def State.useChal (s : State) (ch : Fin 16) : State := s.onMbChan ch (fun c => { c with chal := none })

/-! ### Grants (R365 to R369) -/

/-- The grant index of a request. -/
def State.mbGrant (s : State) (ch : Fin 16) : Option (Fin 31) := grantIdx (s.mbReq ch 1 % 8) (bitsOf (s.mbReq ch 1) 7 4)

/-- The unit of a request is a section or the spindle that is not owned. -/
def State.grantForeign (ch : Fin 16) (s : State) : Bool :=
  match s.mbReq ch 1 % 8 with
  | 0 => !s.owned (bitsOf (s.mbReq ch 1) 7 4 + 1) && decide (bitsOf (s.mbReq ch 1) 7 4 < 4)
  | 1 => !s.owned (bitsOf (s.mbReq ch 1) 7 4 + 1) && decide (bitsOf (s.mbReq ch 1) 7 4 < 4)
  | 2 => !s.ownsSpin
  | _ => false

/-- Grants held of a function. -/
def State.heldOf (s : State) (lo n : Nat) : Nat := ((List.range n).filter (fun k => s.held (lo + k))).length

/-- A limit of R365 is reached for another unit of SQZ or XQUEUE. -/
def State.atLimit (s : State) (func : Nat) : Bool :=
  (func == 3 && decide (2 ≤ s.heldOf 9 4)) || (func == 4 && decide (16 ≤ s.heldOf 13 16))

/-- The expiry words of a response: all ones for none. -/
def expiryWords (e : Option Nat) : List Nat :=
  match e with
  | some x => [x % 2 ^ 32, x / 2 ^ 32 % 2 ^ 32]
  | none => [0xFFFFFFFF, 0xFFFFFFFF]

/-- The entry of grant `g` for the caller of a channel, with its expiry. -/
def State.grantTo (s : State) (ch : Fin 16) (g : Fin 31) (token : Bool) (dur : Nat) : State :=
  let holder := if ch.val ≤ 11 then s.fld (R.MB_STAT ch) 10 8 + 1 else 5
  let e := if dur = 0 then none else some (s.gtc + 1000000000 * dur)
  let s := (s.setReg (R.MB_GRANT g) (holder + 8 * b2n token + 16 * ch)).onMbox (fun m => { m with
    expiry := match e with
      | some x => setKey m.expiry g x
      | none => m.expiry.filter (fun p => p.1 ≠ g.val)
    warned := m.warned.filter (· ≠ g.val) })
  s.mbReply ch mbOK (g.val :: expiryWords e)

/-- GR_REQ; `token`: the staged token passed before the challenge was consumed. The conditions stand in the order of R485. -/
def State.cmdGrReq (s : State) (ch : Fin 16) (token : Bool) : State :=
  match s.mbGrant ch with
  | none => s.mbReply ch mbBADPARAM []
  | some g =>
    let f := s.mbReq ch 1 % 8
    let n : Fin 4 := ⟨bitsOf (s.mbReq ch 1) 5 4 % 4, Nat.mod_lt _ (by decide)⟩
    let field := s.lcState == 3
    let mine := s.callerHolds ch g
    let dur := if field then leField (s.chan ch).tokenBytes 8 4 else s.mbReq ch 2
    s.mbGuard ch (fun s => s.grantTo ch g field dur)
      [((f == 0 || f == 1) && s.fenced n, mbFENCED), (field && !token, mbTOKEN),
       ((decide (f ≤ 1) && !s.domOn (16 + n)) || (f == 2 && !s.domOn 15), mbSTATE),
       (f == 2 && (!s.allParked || !s.peerStopped), mbSTATE),
       (f == 0 && ((s.sec n).load.isSome || s.retracting n), mbBUSYFUNC),
       (!mine && s.atLimit f, mbLIMIT), (!mine && s.holder g != 0, mbBUSYFUNC)]

/-- VX queues that use XQUEUE unit `u` exist (R369). -/
def State.xunitUsed (s : State) (u : Nat) : Bool := s.qeng.sqs.any (fun x => x.2.xu == some u)

/-- GR_REL: the holder is the caller. -/
def State.cmdGrRel (s : State) (ch : Fin 16) : State :=
  match s.mbGrant ch with
  | none => s.mbReply ch mbBADPARAM []
  | some g =>
    s.mbGuard ch (fun s => (s.endGrant g 0).mbOk ch)
      [(s.mbReq ch 1 % 8 == 4 && s.xunitUsed (bitsOf (s.mbReq ch 1) 7 4), mbSTATE)]

/-- The caller of GR_REL is not the holder. -/
def State.notHolder (ch : Fin 16) (s : State) : Bool :=
  match s.mbGrant ch with
  | some g => !s.callerHolds ch g
  | none => false

/-- GR_QUERY. -/
def State.cmdGrQuery (s : State) (ch : Fin 16) : State :=
  match s.mbGrant ch with
  | none => s.mbReply ch mbBADPARAM []
  | some g => s.mbReply ch mbOK (s.rd (R.MB_GRANT g) :: expiryWords (findKey g.val s.mbox.expiry))

/-! ### Safety (R399, R400, R403) -/

/-- SAFE_ENTER: Sump orders the safe state; SAFE_REQUEST of source 96 + n (R396). -/
def State.cmdSafeEnter (s : State) (ch : Fin 16) : State :=
  ((s.enterSafe (96 + ch) kSAFEREQ 0).sendFault (96 + ch) kSAFEREQ 0).mbOk ch

/-- SAFE_EXIT. -/
def State.cmdSafeExit (s : State) (ch : Fin 16) : State :=
  if s.safeHolds = false then s.mbOk ch
  else if s.safeExitOk then s.safeExit.mbOk ch
  else s.mbReply ch mbSTATE []

/-- The unit that FENCE or UNFENCE names, if it can be fenced. -/
def State.mbUnit (s : State) (ch : Fin 16) : Option FUnit :=
  let w := s.mbReq ch 1
  if 1024 ≤ w then none
  else match unitOf w with
    | some .passage => none
    | u => u

/-- FENCE. -/
def State.cmdFence (s : State) (ch : Fin 16) : State :=
  match s.mbUnit ch with
  | none => s.mbReply ch mbBADPARAM []
  | some u => (if s.unitFenced u then s else s.fenceUnit u).mbOk ch

/-- UNFENCE. -/
def State.cmdUnfence (s : State) (ch : Fin 16) : State :=
  match s.mbUnit ch with
  | none => s.mbReply ch mbBADPARAM []
  | some u => if s.unitFault u then s.mbReply ch mbSTATE [] else (s.unfenceUnit u).mbOk ch

/-! ### The life cycle (R455 to R457) -/

/-- Every section that reads PARKED 0 is unloaded. -/
def State.unloadAll (s : State) : State := s.forSecs (fun n s => s.unloadBegin n)

/-- LC_MOVE: steps 1 and 2 of R457; `token`: the staged token passed before the challenge was consumed. -/
def State.cmdLcMove (s : State) (ch : Fin 16) (token : Bool) : State :=
  let to_ := s.mbReq ch 1
  let lc := s.fuses.state
  if 5 < to_ then s.mbReply ch mbBADPARAM []
  else
    match transition lc to_ with
    | none => s.mbReply ch mbLCSTATE []
    | some keys =>
      s.mbGuard ch (fun s =>
        let s := s.endAllGrants 2
        let s := if lc = 3 ∨ lc = 4 then s.unloadAll else s
        (s.onMbox (fun m => { m with lc := some ⟨ch, to_, none⟩ })).mbStart ch (.move to_))
        [(!s.transitionReady to_, mbLCSTATE), (!keys.isEmpty && !token, mbTOKEN),
         (lc == 0 && to_ == 1 && s.bit R.CRYP_RNG_STATUS 1, mbFAILED)]

/-- The token that the request's transition asks for passes. -/
def State.lcToken (s : State) (ch : Fin 16) : Bool :=
  match transition s.fuses.state (s.mbReq ch 1) with
  | some keys => s.moveToken ch (s.mbReq ch 1) keys
  | none => false

/-- LC_FUSE_PROGRAM: steps 3 to 5 of R457. Until every section that must be unloaded reads PARKED, Wounser parks what has arrived. -/
def State.lcFuse (s : State) (ok : Bool) : State :=
  match s.mbox.lc with
  | none => s
  | some r =>
    let lc := s.fuses.state
    if s.wounserUp = false ∨ r.done.isSome ∨ s.plRuns then s
    else if (lc = 3 ∨ lc = 4) ∧ s.allParked = false then s.forSecs (fun n s => s.unloadNext n)
    else if s.fld R.BUF_DUMP_STATUS 1 0 = 1 then s
    else if ok = false then (s.onMbox (fun m => { m with lc := none })).mbReply r.ch mbFAILED []
    else ((s.transitTo r.to_).onMbox (fun m => { m with lc := some { r with done := some s.gtc } })).mbOk r.ch

/-- LC_RESET: step 6 of R457, 1 ms after the response. -/
def State.lcReset (s : State) : State :=
  match s.mbox.lc with
  | some ⟨_, _, some t0⟩ =>
    if s.wounserUp ∧ t0 + 1000000 ≤ s.gtc then
      { s.onMbox (fun m => { m with lc := none }) with sump := { s.sump with chipResetSw := true } }
    else s
  | _ => s

/-! ### Images (R445, R462 to R464) -/

/-- Install an image that verifies: the slot, the directory, then the counter. None: the Safe Store has failed. -/
def State.installImage (s : State) (kind : Nat) (b : List Byte) (ok : Bool) : Option State :=
  if ok then
    (s.slotStore (2 * kind) b).map (fun t => if bitOf (imgField b 6 2) 0 then t.advSvnTo kind (imgField b 8 4) else t)
  else none

/-- IMG_LOAD. -/
def State.cmdImgLoad (s : State) (ch : Fin 16) (ok : Bool) : State :=
  let kind := s.mbReq ch 4 % 4
  let len := s.mbReq ch 3
  if kind = 3 ∨ len = 0 then s.mbReply ch mbBADPARAM []
  else if addrBad (s.mbAddr ch 1) len then s.mbReply ch mbBADPARAM []
  else if imgMax kind < len then s.mbReply ch mbREJECTED []
  else s.mbBuffer ch 1 len (fun s b =>
    if s.imgOk kind b = false then s.mbReply ch mbREJECTED []
    else match s.installImage kind b ok with
      | some t => t.mbOk ch
      | none => (if ok then s else s.slotFail (2 * kind) b).mbReply ch mbFAILED [])

/-! ### Ownership (R364, R470 to R483) -/

/-- Units owned here, as the mask of OWN_GET. -/
def State.ownMask (s : State) : Nat := s.fld R.ROPE_OWN 12 8

/-- OWN_GET. -/
def State.cmdOwnGet (s : State) (ch : Fin 16) : State :=
  let peer := (List.range 4).foldl (fun x k => x + 2 ^ (5 + k) * b2n (!s.owned (k + 1) && !s.bit R.ROPE_OWN (17 + k))) 0
  s.mbReply ch mbOK [s.ownMask + peer]

/-- A request of this Wounser on the peer's channel 15, with a SEQ of its own. -/
def State.askPeer (s : State) (op w1 : Nat) : State :=
  let seq := (Config.freeWord s.free).toNat % 65536
  s.useFree.sendPeer (.mbox (op + 65536 * seq) w1)

/-- Take units: OWN_REQ asserts, and where `tell` the peer is asked for those that are not owned. -/
def State.takeUnits (s : State) (ch : Fin 16) (mask : Nat) (tell : Bool) : State :=
  let s := s.ownReq (s.fld R.ROPE_OWN 4 0 ||| mask)
  let s := if tell then s.askPeer 0x81 (mask &&& (31 - s.ownMask)) else s
  s.mbStart ch (.take mask s.gtc)

/-- The section that bit `k + 1` of a mask names. -/
def maskSec (mask k : Nat) : Bool := bitOf mask (k + 1)

/-- Give units (R479 step 1): STATE while a scheduler has EN 1, or while the spindle cannot coast. -/
def State.giveUnits (s : State) (ch : Fin 16) (mask : Nat) : State :=
  let busy := (List.finRange 4).any (fun n => maskSec mask n && s.bit (R.MSCH_CTRL n) 0)
  let left := (List.finRange 4).any (fun n => !s.parked n && !maskSec mask n)
  s.mbGuard ch (fun s =>
    (s.forSecs (fun n s => if maskSec mask n then s.unloadBegin n else s)).mbStart ch (.give mask s.gtc))
    [(busy, mbSTATE), (bitOf mask 0 && (left || !s.peerStopped), mbSTATE)]

/-- OWN_TAKE: on channel 15 the peer takes units of this device. -/
def State.cmdOwnTake (s : State) (ch : Fin 16) : State :=
  let mask := s.mbReq ch 1 % 32
  if ch = 15 then s.giveUnits ch mask else s.takeUnits ch mask true

/-- OWN_GIVE: on channel 15 the peer gives units to this device. -/
def State.cmdOwnGive (s : State) (ch : Fin 16) : State :=
  let mask := s.mbReq ch 1 % 32
  if ch = 15 then s.takeUnits ch mask false else s.giveUnits ch mask

/-- OWN_TAKE and OWN_GIVE need a paired device; a giver owns the units. -/
def State.pairRefuses (ch : Fin 16) (op : Nat) (s : State) : Bool :=
  let mask := s.mbReq ch 1 % 32
  let gives := (op == 0x81) == (ch == 15)
  !s.paired || (gives && mask &&& (31 - s.ownMask) != 0)

/-- Wounser withdraws what OWN_TAKE has not been granted, and answers with the units granted (R479). -/
def State.takeEnd (s : State) (ch : Fin 16) (mask : Nat) : State :=
  let got := mask &&& s.ownMask
  let s := s.ownReq (s.fld R.ROPE_OWN 4 0 &&& (31 - (mask - got)))
  s.mbReply ch mbOK [got]

/-- OWN_TAKE_TIMEOUT: 25 ms after the request. -/
def State.takeTimeout (s : State) (ch : Fin 16) : State :=
  match (s.chan ch).run with
  | some (.take mask t0) => if s.wounserUp ∧ t0 + 25000000 ≤ s.gtc then s.takeEnd ch mask else s
  | _ => s

/-- Steps 1 and 2 of R479 on the giver, as far as they have come: the heads are unloaded, the spindle coasts, OWN_REQ deasserts. -/
def State.giveNext (s : State) (ch : Fin 16) (mask : Nat) : State :=
  let s := s.forSecs (fun n s => if maskSec mask n then s.unloadNext n else s)
  if (List.finRange 4).any (fun n => maskSec mask n && !s.parked n) then s
  else
    let s := if bitOf mask 0 then s.spCmd 3 else s
    if bitOf mask 0 && s.spin_ != spOFF then s
    else
      let s := s.ownReq (s.fld R.ROPE_OWN 4 0 &&& (31 - mask))
      (if ch = 15 then s else s.askPeer 0x82 mask).mbOk ch

/-- PL_REPORT. -/
def State.cmdPlReport (s : State) (ch : Fin 16) : State :=
  (s.onMbox (fun m => { m with plReport := some (s.mbReq ch 1) })).mbOk ch

/-- The device is not paired. -/
def State.notPaired (s : State) : Bool := !s.paired

/-! ### Commands -/

/-- Wounser takes the request of an opcode on a channel in this step. -/
def State.mbTakes (s : State) (ch : Fin 16) (op : Nat) : Bool := s.mbReady ch && s.mbOp ch == op

/-- GR_CHAL (R364, R368). -/
def execGrChal (t : Nat) (ch : Fin 16) (s : State) : Res := .next ((s.at t).mbBasic ch 0x40 (fun s => s.cmdGrChal ch))

/-- GR_TOKEN (R364, R368). -/
def execGrToken (t : Nat) (ch : Fin 16) (s : State) : Res := .next ((s.at t).mbBasic ch 0x41 (fun s => s.cmdGrToken ch))

/-- GR_REQ, which consumes the challenge whatever its outcome (R368). -/
def execGrReq (t : Nat) (ch : Fin 16) (s : State) : Res :=
  let s := s.at t
  let token := s.grantToken ch
  let s := if s.mbTakes ch 0x42 then s.useChal ch else s
  .next (s.mbServe ch 0x42 (State.grantForeign ch) always (fun s => s.cmdGrReq ch token))

/-- GR_REL (R364, R369). -/
def execGrRel (t : Nat) (ch : Fin 16) (s : State) : Res :=
  .next ((s.at t).mbServe ch 0x43 (State.notHolder ch) always (fun s => s.cmdGrRel ch))

/-- GR_QUERY (R364). -/
def execGrQuery (t : Nat) (ch : Fin 16) (s : State) : Res := .next ((s.at t).mbBasic ch 0x44 (fun s => s.cmdGrQuery ch))

/-- SAFE_ENTER (R399). -/
def execSafeEnter (t : Nat) (ch : Fin 16) (s : State) : Res := .next ((s.at t).mbBasic ch 0x50 (fun s => s.cmdSafeEnter ch))

/-- SAFE_EXIT (R400). -/
def execSafeExit (t : Nat) (ch : Fin 16) (s : State) : Res := .next ((s.at t).mbBasic ch 0x51 (fun s => s.cmdSafeExit ch))

/-- FENCE (R403). -/
def execFence (t : Nat) (ch : Fin 16) (s : State) : Res := .next ((s.at t).mbBasic ch 0x52 (fun s => s.cmdFence ch))

/-- UNFENCE (R403). -/
def execUnfence (t : Nat) (ch : Fin 16) (s : State) : Res := .next ((s.at t).mbBasic ch 0x53 (fun s => s.cmdUnfence ch))

/-- LC_MOVE, which consumes the challenge whatever its outcome (R456); another transition that runs is waited for (R457). -/
def execLcMove (t : Nat) (ch : Fin 16) (s : State) : Res :=
  let s := s.at t
  let runs : Bool := match s.mbox.lc with
    | some r => r.done.isNone
    | none => false
  let token := s.lcToken ch
  .next (if runs then s
    else (if s.mbTakes ch 0x61 then s.useChal ch else s).mbServe ch 0x61 never always (fun s => s.cmdLcMove ch token))

/-- LC_FUSE_PROGRAM (R457). -/
def execLcFuseProgram (t : Nat) (ok : Bool) (s : State) : Res := .next ((s.at t).lcFuse ok)

/-- LC_RESET (R457). -/
def execLcReset (t : Nat) (s : State) : Res := .next (s.at t).lcReset

/-- IMG_LOAD (R364, R445). -/
def execImgLoad (t : Nat) (ch : Fin 16) (ok : Bool) (s : State) : Res :=
  .next ((s.at t).mbBasic ch 0x62 (fun s => s.cmdImgLoad ch ok))

/-- OWN_GET (R364). -/
def execOwnGet (t : Nat) (ch : Fin 16) (s : State) : Res := .next ((s.at t).mbBasic ch 0x80 (fun s => s.cmdOwnGet ch))

/-- OWN_TAKE (R479). -/
def execOwnTake (t : Nat) (ch : Fin 16) (s : State) : Res :=
  .next ((s.at t).mbServe ch 0x81 (State.pairRefuses ch 0x81) always (fun s => s.cmdOwnTake ch))

/-- OWN_TAKE_TIMEOUT (R479). -/
def execOwnTakeTimeout (t : Nat) (ch : Fin 16) (s : State) : Res := .next ((s.at t).takeTimeout ch)

/-- OWN_GIVE (R479). -/
def execOwnGive (t : Nat) (ch : Fin 16) (s : State) : Res :=
  .next ((s.at t).mbServe ch 0x82 (State.pairRefuses ch 0x82) always (fun s => s.cmdOwnGive ch))

/-- PL_REPORT (R364, R483). -/
def execPlReport (t : Nat) (ch : Fin 16) (s : State) : Res :=
  .next ((s.at t).mbServe ch 0x83 State.notPaired always (fun s => s.cmdPlReport ch))

end Sys2Proof.Machine
end

