-- ==== Sys2Proof/Machine/Serve.lean ====
section
/-! DEFINITION. What Wounser completes later (R359, R363, R373), the positioning requests of the schedulers (R372, R489), and the
restart of Wounser's mailbox service (R360). -/

namespace Sys2Proof.Machine

open Sys2Proof

/-! ### Completion of a command that took time (R359) -/

/-- The safe state, a fence or power loss ends a motion of section n (R363, "When commands meet"). -/
def State.motionEnds (s : State) (n : Fin 4) : Bool := s.safeHolds || s.fenced n || s.plRuns

/-- ACT_LOAD: OK at the arrival of step 6 of R181, with the milliseconds since t0; ABORTED where a retract has ended the load. -/
def State.loadDone (s : State) (ch : Fin 16) (n : Fin 4) : State :=
  match (s.sec n).load with
  | none => (s.loadDrop n).mbReply ch mbABORTED []
  | some l =>
    if s.motionEnds n then (s.loadDrop n).mbReply ch mbABORTED []
    else if l.step = 5 ∧ s.arrivedAt n (l.w2.toNat % 2 ^ 24 * 65536) then
      (s.setSec n { s.sec n with load := none }).mbReply ch mbOK [(s.gtc - l.t0) / 1000000]
    else s

/-- ACT_UNLOAD: OK at PARKED. -/
def State.unloadDone (s : State) (ch : Fin 16) (n : Fin 4) : State :=
  if s.motionEnds n then s.mbReply ch mbABORTED []
  else if s.parked n then s.mbOk ch
  else s.unloadNext n

/-- ACT_SEEK: OK at SETTLED of R245 on its head and target, FAILED after 1 s. -/
def State.seekDone (s : State) (ch : Fin 16) (n : Fin 4) (t0 head tgt : Nat) : State :=
  if s.motionEnds n ∨ s.parked n ∨ s.retracting n then s.mbReply ch mbABORTED []
  else if (s.sec n).act.settled ∧ s.arrivedAt n tgt ∧ s.head n = head then s.mbOk ch
  else if t0 + 1000000000 ≤ s.gtc then s.mbReply ch mbFAILED []
  else s

/-- OWN_TAKE: complete once every unit of the mask is granted. -/
def State.takeDone (s : State) (ch : Fin 16) (mask : Nat) : State :=
  if mask &&& s.ownMask = mask then s.takeEnd ch mask else s

/-- OWN_GIVE: the next step of R479, ABORTED at power loss. -/
def State.giveDone (s : State) (ch : Fin 16) (mask : Nat) : State :=
  if s.plRuns then s.mbReply ch mbABORTED [] else s.giveNext ch mask

/-- LC_MOVE: ABORTED at power loss before the fuse is programmed; LC_FUSE_PROGRAM writes its response otherwise. -/
def State.moveDone (s : State) (ch : Fin 16) : State :=
  let programmed : Bool := match s.mbox.lc with
    | some r => r.done.isSome
    | none => false
  if s.plRuns ∧ programmed = false then (s.onMbox (fun m => { m with lc := none })).mbReply ch mbABORTED [] else s

/-- What completes on a channel. -/
def State.mbComplete (s : State) (ch : Fin 16) : State :=
  if s.wounserUp = false then s
  else
    match (s.chan ch).run with
    | some (.load n) => s.loadDone ch n
    | some (.unload n) => s.unloadDone ch n
    | some (.seek n t0 head tgt) => s.seekDone ch n t0 head tgt
    | some (.take mask _) => s.takeDone ch mask
    | some (.give mask _) => s.giveDone ch mask
    | some (.move _) => s.moveDone ch
    | none =>
      if s.mbServes ch ∧ (s.chan ch).wait ∧ s.mbKept ch then
        match (s.chan ch).kept with
        | some r => (s.mbTake ch).mbReplay ch r
        | none => s
      else if s.mbReady ch ∧ (opStates (s.mbOp ch)).isNone then (s.mbTake ch).mbReply ch mbBADOP [] else s

/-! ### Positioning requests (R245, R372, R489) -/

/-- Change the scheduler's queue of requests. -/
def State.dropReq (s : State) (n : Fin 4) : State :=
  let x := s.sec n
  s.setSec n { x with msch := { x.msch with reqs := x.msch.reqs.drop 1 } }

/-- Wounser ignores a request: the operation ends POSFAIL at PTMO (R372, R400). -/
def State.reqIgnored (s : State) (n : Fin 4) (r : PosReq) : Bool :=
  let beyond : Bool := match (s.sec n).zoneNew[headIdx r.head] with
    | some z => decide (z.tracks ≤ r.track)
    | none => true
  s.safeHolds || s.parked n || s.retracting n || s.fenced n || !s.ownsAct n || beyond || s.psetBare n (s.defPset n)

/-- The head changes, or the target track lies in a different band. -/
def State.bandChanges (s : State) (n : Fin 4) (r : PosReq) : Bool :=
  let band (h t : Nat) : Option Nat := (s.bandOf n h t).map (fun b => b.1)
  s.head n != r.head || band (s.head n) (s.tgtTrack n) != band r.head r.track

/-- POSITIONING_LOAD: Wounser serves the oldest request of section n. -/
def State.positioningLoad (s : State) (n : Fin 4) : State :=
  if s.wounserUp = false ∨ s.plRuns ∨ (s.sec n).load.isSome then s
  else
    match (s.sec n).msch.reqs with
    | [] => s
    | r :: _ =>
      if s.reqIgnored n r then s.dropReq n
      else
        let changes := s.bandChanges n r
        if changes ∧ (s.sec n).atb.data.any (fun e => decide (e.at_ ≤ r.at_)) then s
        else
          match s.ahead n with
          | none => s
          | some e =>
            let s := if changes then s.loadBand n r.head r.track else s
            (s.moveTo n e r.head (r.track * 65536) (s.defPset n)).dropReq n

/-! ### The restart of Wounser (R360) -/

/-- After a CCORE reset with drive firmware running, or waiting for an image of it, Wounser rebuilds the kept responses and serves
again. -/
def State.wounserRestart (s : State) : State :=
  let ran := s.fld R.PWR_BOOT_STATUS 3 0 == 3 || (s.fld R.PWR_BOOT_STATUS 3 0 == 4 && s.fld R.PWR_BOOT_STATUS 15 8 == 5)
  if s.wounserUp = false ∧ s.domOn 4 ∧ s.sump.ccoreReset = false ∧ ran then s.mbUp else s

/-! ### Commands -/

/-- MAILBOX_COMPLETE (R359). -/
def execMailboxComplete (t : Nat) (ch : Fin 16) (s : State) : Res := .next ((s.at t).mbComplete ch)

/-- POSITIONING_LOAD (R372). -/
def execPositioningLoad (t : Nat) (n : Fin 4) (ang : Nat) (s : State) : Res := .next (((s.at t).turnTo n ang).positioningLoad n)

/-- WOUNSER_RESTART (R360). -/
def execWounserRestart (t : Nat) (s : State) : Res := .next (s.at t).wounserRestart

end Sys2Proof.Machine
end

