-- ==== Sys2Proof/Machine/Boot.lean ====
section
/-! DEFINITION. Start-up (R445 to R450), what follows a domain sequence (R435, R446), and the resets of the Control Core and of the
application cores (R402, R441, R451). -/

namespace Sys2Proof.Machine

open Sys2Proof

/-! ### PWR_BOOT_STATUS (R452) -/

/-- STAGE and ERR of PWR_BOOT_STATUS. -/
def State.bootStage (s : State) : Nat := s.fld R.PWR_BOOT_STATUS 3 0
def State.setStage (s : State) (stage err : Nat) : State :=
  (s.setFld R.PWR_BOOT_STATUS 3 0 stage).setFld R.PWR_BOOT_STATUS 15 8 err

/-! ### Domain sequences (R435, R446) -/

/-- A sequence ends; Wounser loads the calibration of a spindle or a section that came up. -/
def State.domainSequenceEnd (s : State) (d : Fin 20) : State :=
  let rises := s.dom d == 1
  let s := s.domEnd d
  if rises ∧ 15 ≤ d.val ∧ s.wounserUp then s.loadCalDom d else s

/-! ### The boot ROM (R447 steps 3 and 4, R448) -/

/-- The boot ROM waits: it serves the Command Window, for which the shared SRAM is powered. -/
def State.romWaits (s : State) (err : Nat) : State := (s.setStage 4 err).domWrite .cc 5 true s.pwr.retained[5]

/-- BOOT_ROM_START. -/
def State.bootRom (s : State) : State :=
  if s.pwr.por ∨ s.gtcRun = false ∨ s.pwr.rom ∨ s.wounserUp ∨ s.bootStage ≠ 0 ∨ s.sump.ccoreReset then s
  else
    let s := { s with pwr := { s.pwr with rom := true } }
    if s.lcState = 5 then s.setStage 5 0
    else if s.bit R.PWR_STRAP 2 ∨ s.lcState = 0 then s.romWaits 0
    else
      match s.directory with
      | none => (s.setFld R.SS_CFG 9 8 0).romWaits 1
      | some (_, b) =>
        let rate := (b.getD 12 0#8).toNat % 4
        (if rate = 3 then s.setFld R.SS_CFG 9 8 0 else s.setFld R.SS_CFG 9 8 rate).setStage 1 0

/-! ### Wounser starts (R447 steps 5 to 7) -/

/-- The slots of an image kind in the order in which they are tried. -/
def State.bootSlots (s : State) (kind : Nat) : List (Nat × List Byte) :=
  match s.directory with
  | none => []
  | some (_, b) => (slotOrder b (2 * kind)).map (fun e => (e - 2 * kind, s.slotBytes b e))

/-- The Wounser that starts: WSLOT, ERR, VERSION. -/
def State.bootWounser (s : State) : Option (Nat × Nat × Nat) :=
  match s.pwr.winWounser with
  | some v => some (2, s.fld R.PWR_BOOT_STATUS 15 8, v)
  | none =>
    if s.bootStage ≠ 1 then none
    else
      let l := s.bootSlots 0
      (l.find? (fun x => s.imgOk 0 x.2)).map (fun x =>
        (x.1, if (l.head?).map (fun y => y.1) = some x.1 then 0 else 2, imgField x.2 12 4))

/-- Wounser writes ON 1 for a domain, which leaves retention where its state is retained. -/
def State.domUp (s : State) (d : Nat) : State :=
  if h : d < 20 then s.domWrite .cc d true s.pwr.retained[d] else s

/-- Heads of section n are present (R364). -/
def headsOf (n : Nat) : Bool := Config.headsPresent.toNat / 2 ^ (8 * n) % 256 != 0

/-- The domains that Wounser powers, in order: BUF, QENG, the host ports, APP01, PASSH, SPIN, the sections with heads. -/
def State.bootDomains (s : State) : List Nat :=
  [7, 3, 1] ++ (if s.dual then [2] else []) ++ [5, 12, 15] ++ ((List.range 4).filter headsOf).map (fun n => 16 + n)

/-- In RETURN Wounser erases the keys, and the debug gates of the state open (R459, R465). -/
def State.returnErase (s : State) : State := if s.lcState = 4 then s.destroyKeys.setReg R.LCS_DBG dbgReturn else s

/-- On a board that ties OWN_GNT and PEER_SAFE_N, Wounser requests every unit (R495). -/
def State.ownAll (s : State) : State :=
  if s.fld R.ROPE_OWN 12 8 = 31 ∧ s.fld R.ROPE_OWN 20 16 = 31 then s.ownReq 31 else s

/-- Wounser sets the memory configuration of the board (R265). -/
def State.dramSetup (s : State) : State :=
  let v := Config.dramCfg.toNat
  if regOk R.BUF_DRAM_CFG v then s.setReg R.BUF_DRAM_CFG v else s

/-- WOUNSER_START. -/
def State.wounserStart (s : State) : State :=
  if s.pwr.rom = false ∨ s.wounserUp ∨ s.lcState = 5 then s
  else
    match s.bootWounser with
    | none => if s.bootStage = 1 then s.romWaits 3 else s
    | some (slot, err, version) =>
      let s := { s with pwr := { s.pwr with rom := false } }
      let s := ((s.setStage 2 err).setFld R.PWR_BOOT_STATUS 5 4 slot).setReg R.MB_VER (version % 2 ^ 31)
      let s := s.mbUp.returnErase.ownAll.dramSetup
      (s.bootDomains.foldl (fun s d => s.domUp d) s).loadCal

/-! ### Drive firmware (R447 step 9, R448) -/

/-- The drive-firmware image that starts: DSLOT and the image. -/
def State.bootFirmware (s : State) : Option (Nat × List Byte) :=
  ((s.bootSlots 1).find? (fun x => s.imgOk 1 x.2)).map (fun x => (if s.pwr.winFw then 2 else x.1, x.2))

/-- An image's body. -/
def imgBody (b : List Byte) : List Byte := (b.drop 256).take (imgField b 16 4)

/-- APP_RELEASE: drive firmware is loaded into the shared SRAM, and application core 0 leaves reset. -/
def State.appRelease (s : State) : State :=
  let ready := s.domOn 5 && s.domOn 7 && s.domOn 12 && s.wounserUp
  let due := s.bootStage == 2 || (s.bootStage == 4 && s.pwr.winFw)
  if (ready && due && decide (1 ≤ s.lcState) && decide (s.lcState ≤ 4)) = false then s
  else
    match s.bootFirmware with
    | none => s.setStage 4 5
    | some (slot, b) =>
      let s := { s with sram := Memory.writeBytes unlistedByte s.sram 0 (imgBody b) }
      let s := { s with pwr := { s.pwr with appRun := s.pwr.appRun.set 0 true } }
      ((s.setFld R.PWR_BOOT_STATUS 3 0 3).setFld R.PWR_BOOT_STATUS 7 6 slot)

/-! ### Resets of cores (R402, R441, R442, R451) -/

/-- CCORE_RESET: domain CCORE alone; every grant ends, every command of Wounser is lost, and before drive firmware runs the boot
restarts. -/
def State.ccoreReset (s : State) : State :=
  if s.sump.ccoreReset = false then s
  else
    let s := { s with sump := { s.sump with ccoreReset := false } }
    let s := s.cwAbortServed
    let s := (s.setBit R.MB_VER 31 false).setBit R.PWR_WDOG_CFG 31 false
    let s := s.endAllGrants 8
    let s := (List.finRange 16).foldl (fun s ch => s.mbCoreReset ch) s
    let s := s.onMbox (fun m => { m with
      order := []
      expiry := []
      warned := []
      lc := none })
    let s := s.forSecs (fun n s => s.setSec n { s.sec n with load := none })
    let pwr := { s.pwr with rom := false }
    let ran : Bool := s.bootStage == 3 || (s.bootStage == 4 && s.fld R.PWR_BOOT_STATUS 15 8 == 5)
    let back := s.setReg R.PWR_BOOT_STATUS 0
    if ran then { s with pwr := pwr } else { back with pwr := { pwr with winWounser := none } }

/-- APP_CORE_RESET: PWR_RST_CTRL.APPc. The core restarts at its image entry once drive firmware is loaded; its grants end. -/
def State.appCoreReset (s : State) (i : Initiator) (c : Fin 4) : State :=
  if iniIsCc i ∨ iniIsApp i then
    let on := s.domOn (if c.val < 2 then 5 else 6)
    let run := on && s.bootStage == 3
    ({ s with pwr := { s.pwr with appRun := s.pwr.appRun.set c run } }).endCoreGrants c
  else s

/-! ### Commands -/

/-- DOMAIN_SEQUENCE_END (R435). -/
def execDomainSequenceEnd (t : Nat) (d : Fin 20) (s : State) : Res := .next ((s.at t).domainSequenceEnd d)

/-- BOOT_ROM_START (R448). -/
def execBootRomStart (t : Nat) (s : State) : Res := .next (s.at t).bootRom

/-- WOUNSER_START (R447). -/
def execWounserStart (t : Nat) (s : State) : Res := .next (s.at t).wounserStart

/-- APP_RELEASE (R447). -/
def execAppRelease (t : Nat) (s : State) : Res := .next (s.at t).appRelease

/-- CCORE_RESET (R402). -/
def execCcoreReset (t : Nat) (s : State) : Res := .next (s.at t).ccoreReset

/-- APP_CORE_RESET (R441). -/
def execAppCoreReset (t : Nat) (i : Initiator) (c : Fin 4) (s : State) : Res :=
  .next ((s.at t).onReg i R.PWR_RST_CTRL (fun s => s.appCoreReset i c))

end Sys2Proof.Machine
end

