-- ==== Sys2Proof/Machine/Read.lean ====
section
/-! DEFINITION. What a read of a register returns (R10 to R15, R433): stored fields, values that a block computes when it is read,
the latched halves of R15 and R424, and the reads that change something (RC fields, FIFO heads, random numbers, sample data). -/

namespace Sys2Proof.Machine

open Sys2Proof

/-! ### Values computed on a read -/

/-- Status of the Angle Timebase: a standing write-inhibit input shows in WINH (R66, R69). -/
def State.atbRead (s : State) (i : Initiator) (n : Fin 4) (off : Nat) : Option Nat :=
  let x := (s.sec n).atb
  match off with
  | 0x0 => some (putBits (s.rd (R.ATB_STATUS n)) 4 4 (b2n (s.inhibited n)))
  | 0x30 => some (256 - x.data.length + 65536 * (64 - x.motion.length))
  | _ => if 0x60 ≤ off ∧ off ≤ 0x70 ∧ iniIsApp i then some 0 else none

/-- Status of a channel (R132). -/
def State.chanRead (s : State) (n : Fin 4) (off : Nat) : Option Nat :=
  let c := (s.sec n).chan
  let media : Bool := match c.rcv with
    | some r => r.media && r.reading
    | none => false
  let held := (List.range 8).foldl (fun x k => x + 2 ^ k * b2n (c.slots.toList.getD k none).isSome) 0
  match off with
  | 0x0 => some (b2n c.rd.isSome + 2 * b2n c.wg + 4 * b2n (s.bit (R.CH_REC_STATUS n) 0) + 8 * b2n media + 256 * held + 65536 * c.pool)
  | _ => none

/-- Status of an actuator drive: VMODE, MJRAMP, the preamp port (R185). -/
def State.actRead (s : State) (n : Fin 4) (off : Nat) : Option Nat :=
  let a := (s.sec n).act
  match off with
  | 0x0 => some (putBits (putBits (s.rd (R.ACT_STATUS n)) 4 4 (b2n (s.bit (R.VD_VMODE n) 0))) 9 9 (b2n (s.mjRamp n)))
  | 0xB4 => some (s.rd (R.PRE_RESP n) % 2 ^ 31 + 2147483648 * b2n (a.preFrame.isSome || !a.preQ.isEmpty))
  | _ => none

/-- Status of the spindle: power loss latched, the disk-angle source, the Master Angle (R210). -/
def State.spinRead (s : State) (off : Nat) : Option Nat :=
  match off with
  | 0x0 =>
    let w := s.rd R.SP_STATUS
    let src := s.srcAct
    some (putBits (putBits (putBits w 12 12 (b2n s.maon.powerLossAt.isSome)) 14 14 (b2n src)) 13 13 (b2n (bitOf w 13 && src)))
  | 0x14 => some (s.master + 2147483648 * b2n (s.bit R.SP_STATUS 5))
  | _ => none

/-- QENG: status, selected tables, the reader's abort result, FIFO heads, the commands of the slots (R236). -/
def State.qengRead (s : State) (i : Initiator) (off : Nat) : Option Nat :=
  match off with
  | 0x0 =>
    some (b2n s.dual + 2 * b2n (s.ccEn .a) + 4 * b2n (s.ccEn .b) + 8 * b2n (s.port .a).pp + 16 * b2n (s.port .b).pp)
  | 0x64 => some (s.grpCfg (s.fld R.QENG_GRP_SEL 11 0))
  | 0x6C => some (s.nsCfg (s.fld R.QENG_NS_SEL 9 0 + 1))
  | 0x74 => some (s.icCfg (if s.bit R.QENG_IC_SEL 11 then .b else .a) (s.fld R.QENG_IC_SEL 10 0))
  | 0x98 => some (iniGet 0 s.qeng.abortRes i)
  | 0xA4 => some (s.qeng.dberr.headD 0#32).toNat
  | 0xAC => some (s.qeng.ferr.headD 0#32).toNat
  | _ =>
    if 0x80000 ≤ off ∧ off < 0x90000 then
      match s.slot? ((off - 0x80000) / 64) with
      | some x => some (entryW x.sqe ((off - 0x80000) % 64 / 4))
      | none => some 0
    else none

/-- Buffers of a group of MTR_CAP_SEL, the open bank's value, the open epoch (R356). -/
def State.mtrRead (s : State) (off : Nat) : Option Nat :=
  let c := s.capOf (s.fld R.MTR_CAP_SEL 11 0)
  let v := spGet 0 s.mtr.bank.vals (8 * s.fld R.MTR_RD_SEL 11 0 + s.fld R.MTR_RD_SEL 14 12)
  let k := ofS 64 s.mtr.bank.epoch
  match off with
  | 0x1C => some (k % 2 ^ 32)
  | 0x20 => some (k / 2 ^ 32)
  | 0x44 => some (v % 2 ^ 32)
  | 0x48 => some (v / 2 ^ 32)
  | 0x104 => some c.rateCmd
  | 0x108 => some c.burstCmd
  | 0x10C => some c.rateKib
  | 0x110 => some c.burstKib
  | 0x114 => some c.rateAct
  | 0x118 => some c.burstAct
  | 0x11C => some (b2n (c.cmdLow || c.kibLow || c.actLow) + 2 * b2n c.cmdLow + 4 * b2n c.kibLow + 8 * b2n c.actLow)
  | _ => none

/-- Status of a verify engine (R352, R356). -/
def State.bvRead (s : State) (n : Fin 4) (off : Nat) : Option Nat :=
  if off = 0x20 then
    let run := s.bvRuns n
    some (b2n run + 2 * b2n (run && !(s.sec n).msch.bvPending) + 4 * b2n (s.bit (R.BV_STATUS n) 2))
  else none

/-- ROPE: message queues (R484). -/
def State.ropeRead (s : State) (off : Nat) : Option Nat :=
  let r := s.rope
  match off with
  | 0x60 => some ((r.rxq.headD []).getD 0 0#32).toNat
  | 0x64 => some ((r.rxq.headD []).getD 1 0#32).toNat
  | 0x68 => some ((r.rxq.headD []).getD 2 0#32).toNat
  | 0x6C => some ((r.rxq.headD []).getD 3 0#32).toNat
  | 0x74 => some (r.rxq.length + 256 * (16 - r.txq.length) + 65536 * s.fld R.ROPE_MSG_STAT 17 16)
  | _ => none

/-- Flowstone's status (R429). -/
def State.flowIdle (s : State) : Bool := s.flow.fifo.isEmpty && s.flow.run.isNone && !s.flow.unsealing

/-- The value a block computes for offset `off`; none: the stored value. -/
def State.computed (s : State) (i : Initiator) (b : Blk) (n : Fin 4) (off : Nat) : Option Nat :=
  match b with
  | .pwr => if off = 0 then some (s.gtc % 2 ^ 32) else if off = 4 then some (s.gtc / 2 ^ 32 % 2 ^ 32) else none
  | .sump =>
    if off = 0 then some (match s.logHead i with | some e => e.words.headD 0 | none => 0)
    else if off ≤ 0x10 then some (s.msgLatched i (off / 4))
    else if off = 0x18 then some (s.sump.unread (iniIsCc i))
    else if off = 0x20 then some s.sumpStatus
    else none
  | .atb => s.atbRead i n off
  | .chan => s.chanRead n off
  | .act => s.actRead n off
  | .spin => s.spinRead off
  | .qeng => s.qengRead i off
  | .buf =>
    if off = 0 then some (putBits (s.rd R.BUF_STATUS) 2 2 (b2n (s.bit R.BUF_CHK_CTRL 0)))
    else if off = 0x218 then some (iniGet 0 s.buf.dtRes i)
    else none
  | .mapc => if off = 0x54 then some s.lineInfo else none
  | .cryp =>
    let sel := iniGet 0 s.cryp.ksSel i
    if off = 0x10 then some sel
    else if off = 0x1C then some (s.ksInfo (sel % 4096))
    else if off = 0x20 then some (s.keySlot (sel % 4096)).owner
    else none
  | .mgmt => if off = 0x2010 then some (ofS 16 s.sump.junction) else none
  | .flow =>
    if off = 0 then
      some (b2n (s.bit R.FLOW_CTRL 0) + 2 * b2n s.flowIdle + 4 * b2n (s.bit R.FLOW_STATUS 2) + 8 * s.flow.fifo.length)
    else none
  | .pmu => if off = 0 then some (b2n (s.bit R.PMU_CTRL 0) + 4 * b2n (s.bit R.PMU_STATUS 2)) else none
  | .mtr => s.mtrRead off
  | .bv => s.bvRead n off
  | .rope => s.ropeRead off
  | _ => none

/-- Fields that a read returns: WO fields and reserved bits read 0 (R12, R13). -/
def maskRead (v : Nat) : List Fld → Nat
  | [] => 0
  | f :: r => if f.acc = .wo then maskRead v r else putBits (maskRead v r) f.hi f.lo (bitsOf v f.hi f.lo)

/-- The number of an instance, as a section. -/
def secOf (n : Nat) : Fin 4 := ⟨n % 4, Nat.mod_lt _ (by decide)⟩

/-- Where an address stands inside its block. -/
def offOf (a : Nat) : Nat :=
  match placeOf a with
  | .block _ _ off => off
  | _ => 0

/-- What a read of the register at `a` by an initiator returns, without any side effect: 0 while its domain is not ON (R433), and at
an unassigned offset (R11). -/
def State.peek (s : State) (i : Initiator) (a : Nat) : Nat :=
  match regAt a with
  | none => 0
  | some (b, n, r, _) =>
    if s.addrOn a = false then 0
    else
      match s.computed i b (secOf n) (offOf a) with
      | some v => v
      | none => maskRead (s.rd a) r.fields

/-! ### LO and HI pairs (R15, R424) -/

/-- The HI register of a LO register that the device updates. -/
def hiOf (a : Nat) : Option Nat :=
  match placeOf a with
  | .block b _ off =>
    let pair : Bool := match b with
      | .pwr => off == 0
      | .sump => off == 0x30
      | .buf => off == 0x40
      | .act => off == 0x10 || off == 0x18
      | .pmu => off == 0x10 || (decide (0x1000 ≤ off) && decide (off < 0x1400) && off % 8 == 0)
          || (decide (0x2000 ≤ off) && decide (off < 0x2400) && off % 8 == 0)
      | .mtr => off == 0x1C || off == 0x44
      | _ => false
    if pair then some (a + 4) else none
  | _ => none

/-- A register is the HI half of such a pair. -/
def isHi (a : Nat) : Bool := decide (4 ≤ a) && hiOf (a - 4) == some a

/-- Key of what is latched for a reader at an address. -/
def latchKey (i : Initiator) (a : Nat) : Nat := a + 2 ^ 48 * iniIdx i

/-- What is latched for a reader at an address. -/
def State.latched (s : State) (i : Initiator) (a : Nat) : Nat := (spGet 0#32 s.hiLatch (latchKey i a)).toNat

/-- Latch a value for a reader at an address. -/
def State.latch (s : State) (i : Initiator) (a v : Nat) : State :=
  { s with hiLatch := spPut 0#32 s.hiLatch (latchKey i a) (BitVec.ofNat 32 v) }

/-- Counter `k` is the even counter of a chained pair. -/
def State.chained (s : State) (k : Nat) : Bool := k % 2 == 0 && decide (k < 127) && s.bit (R.PMU_EVSEL (k + 1)) 11

/-- A read of PMU_CNTk_LO: the upper half is latched, and for a chained pair both halves of the partner too. The partner's LO then
returns what is latched, once (R424). -/
def State.cntRead (s : State) (i : Initiator) (k : Nat) : State :=
  let lo := R.PMU_CNT_LO k
  let hi := R.PMU_CNT_HI k
  if k % 2 = 1 ∧ s.latched i (lo + 1) = 1 then
    { (s.latch i (lo + 1) 0) with lastRead := BitVec.ofNat 32 (s.latched i lo) }
  else
    let v := s.rd lo
    let s := s.latch i hi (s.rd hi)
    let s := if s.chained k then
        ((s.latch i (lo + 8) (s.rd (lo + 8))).latch i (hi + 8) (s.rd (hi + 8))).latch i (lo + 9) 1
      else s
    { s with lastRead := BitVec.ofNat 32 v }

/-- A read of a LO register latches the then-current upper half into HI for the reader (R15). -/
def State.readLo (s : State) (i : Initiator) (a hi : Nat) : State :=
  if R.PMU_CNT_LO 0 ≤ a ∧ a < R.PMU_CNT_LO 128 then s.cntRead i ((a - R.PMU_CNT_LO 0) / 8)
  else { (s.latch i hi (s.peek i hi)) with lastRead := BitVec.ofNat 32 (s.peek i a) }

/-! ### Reads with effects -/

/-- A read of the register at `a` reaches its block: what the reader receives, and what the read changes. -/
def State.readReg (s : State) (i : Initiator) (a : Nat) : State :=
  match regAt a with
  | none => { s with lastRead := 0#32 }
  | some (b, n, r, _) =>
    if s.addrOn a = false then { s with lastRead := 0#32 }
    else
      match b, offOf a with
      | .sump, 0x0 => s.msgHead i
      | .qeng, 0xA4 => s.dberrPop
      | .qeng, 0xAC => s.ferrPop
      | .chan, 0xC4 => s.sbufDataRead (secOf n)
      | .cryp, 0x400 => s.rngRead
      | _, _ =>
        match hiOf a with
        | some hi => s.readLo i a hi
        | none =>
          if isHi a then { s with lastRead := BitVec.ofNat 32 (s.latched i a) }
          else
            let v := s.peek i a
            let s := if r.has .rc then s.setReg a (clearRc (s.rd a) r.fields) else s
            { s with lastRead := BitVec.ofNat 32 v }

end Sys2Proof.Machine
end

