-- ==== Sys2Proof/Machine/Flow.lean ====
section
/-! DEFINITION. Flowstone and the counter unit (R411 to R430): software triggers, records and the ring, failure of the recorder's
memories, counter overflow, snapshots and dumps, with their commands. -/

namespace Sys2Proof.Machine

open Sys2Proof

/-- Change Flowstone and the counter unit. -/
def State.onFlow (s : State) (f : Flow → Flow) : State := { s with flow := f s.flow }

/-- Bytes of the ring (R416). -/
def ringBytes : Nat := 262144

/-- A word of the recorder's memories as the code of R268 guards it: 128 bits. The internal address of word `k` of memory `m`. -/
def flowWordAddr (m k : Nat) : Nat :=
  baseFlow + (if m = 0 then 0x40000 else if m = 1 then 0x1000 else 0x2000) + 16 * k

/-! ### Reading the snapshot list (R414) -/

/-- The address that entry `k` of the list names. -/
def State.listAddr (s : State) (k : Nat) : Nat := 0x100000000 + 4 * (s.rd (R.FLOW_LIST k) % 2 ^ 23)

/-- What the recorder reads at an address: the value, OFFDOM, TIMEOUT. -/
def State.recRead (s : State) (a : Nat) : Nat × Bool × Bool :=
  if inMWindow a ∧ s.linkUp = false then (0, false, true)
  else
    match domainOf a with
    | none => (0, false, false)
    | some d => if s.domOn d then (s.peek .cc a, false, false) else (0, true, false)

/-! ### Records (R415 to R417) -/

/-- Length of a record of a run of `n` entries. -/
def recLen (n : Nat) : Nat := (32 + 4 * n + 31) / 32 * 32

/-- LIST_OFS and LIST_LEN of definition `d`. -/
def State.defRun (s : State) (d : Nat) : Nat × Nat := (s.fld (R.FLOW_DEF_W1 d) 9 0, s.fld (R.FLOW_DEF_W1 d) 22 16)

/-- Two byte ranges meet. -/
def overlaps (a n b m : Nat) : Bool := decide (a < b + m) && decide (b < a + n)

/-- The records that a new one overwrites, oldest first, leave the ring. -/
def reclaim (f : FlowRec → Bool) : List FlowRec → List FlowRec
  | [] => []
  | r :: l => if (r :: l).any f then reclaim f l else r :: l

/-- The 32-byte header of a record and its values, padded (R415). -/
def State.record (s : State) (t : Trig) (seq len : Nat) (vals : List (Nat × Bool × Bool)) : List Word :=
  let off := vals.any (fun (v : Nat × Bool × Bool) => v.2.1)
  let tmo := vals.any (fun (v : Nat × Bool × Bool) => v.2.2)
  let h := [len + 65536 * t.def_ + 4194304 * t.src, seq, t.gtc % 2 ^ 32, t.gtc / 2 ^ 32 % 2 ^ 32, t.info0, t.info1,
    min 65535 s.flow.missed + 65536 * b2n off + 131072 * b2n tmo, satU 32 (s.gtc - t.gtc)]
  ((h ++ vals.map Prod.fst ++ List.replicate 8 0).take (len / 4)).map (fun w => BitVec.ofNat 32 w)

/-- Write words into the ring at a byte offset. -/
def State.ringPut (s : State) : Nat → List Word → State
  | _, [] => s
  | o, w :: r => State.ringPut (s.setReg (R.FLOW_RING (o / 4)) w.toNat) (o + 4) r

/-- FLOW_OLD_OFS and FLOW_OLD_SEQ name the oldest record, or the one that begins. -/
def State.oldSync (s : State) (ofs seq : Nat) : State :=
  let o := (s.flow.recs.head?).getD ⟨ofs, 0, seq⟩
  (s.setReg R.FLOW_OLD_OFS o.ofs).setReg R.FLOW_OLD_SEQ o.seq

/-- SEQ of the next record. -/
def State.nextSeq (s : State) : Nat :=
  let h := s.rd R.FLOW_HEAD_SEQ
  if h = 0xFFFFFFFF then 1 else h + 1

/-! ### Sealing (R419, R420) -/

/-- The last-word block, unless it holds an earlier failure. -/
def State.lastWord (s : State) (a mem : Nat) : State :=
  if s.rd (R.FLOW_LW 0) ≠ 0 then s
  else
    let ws := [0x4C570001, s.rd R.FLOW_HEAD_SEQ, s.gtc % 2 ^ 32, s.gtc / 2 ^ 32 % 2 ^ 32, a % 2 ^ 32,
      a / 2 ^ 32 % 65536 + 65536 * mem, s.rd R.FLOW_CNT_MISSED]
    (List.range 8).foldl (fun s k => s.setReg (R.FLOW_LW k) ((ws ++ [crc32c (wordsToBytes ws)]).getD k 0)) s

/-- The recorder seals at an uncorrectable word. -/
def State.seal (s : State) (mem word : Nat) : State :=
  let a := flowWordAddr mem word
  let s := (s.setBit R.FLOW_STATUS 2 true).onFlow (fun f => { f with
    fifo := []
    run := none
    bad := if f.bad.contains (mem, word) then f.bad else f.bad ++ [(mem, word)] })
  (s.lastWord a mem).sendFault 128 kLOGRAM a

/-- The recorder is sealed. -/
def State.sealed (s : State) : Bool := s.bit R.FLOW_STATUS 2

/-- A bad word among those that a record of definition `d` reads: its definition, then its list entries. -/
def State.badWord (s : State) (d : Nat) : Option (Nat × Nat) :=
  let (ofs, n) := s.defRun d
  let need := (1, d / 2) :: (List.range n).map (fun k => (2, (ofs + k) / 4))
  need.find? (fun p => s.flow.bad.contains p)

/-- FLOW_BACKGROUND_CHECK. -/
def State.flowCheck (s : State) (found : FlowCheck) : State :=
  match found with
  | .clean => s
  | .corrected =>
    let s := s.bump R.FLOW_CNT_CE
    if s.flow.ceRun = 255 then (s.onFlow (fun f => { f with ceRun := 0 })).sendFault 128 kCE 0
    else s.onFlow (fun f => { f with ceRun := f.ceRun + 1 })
  | .uncorrectable mem word => if s.sealed ∨ mem = 3 then s else s.seal mem word

/-! ### A record is written (R416 to R418) -/

/-- The oldest trigger leaves the FIFO. -/
def State.fifoPop (s : State) : State := s.onFlow (fun f => { f with fifo := f.fifo.drop 1 })

/-- FLOW_RECORD_START. -/
def State.recordStart (s : State) : State :=
  match s.flow.fifo with
  | [] => s
  | t :: _ =>
    if s.flow.run.isSome ∨ s.sealed then s
    else
      match s.badWord t.def_ with
      | some (mem, word) => s.seal mem word
      | none =>
        let (lo, n) := s.defRun t.def_
        let len := recLen n
        let w := s.flow.wr
        let pad := decide (ringBytes < w + len)
        let ofs := if pad then 0 else w
        let tooBig (r : FlowRec) : Bool := overlaps r.ofs r.len ofs len || (pad && overlaps r.ofs r.len w (ringBytes - w))
        let s := s.fifoPop
        if s.bit R.FLOW_CFG 0 ∧ s.flow.recs.any tooBig then
          (s.bump R.FLOW_CNT_MISSED).onFlow (fun f => { f with missed := satU 16 (f.missed + 1) })
        else
          let seq := s.nextSeq
          let words := s.record t seq len ((List.range n).map (fun k => s.recRead (s.listAddr (lo + k))))
          let s := s.onFlow (fun f => { f with recs := reclaim tooBig f.recs, missed := 0, run := some ⟨ofs, seq, words⟩ })
          let s := s.oldSync ofs seq
          if pad then s.ringPut w [BitVec.ofNat 32 (ringBytes - w + 16777216)] else s

/-- FLOW_RECORD_END. -/
def State.recordEnd (s : State) : State :=
  match s.flow.run with
  | none => s
  | some r =>
    let len := 4 * r.words.length
    let s := ((s.ringPut r.ofs r.words).setReg R.FLOW_HEAD_SEQ r.seq).bump R.FLOW_CNT_RECORDS
    s.onFlow (fun f => { f with
      run := none
      recs := f.recs ++ [⟨r.ofs, len, r.seq⟩]
      wr := (r.ofs + len) % ringBytes })

/-- The ring is empty: FLOW_HEAD_SEQ and FLOW_OLD_OFS read 0. -/
def State.ringEmpty (s : State) : State :=
  let s := s.onFlow (fun f => { f with recs := [], wr := 0 })
  ((s.setReg R.FLOW_HEAD_SEQ 0).setReg R.FLOW_OLD_OFS 0).setReg R.FLOW_OLD_SEQ 0

/-- A write of UNSEAL (R421). -/
def State.unsealStart (s : State) : State := if s.sealed then s.onFlow (fun f => { f with unsealing := true }) else s

/-- UNSEAL_DONE (R421). -/
def State.unsealDone (s : State) : State :=
  if s.flow.unsealing then
    let s := s.resetRange (R.FLOW_RING 0) (R.FLOW_RING 65536)
    ((s.ringEmpty).onFlow (fun f => { f with
      unsealing := false
      bad := f.bad.filter (fun p => p.1 ≠ 0) })).setBit R.FLOW_STATUS 2 false
  else s

/-- CLEAR, discarded while IDLE is 0 (R427). -/
def State.flowClear (s : State) : State := if s.flowIdle then s.ringEmpty else s.protocol 128 0

/-- LW_CLR (R420). -/
def State.lwClear (s : State) : State := s.resetRange (R.FLOW_LW 0) (R.FLOW_LW 8)

/-! ### Counters (R424 to R426) -/

/-- COUNTER_OVERFLOW: an increment of at most 1,023 takes counter `k` past 2^48 − 1; how far past is free. A chained odd counter adds
1 for each overflow of its partner, and wraps with it. -/
def State.counterWrap (s : State) (k : Nat) : State :=
  let v := s.pmuCnt k
  let own := s.bit (R.PMU_EVSEL k) 10 && !(k % 2 == 1 && s.bit (R.PMU_EVSEL k) 11)
  if s.pmuOn ∧ own ∧ 2 ^ 48 ≤ v + 1023 then
    let x := (Config.freeWord s.free).toNat % (v + 1024 - 2 ^ 48)
    ((s.useFree).setReg64 (R.PMU_CNT_LO k) (R.PMU_CNT_HI k) x).pmuOverflow k
  else s

/-- PMU_MDIE_SUMS: the sums of the M-die cross Passage and are added, or discarded while the unit is frozen or off (R423, R425). -/
def State.mdieSums (s : State) : State :=
  if s.linkUp = false then s
  else
    let sums := s.flow.msums
    let s := s.onFlow (fun f => { f with msums := [] })
    if s.pmuOn then s.pmuAddAll (fun ev => spGet 0 sums ev) s.pmuSelected else s

/-- A snapshot of every counter and of the GTC (R425). -/
def State.pmuSnap (s : State) : State :=
  let copy (s : State) (k : Nat) : State := s.setReg64 (R.PMU_SNP_LO k) (R.PMU_SNP_HI k) (s.pmuCnt k)
  ((List.range 128).foldl copy s).setReg64 R.PMU_SNAP_GTC_LO R.PMU_SNAP_GTC_HI s.gtc

/-- The 1,056 bytes of a dump record before its CRC (R426). -/
def State.dumpBytes (s : State) (seq : Nat) : List Byte :=
  let ovf := (List.range 4).any (fun k => s.rd (R.PMU_OVF k) != 0)
  let entry (k : Nat) : Nat :=
    let e := s.rd (R.PMU_EVSEL k)
    s.pmuCnt k % 2 ^ 48 + 2 ^ 48 * bitsOf e 9 0 + 2 ^ 58 * bitsOf e 11 10 + 2 ^ 60 * b2n (s.bit (R.PMU_OVF (k / 32)) (k % 32))
  toBytes 4 0x50430002 ++ toBytes 4 seq ++ toBytes 8 s.gtc ++ toBytes 2 128
    ++ toBytes 2 (b2n (s.bit R.PMU_CTRL 0) + 2 * b2n (s.bit R.PMU_STATUS 2) + 4 * b2n ovf)
    ++ toBytes 4 (s.fld R.PMU_DUMP_PERIOD 15 0) ++ toBytes 8 0
    ++ (List.range 128).flatMap (fun k => toBytes 8 (entry k))

/-- PMU_DUMP: a copy is due; its record goes to slot SEQ mod SLOTS, entries first, then the CRC, then the header (R426). -/
def State.pmuDump (s : State) : State :=
  if s.domOn 11 = false ∨ s.bit R.PMU_CTRL 2 = false ∨ s.gtc < s.flow.dumpAt then s
  else
    let seq := (s.rd R.PMU_DUMP_SEQ + 1) % 2 ^ 32
    let b := s.dumpBytes seq
    let a := s.rd64 R.PMU_DUMP_BASE_LO R.PMU_DUMP_BASE_HI + 2048 * (seq % max 1 (s.fld R.PMU_DUMP_SLOTS 12 0))
    let s := ((s.busWrite (a + 32) (b.drop 32)).busWrite (a + 1056) (toBytes 4 (crc32c b) ++ toBytes 4 0)).busWrite a (b.take 32)
    let next := s.flow.dumpAt + 1000000 * s.fld R.PMU_DUMP_PERIOD 15 0
    (s.setReg R.PMU_DUMP_SEQ seq).onFlow (fun f => { f with dumpAt := next })

/-! ### Commands -/

/-- FLOW_SWTRIG (R411). -/
def execFlowSwtrig (t : Nat) (i : Initiator) (w : BitVec 32) (s : State) : Res :=
  .next ((s.at t).onReg i R.FLOW_SWTRIG (fun s => s.flowSw (w.toNat % 64)))

/-- FLOW_RECORD_START (R416). -/
def execFlowRecordStart (t : Nat) (s : State) : Res := .next ((s.at t).ifFlow (fun s => s.recordStart))

/-- FLOW_RECORD_END (R416). -/
def execFlowRecordEnd (t : Nat) (s : State) : Res := .next ((s.at t).ifFlow (fun s => s.recordEnd))

/-- FLOW_BACKGROUND_CHECK (R419). -/
def execFlowBackgroundCheck (t : Nat) (found : FlowCheck) (s : State) : Res := .next ((s.at t).ifFlow (fun s => s.flowCheck found))

/-- UNSEAL (R421). -/
def execUnseal (t : Nat) (i : Initiator) (s : State) : Res :=
  .next ((s.at t).onReg i R.FLOW_CTRL (fun s => s.unsealStart))

/-- UNSEAL_DONE (R421). -/
def execUnsealDone (t : Nat) (s : State) : Res := .next ((s.at t).ifFlow (fun s => s.unsealDone))

/-- CLEAR (R427). -/
def execFlowClear (t : Nat) (i : Initiator) (s : State) : Res := .next ((s.at t).onReg i R.FLOW_CTRL (fun s => s.flowClear))

/-- LW_CLR (R420). -/
def execLwClr (t : Nat) (i : Initiator) (s : State) : Res := .next ((s.at t).onReg i R.FLOW_CTRL (fun s => s.lwClear))

/-- COUNTER_OVERFLOW (R424). -/
def execCounterOverflow (t : Nat) (k : Fin 128) (s : State) : Res := .next ((s.at t).counterWrap k)

/-- PMU_MDIE_SUMS (R423). -/
def execPmuMdieSums (t : Nat) (s : State) : Res := .next (s.at t).mdieSums

/-- SNAP: any initiator (R425). -/
def execSnap (t : Nat) (i : Initiator) (s : State) : Res :=
  .next ((s.at t).onReg i R.PMU_SNAP (fun s => s.pmuSnap))

/-- MLOST_CLR: any initiator (R425, R430). -/
def execMlostClr (t : Nat) (i : Initiator) (s : State) : Res :=
  .next ((s.at t).onReg i R.PMU_SNAP (fun s => s.setBit R.PMU_STATUS 2 false))

/-- PMU_DUMP (R426). -/
def execPmuDump (t : Nat) (s : State) : Res := .next (s.at t).pmuDump

/-- PMU_CNT_READ (R424). -/
def execPmuCntRead (t : Nat) (i : Initiator) (k : Fin 128) (s : State) : Res :=
  .next ((s.at t).readReg i (R.PMU_CNT_LO k))

end Sys2Proof.Machine
end

