-- ==== Sys2Proof/Machine/Mgmt.lean ====
section
/-! DEFINITION. MGMT: the Command Window (R382 to R388, R496), the Chimney port and its MCTP messages (R376 to R381), the health
registers (R379), forwarded requests (R380), and the reset of the management core (R441, R442). -/

namespace Sys2Proof.Machine

open Sys2Proof

/-- Change MGMT's internal state. -/
def State.onMgmt (s : State) (f : Mgmt → Mgmt) : State := { s with mgmt := f s.mgmt }

/-! ### The Command Window: paths and lock (R382) -/

/-- The path an initiator stands for: 1 host port A, 2 host port B, 3 Chimney, 0 none. -/
def pathCode : Initiator → Nat
  | .hostA => 1
  | .hostB => 2
  | .mgmt => 3
  | _ => 0

/-- A path reaches the window: its port serves its host, or the management core runs. -/
def State.pathOn (s : State) (i : Initiator) : Bool :=
  match i with
  | .hostA => s.hostOn .a
  | .hostB => s.hostOn .b
  | .mgmt => s.pwr.mgmtUp
  | _ => false

/-- The path that holds CW_LOCK; 0: none. -/
def State.cwLock (s : State) : Nat := s.fld R.CW_LOCK 1 0

/-- An access of a path; one by the holder postpones the end of the lock. -/
def State.cwAccess (s : State) (code : Nat) : State :=
  if s.cwLock = code then s.onMgmt (fun m => { m with cwTouch := s.gtc }) else s

/-- A write of CW_LOCK by the path `code`. -/
def State.cwLockWrite (s : State) (code w : Nat) : State :=
  let v := w % 4
  if v = 0 then (if s.cwLock = code then s.setReg R.CW_LOCK 0 else s.protocol 177 0)
  else if v ≠ code then s.protocol 177 0
  else if s.cwLock = 0 then (s.setReg R.CW_LOCK code).cwAccess code
  else s

/-- Another path holds the lock. -/
def State.cwLocked (s : State) (code : Nat) : Bool := s.cwLock != 0 && s.cwLock != code

/-- 10 s pass with the window idle or done and no access by the holder. -/
def State.cwLockTimeout (s : State) : State :=
  if s.cwLock ≠ 0 ∧ s.cwBusy = false ∧ s.mgmt.cwTouch + 10000000000 ≤ s.gtc then s.setReg R.CW_LOCK 0 else s

/-- Put bytes into CW_DATA from its start. -/
def State.cwPut (s : State) (bytes : List Byte) : State :=
  (List.range 1024).foldl (fun s k => s.setReg (R.CW_DATA k) (wordAt bytes (4 * k))) s

/-! ### Commands (R383 to R386, R496) -/

/-- A listed opcode (R385). -/
def cwOpKnown (op : Nat) : Bool :=
  op == 0x01 || (decide (0x10 ≤ op) && decide (op ≤ 0x12)) || op == 0x20 || op == 0x21 || op == 0x30 || decide (0x80 ≤ op)

/-- The life-cycle states that list an opcode. -/
def cwStateOk (op lc : Nat) : Bool :=
  if op = 1 then true
  else if lc = 5 then false
  else if op = 0x20 ∨ op = 0x21 ∨ 0x80 ≤ op then true
  else lc == 1 || lc == 2 || lc == 4

/-- An opcode does not match the present service. -/
def State.cwModeBad (s : State) (op : Nat) : Bool :=
  if s.bit R.CW_STATUS 6 then op != 1 && decide (op < 0x80) else decide (0x80 ≤ op)

/-- A parameter of the command lies outside what R385 gives it. -/
def State.cwParamBad (s : State) (op : Nat) : Bool :=
  let lba := s.rd64 R.CW_LBA_LO R.CW_LBA_HI
  let count := s.fld R.CW_COUNT 15 0
  match op with
  | 0x10 => count != 1 || decide (s.ssCapacity < 4096 * (lba + 1))
  | 0x11 => count != 1 || decide (s.ssCapacity < 4096 * (lba + 1))
  | 0x12 => lba % 16 != 0 || count == 0 || decide (256 < count) || decide (s.ssCapacity < 4096 * lba + 65536 * count)
  | 0x20 => decide (1023 < lba)
  | 0x21 => count == 0 || decide (1024 < count) || s.fld R.CW_NSID 1 0 == 3
  | 0x30 => decide (32 ≤ s.rd R.CW_NSID) || decide (2 ^ 24 ≤ s.rd R.CW_LBA_LO) || decide (4096 ≤ s.rd R.CW_LBA_HI)
  | _ => false

/-- Slots that window commands hold. -/
def State.cwSlots (s : State) : Nat := (s.qeng.slots.filter (fun x => x.2.win)).length

/-- No RSV slot is free (R386). -/
def State.cwNoSlot (s : State) : Bool :=
  !s.domOn 3 || decide (s.fld R.QENG_SLOT_CFG 4 0 ≤ s.cwSlots) || (s.lowestFree s.reserved 1 0 1024).isEmpty

/-- The device head of PHYS_READ, as its section. -/
def State.cwSect (s : State) : Fin 4 := secOf (s.fld R.CW_NSID 4 0 / 8)

/-- What keeps PHYS_READ from running (R385, R496). -/
def State.physNotReady (s : State) : Bool :=
  let n := s.cwSect
  !s.wounserUp || s.safeHolds || !s.bit R.SP_STATUS 5 || s.parked n || s.retracting n || s.fenced n || s.bit (R.MSCH_CTRL n) 0
    || s.held n.val || s.held (4 + n.val)

/-- CODE of the first refusal of R384 that applies, or of R496; 0: none. -/
def State.cwRefusal (s : State) (op : Nat) : Nat :=
  if cwOpKnown op = false then 1
  else if cwStateOk op s.lcState = false then 3
  else if s.cwModeBad op then 5
  else if s.cwParamBad op then 2
  else if 0x80 ≤ op ∧ s.cwNoSlot then 4
  else if op ≠ 1 ∧ op < 0x80 ∧ s.wounserUp ∧ s.plRuns then 6
  else if op = 0x30 ∧ s.physNotReady then 6
  else 0

/-- IDENTIFY: device ID, die set revision, LCS_STATE, MB_VER, SERVICE. -/
def State.cwIdentify (s : State) : State :=
  let ws := [s.rd R.LCS_REV, s.rd R.LCS_STATE, s.rd R.MB_VER, b2n (s.bit R.CW_STATUS 6)]
  (s.cwPut (s.fuses.devid ++ wordsToBytes ws)).cwEnd 2 0 0

/-- The port bit of a window command's record: its own port; for Chimney the spec names none. -/
def State.cwPort (s : State) (i : Initiator) : Port :=
  match i with
  | .hostA => .a
  | .hostB => .b
  | _ => if (Config.freeWord (s.free + 1)).toNat % 2 = 1 then .b else .a

/-- A command of service 1: an RSV slot, its synthesised entry, its dispatch record (R386, R387). FSEQ is free. -/
def State.cwDispatch (s : State) (i : Initiator) (op : Nat) : State :=
  match s.lowestFree s.reserved 1 0 1024 with
  | [] => s
  | k :: _ =>
    let w (a : Nat) : Word := s.reg a
    let z : Word := 0#32
    let sqe := [BitVec.ofNat 32 op, w R.CW_NSID] ++ List.replicate 8 z ++ [w R.CW_LBA_LO, w R.CW_LBA_HI, w R.CW_COUNT]
      ++ List.replicate 3 z
    let c : CmdSlot := {
      port := s.cwPort i, sqid := winSqid, group := 0, cls := 0, fuse := 0, partner := none
      fseq := (Config.freeWord s.free).toNat, cid := 0, nsid := (w R.CW_NSID).toNat, ord := false, sqe := sqe, win := true }
    let core : Fin 4 := ⟨s.fld R.QENG_CTRL 7 6 % 4, Nat.mod_lt _ (by decide)⟩
    let s := { (s.putSlot k c).countSlots with free := s.free + 2 }
    let s := s.queueRec core (s.dispRec k c 0 false)
    let s := (s.setReg R.CW_FW_SLOT k).onMgmt (fun m => { m with cwSlot := some k })
    if s.bit R.QENG_PS_CTRL 0 then (s.setBit R.QENG_PS_CTRL 1 true).qengInt 5 else s

/-- The write of CW_CMD, step 2 of R383. -/
def State.cwCmd (s : State) (i : Initiator) (op : Nat) : State :=
  let s := s.setReg R.CW_STATUS (1 + 16 * (pathCode i - 1) + 64 * b2n (s.bit R.CW_STATUS 6) + 256 * op)
  let s := ((s.setReg R.CW_ERROR 0).setReg R.CW_RES 0).onMgmt (fun m => { m with cwAt := s.gtc })
  let code := s.cwRefusal op
  if code ≠ 0 then s.cwEnd 3 code 0
  else if op = 1 then s.cwIdentify
  else if 0x80 ≤ op then s.cwDispatch i op
  else s

/-- Offsets whose writes the lock and BUSY guard: CW_CMD, the parameters, CW_DATA. -/
def cwGuarded (off : Nat) : Bool := decide (off ≤ 0x10) || (decide (0x1000 ≤ off) && decide (off < 0x2000))

/-- CW_CTRL.ABORT: the server of the command in service is notified (R387). -/
def State.cwAbort (s : State) (w : Nat) : State :=
  if w % 2 = 1 ∧ s.cwBusy then
    if s.fld R.CW_STATUS 15 8 < 0x80 then s.irq .cc (.unit 177)
    else s.irq (appTarget (s.fld R.QENG_CTRL 7 6)) (.unit 177)
  else s

/-- A write by a path to the window's registers at offset `off` of MGMT; another initiator is no path, and its write has no effect. -/
def State.cwWrite (s : State) (i : Initiator) (off w : Nat) : State :=
  let code := pathCode i
  if s.pathOn i = false then s
  else
    let s := s.cwAccess code
    if cwGuarded off then
      if s.cwBusy || s.cwLocked code then s.protocol 177 0
      else if off = 0 then s.cwCmd i (w % 256)
      else s.setReg (baseMgmt + off) (if off = 0x10 then w % 65536 else w)
    else if off = 0x20 then s.cwLockWrite code w
    else if off = 0x24 then s.cwAbort w
    else s

/-! ### Completion (R383, R385, R445) -/

/-- The server of a command that drive firmware does not serve runs. -/
def State.cwServer (s : State) : Bool := s.pwr.rom || s.wounserUp

/-- An image that IMG_COMMIT has installed starts where the boot waits for one (R448). -/
def State.cwInstalled (s : State) (kind : Nat) (b : List Byte) : State :=
  if kind = 0 ∧ s.pwr.rom then { s with pwr := { s.pwr with winWounser := some (imgField b 12 4) } }
  else if kind = 1 ∧ s.bootStage = 4 ∧ s.fld R.PWR_BOOT_STATUS 15 8 = 5 then { s with pwr := { s.pwr with winFw := true } }
  else s

/-- IMG_COMMIT. -/
def State.cwCommit (s : State) (ok : Bool) : State :=
  let kind := s.fld R.CW_NSID 1 0
  let b := s.cwImage
  if s.domOn 5 = false then s.cwEnd 3 6 0
  else if s.imgOk kind b = false then s.cwEnd 3 8 0
  else
    match s.installImage kind b ok with
    | some t => (t.cwInstalled kind b).cwEnd 2 0 0
    | none =>
      if ok ∧ kind = 0 ∧ s.pwr.rom ∧ s.directory.isNone then (s.cwInstalled kind b).cwEnd 2 0 0
      else (if ok then s else s.slotFail (2 * kind) b).cwEnd 3 7 0

/-- A command of the Safe Store, and whether it waits for a dump (R443). -/
def cwStores (op : Nat) : Bool := op == 0x10 || op == 0x11 || op == 0x12 || op == 0x21

/-- CW_COMPLETE: the boot ROM or Wounser completes the command in service. `ok`: no error of the Safe Store device, or of the media
read; `res`, `bytes`: what PHYS_READ read. -/
def State.cwComplete (s : State) (ok : Bool) (res : Nat) (bytes : List Byte) : State :=
  let op := s.fld R.CW_STATUS 15 8
  if s.cwBusy = false ∨ 0x80 ≤ op ∨ s.cwServer = false then s
  else if cwStores op ∧ s.fld R.BUF_DUMP_STATUS 1 0 = 1 then s
  else
    match op with
    | 0x10 => if ok then (s.cwPut (s.ssBytes s.cwAddr 4096)).cwEnd 2 0 0 else s.cwEnd 3 7 0
    | 0x11 => if ok then (s.ssProgram s.cwAddr s.cwData).cwEnd 2 0 0 else s.cwPartial.cwEnd 3 7 0
    | 0x12 => if ok then (s.ssErase s.cwAddr (65536 * s.fld R.CW_COUNT 15 0)).cwEnd 2 0 0 else s.cwPartial.cwEnd 3 7 0
    | 0x20 => if s.domOn 5 then (s.busWrite (0x10000000 + 0x10000000 + s.cwAddr) s.cwData).cwEnd 2 0 0 else s.cwEnd 3 6 0
    | 0x21 => s.cwCommit ok
    | 0x30 =>
      if s.physNotReady then s.cwEnd 3 6 0
      else if ok then (s.cwPut (bytes.take 4096)).cwEnd 2 0 res
      else s.cwEnd 3 10 res
    | _ => s

/-- CW_TIMEOUT: CW_CFG.TMO passes (R383). -/
def State.cwTimeout (s : State) : State :=
  if s.cwBusy ∧ s.mgmt.cwAt + 1000000000 * s.fld R.CW_CFG 15 8 ≤ s.gtc then s.cwPartial.cwEnd 3 9 0 else s

/-- CW_FW_DONE: drive firmware completes the command in service, or answers one that has ended (R385, R386). -/
def State.cwFwDone (s : State) (w : Nat) : State :=
  let st := w % 8
  if st < 2 ∨ 4 < st then s.protocol 177 0
  else
    match s.mgmt.cwLate, s.mgmt.cwSlot with
    | k :: r, _ => ((s.onMgmt (fun m => { m with cwLate := r })).cwFree k).protocol 177 0
    | [], some k =>
      let t := (s.cwEnd st (s.rd R.CW_FW_ERROR) (s.rd R.CW_FW_RES)).cwFree k
      t.onMgmt (fun m => { m with cwLate := [] })
    | [], none => s.protocol 177 0

/-! ### Chimney packets (R376, R377, R522) -/

/-- CRC-8 of a packet (polynomial 0x07), one bit and one byte. -/
def pecBit (r : Nat) : Nat := if r < 128 then 2 * r else (2 * r - 256) ^^^ 0x07
def pecByte (r : Nat) (b : Byte) : Nat :=
  let x := r ^^^ b.toNat
  (List.range 8).foldl (fun r _ => pecBit r) x

/-- The packet error code of bytes. -/
def pec (bytes : List Byte) : Nat := bytes.foldl pecByte 0

/-- The strap selects I3C. -/
def State.i3c (s : State) : Bool := s.bit R.CHM_STATUS 0

/-- Byte `k` of a list as a number. -/
def byteAt (b : List Byte) (k : Nat) : Nat := (b.getD k 0#8).toNat

/-- The packet is addressed to the device's bus address. -/
def State.chmAddressed (s : State) (b : List Byte) : Bool :=
  if s.i3c then byteAt b 0 == 2 * s.fld R.CHM_STATUS 22 16 else byteAt b 0 == 2 * s.fld R.CHM_CFG 6 0

/-- The MCTP packet (header and payload) that a bus transfer carries, where it is well formed and its PEC is right. -/
def State.chmUnwrap (s : State) (b : List Byte) : Option (List Byte) :=
  let n := b.length
  if n = 0 ∨ pec (b.take (n - 1)) ≠ byteAt b (n - 1) then none
  else if s.i3c then (if n < 7 then none else some ((b.take (n - 1)).drop 1))
  else if n < 10 ∨ byteAt b 1 ≠ 0x0F ∨ byteAt b 2 + 4 ≠ n then none
  else some ((b.take (n - 1)).drop 4)

/-- A packet is dropped and counted. -/
def State.chmDrop (s : State) : State := s.bump R.CHM_CNT_DROP

/-- A message is complete. An unknown SUB of the vendor type is answered BADSUB at once (R381). -/
def State.chmMessage (s : State) (b : List Byte) : State :=
  let s := s.bump R.CHM_CNT_RX
  let sub := byteAt b 3
  if byteAt b 0 % 128 = 0x7E ∧ (sub = 0 ∨ 5 < sub) then
    let status := if s.lcState = 3 ∧ s.bit R.CHM_CFG 8 = false then 6 else 1
    s.onMgmt (fun m => { m with sent := m.sent ++ [.vendor sub status 0 0 []] })
  else s.onMgmt (fun m => { m with rx := m.rx ++ [b] })

/-- Reassembly (R377). -/
def State.chmAssemble (s : State) (p : List Byte) : State :=
  let src := byteAt p 2
  let fl := byteAt p 3
  let tag := fl % 16
  let seq := fl / 16 % 4
  let pay := p.drop 4
  let same (x : MctpAsm) : Bool := x.src == src && x.tag == tag
  let rest := s.mgmt.asm.filter (fun x => !same x)
  let old := s.mgmt.asm.find? same
  let s := s.onMgmt (fun m => { m with asm := rest })
  let whole : Option (List Byte) :=
    if bitOf fl 7 then some pay
    else match old with
      | some x => if x.seq = seq then some (x.bytes ++ pay) else none
      | none => none
  match whole with
  | none => s.chmDrop
  | some b =>
    if s.mgmt.unit < pay.length ∨ 4104 < b.length then s.chmDrop
    else if bitOf fl 6 then s.chmMessage b
    else s.onMgmt (fun m => { m with asm := ⟨src, tag, (seq + 1) % 4, b⟩ :: m.asm })

/-- MCTP_PACKET. -/
def State.mctpPacket (s : State) (b : List Byte) : State :=
  if s.chmAddressed b = false then s
  else
    match s.chmUnwrap b with
    | none => s.chmDrop
    | some p =>
      let eid := byteAt p 1
      if eid = 0 ∨ eid = 0xFF ∨ eid = s.fld R.CHM_STATUS 15 8 then s.chmAssemble p else s

/-- The management core runs, and Chimney's lines are not released for good (R447 step 2, R522). -/
def State.chmServes (s : State) : Bool := s.pwr.mgmtUp && !s.pwr.chmOff

/-- Chimney runs: the management core serves it. -/
def State.ifChm (s : State) (f : State → State) : State := if s.chmServes then f s else s

/-- Chimney sends a message. -/
def State.chmSend (s : State) (x : ChmTx) : State := s.onMgmt (fun m => { m with sent := m.sent ++ [x] })

/-- The oldest received message has been served. -/
def State.chmPop (s : State) : State := s.onMgmt (fun m => { m with rx := m.rx.drop 1 })

/-! ### MCTP control (R377) -/

/-- Set Endpoint ID. -/
def State.setEid (s : State) (e : Nat) : State :=
  if e = 0 ∨ e = 0xFF then s.chmSend (.control 1 2 [])
  else ((s.setFld R.CHM_STATUS 15 8 e).setBit R.CHM_STATUS 1 true).chmSend (.control 1 0 [0, e, 0])

/-! ### NVMe-MI (R378 to R380) -/

/-- APP01 is on and one of its cores is out of reset. -/
def State.app01 (s : State) : Bool := s.domOn 5 && (s.pwr.appRun[0] || s.pwr.appRun[1])

/-- Place a forwarded request: the buffer, LEN, REQ, the interrupt. -/
def State.fwdPlace (s : State) (b : List Byte) : State :=
  let s := (List.range ((b.length + 3) / 4)).foldl (fun s k => s.setReg (R.CHM_FWD_BUF k) (wordAt b (4 * k))) s
  let s := s.setReg R.CHM_FWD_CTRL (1 + 65536 * (b.length % 8192))
  (s.onMgmt (fun m => { m with fwdAt := s.gtc, more := false })).irq (appTarget (s.fld R.QENG_CTRL 7 6)) (.unit 176)

/-- A request that drive firmware cannot take: Internal Error, or zero controllers. -/
def State.fwdRefuse (s : State) (b : List Byte) : State :=
  let poll := byteAt b 0 % 128 = 4 && byteAt b 1 / 8 % 16 == 1 && byteAt b 4 == 2
  s.chmSend (if poll then .mi 0 [] else .mi 2 [])

/-- Requests can be forwarded. -/
def State.fwdOn (s : State) : Bool := s.bit R.CHM_CFG 9 && s.app01

/-- Forward a request, one at a time. -/
def State.forward (s : State) (b : List Byte) : State :=
  if s.fwdOn = false then s.fwdRefuse b
  else if s.bit R.CHM_FWD_CTRL 0 then s.onMgmt (fun m => { m with fwdQ := m.fwdQ ++ [b] })
  else s.fwdPlace b

/-- Answer the waiting requests that cannot be forwarded, and place the next one that can. -/
def State.fwdNext (s : State) : List (List Byte) → State
  | [] => s.onMgmt (fun m => { m with fwdQ := [] })
  | b :: r => if s.fwdOn then (s.onMgmt (fun m => { m with fwdQ := r })).fwdPlace b else State.fwdNext (s.fwdRefuse b) r

/-- REQ clears. -/
def State.fwdEnd (s : State) : State := (s.setBit R.CHM_FWD_CTRL 0 false).fwdNext s.mgmt.fwdQ

/-- The oldest received message is forwarded: another NVMe-MI command, or a tunnelled Admin command (R378). -/
def State.forwardRx (s : State) : State :=
  match s.mgmt.rx with
  | [] => s
  | b :: _ => s.chmPop.forward b

/-- CHM_FWD_RLEN. -/
def State.fwdResponse (s : State) (w : Nat) : State :=
  let n := w % 8192
  if n = 0 ∨ 4104 < n ∨ s.bit R.CHM_FWD_CTRL 0 = false then s.protocol 176 0
  else
    let b := (wordsToBytes ((List.range ((n + 3) / 4)).map (fun k => s.rd (R.CHM_FWD_BUF (0x800 + k))))).take n
    (s.chmSend (.forwarded (b.map (fun x => x.toNat)))).fwdEnd

/-- No response within 100 ms. -/
def State.fwdMore (s : State) : State :=
  if s.bit R.CHM_FWD_CTRL 0 ∧ s.mgmt.more = false ∧ s.mgmt.fwdAt + 100000000 ≤ s.gtc then
    (s.onMgmt (fun m => { m with more := true })).chmSend (.mi 1 [])
  else s

/-- No response within 5 s. -/
def State.fwdTimeout (s : State) : State :=
  if s.bit R.CHM_FWD_CTRL 0 ∧ s.mgmt.fwdAt + 5000000000 ≤ s.gtc then (s.chmSend (.mi 2 [])).fwdEnd else s

/-- HTMO has passed since the last health write, or APP01 is off or in reset (R379). -/
def State.hlthLate (s : State) : Bool :=
  decide (s.mgmt.hlthAt + 1000000000 * s.fld R.CHM_CFG 23 16 ≤ s.gtc) || !s.app01

/-- The health values count (R379). -/
def State.hlthFresh (s : State) : Bool := s.mgmt.fresh && !s.hlthLate

/-- Composite Temperature from CHM_TEMP, in degrees Celsius (log 65). -/
def State.junctionDeg (s : State) : Nat := ofS 8 (clampI (-60) 127 (s.sump.junction.fdiv 2))

/-- NVM Subsystem Health Status Poll: Drive Functional, SMART Warnings, Composite Temperature, life used, controller status. -/
def State.healthPoll (s : State) : State :=
  let f := s.hlthFresh
  let t := if f then s.fld R.CHM_HLTH0 15 8 else s.junctionDeg
  s.chmSend (.mi 0 [b2n f, s.fld R.CHM_HLTH0 7 0, t, s.fld R.CHM_HLTH0 23 16, s.fld R.CHM_HLTH1 15 0])

/-- CHM_HLTH0 is written. -/
def State.healthUpdate (s : State) (w : Nat) : State :=
  (s.setReg R.CHM_HLTH0 (w % 2 ^ 24)).onMgmt (fun m => { m with hlthAt := s.gtc, fresh := true })

/-- Configuration Get of identifier 1, the SMBus frequency, and 3, the transmission unit. -/
def State.configGet (s : State) (id : Nat) : State :=
  if id = 1 then s.chmPop.chmSend (.mi 0 [s.mgmt.freq])
  else if id = 3 then s.chmPop.chmSend (.mi 0 [s.mgmt.unit])
  else s.forwardRx

/-- Configuration Set. -/
def State.configSet (s : State) (id v : Nat) : State :=
  if id = 1 then
    if 1 ≤ v ∧ v ≤ 3 then (s.chmPop.onMgmt (fun m => { m with freq := v })).chmSend (.mi 0 []) else s.chmPop.chmSend (.mi 4 [])
  else if id = 3 then
    if 64 ≤ v ∧ v ≤ 256 then (s.chmPop.onMgmt (fun m => { m with unit := v })).chmSend (.mi 0 []) else s.chmPop.chmSend (.mi 4 [])
  else s.forwardRx

/-- Base of the VPD area (R444). -/
def State.vpdBase (s : State) : Option Nat :=
  match s.directory with
  | none => none
  | some (_, b) => if (dirEntry b 8).size = 0 then none else some (65536 * (dirEntry b 8).base)

/-- A Safe Store access of the management core waits for the end of a dump (R443). -/
def State.vpdWaits (s : State) : Bool := s.fld R.BUF_DUMP_STATUS 1 0 == 1

/-- VPD Read. -/
def State.vpdRead (s : State) (ofs len : Nat) : State :=
  if s.vpdWaits then s
  else
    match s.vpdBase with
    | none => s.chmPop.chmSend (.mi 2 [])
    | some a =>
      if 512 < ofs + len then s.chmPop.chmSend (.mi 4 [])
      else s.chmPop.chmSend (.mi 0 ((s.ssBytes (a + ofs) len).map (fun x => x.toNat)))

/-- VPD Write: the area is erased and programmed with its new contents. -/
def State.vpdWrite (s : State) (ofs : Nat) (bytes : List Byte) : State :=
  if s.vpdWaits then s
  else
    match s.vpdBase with
    | none => s.chmPop.chmSend (.mi 2 [])
    | some a =>
      if 512 < ofs + bytes.length then s.chmPop.chmSend (.mi 4 [])
      else
        let b := overlay (s.ssBytes a 512) ofs bytes
        (((s.ssErase a 65536).ssProgram a b).chmPop).chmSend (.mi 0 [])

/-- NVMe-MI Reset of the subsystem type. -/
def State.miReset (s : State) : State :=
  if s.domOn 3 then (s.chmPop.chmSend (.mi 0 [])).subsystemReset else s.chmPop.chmSend (.mi 2 [])

/-! ### Vendor messages (R381) -/

/-- The vendor message is accepted in this life-cycle state. -/
def State.vdmOk (s : State) : Bool := s.lcState != 3 || s.bit R.CHM_CFG 8

/-- A vendor response. -/
def State.vdm (s : State) (sub status ofs len : Nat) (words : List Nat) : State := s.chmPop.chmSend (.vendor sub status ofs len words)

/-- Read words as the Chimney path, in ascending order. -/
def State.cwReads (s : State) : Nat → Nat → List Nat → State × List Nat
  | _, 0, l => (s, l)
  | off, n + 1, l =>
    let s := (s.cwAccess 3).readReg .mgmt (baseMgmt + off)
    State.cwReads s (off + 4) n (l ++ [s.lastRead.toNat])

/-- STATUS of a vendor write: the first write that the lock or BUSY turns away. -/
def State.cwWriteStatus (s : State) (off w : Nat) : Nat :=
  if cwGuarded off then (if s.cwLocked 3 then 3 else if s.cwBusy then 4 else 0)
  else if off = 0x20 ∧ w % 4 = 3 ∧ s.cwLocked 3 then 3
  else 0

/-- Write words as the Chimney path, in ascending order. -/
def State.cwWrites (s : State) : Nat → List Word → Nat → State × Nat
  | _, [], st => (s, st)
  | off, w :: r, st =>
    let st' := if st = 0 then s.cwWriteStatus off w.toNat else st
    State.cwWrites (s.cwWrite .mgmt off w.toNat) (off + 4) r st'

/-- OFS and LEN of a subtype lie in their range, in steps of 4. -/
def vdmRange (data : Bool) (ofs len : Nat) : Bool :=
  ofs % 4 == 0 && len % 4 == 0
    && (if data then decide (ofs + len ≤ 4096) else decide (len ≤ 64) && decide (ofs + len ≤ 0x58))

/-- REG_READ and DATA_READ. -/
def State.vdmRead (s : State) (sub : Nat) (data : Bool) (ofs len : Nat) : State :=
  if s.vdmOk = false then s.vdm sub 6 ofs len []
  else if vdmRange data ofs len = false then s.vdm sub 2 ofs len []
  else
    let r := s.cwReads (if data then 0x1000 + ofs else ofs) (len / 4) []
    r.1.vdm sub 0 ofs len r.2

/-- REG_WRITE and DATA_WRITE. -/
def State.vdmWrite (s : State) (sub : Nat) (data : Bool) (ofs len : Nat) (words : List Word) : State :=
  if s.vdmOk = false then s.vdm sub 6 ofs len []
  else if vdmRange data ofs len = false ∨ 4 * words.length ≠ len then s.vdm sub 2 ofs len []
  else
    let r := s.cwWrites (if data then 0x1000 + ofs else ofs) words 0
    r.1.vdm sub r.2 ofs len []

/-- MBOX: the payload is written to mailbox channel 14, which is rung. -/
def State.vdmMbox (s : State) (words : List Word) : State :=
  if s.vdmOk = false then s.vdm 5 6 0 64 []
  else if words.length ≠ 16 then s.vdm 5 2 0 64 []
  else if s.wounserUp = false then s.vdm 5 5 0 64 []
  else if s.mbRunning 14 ∨ s.mgmt.mboxWait then s.vdm 5 4 0 64 []
  else
    let s := (List.range 16).foldl (fun s k => s.setReg (R.MB_REQ 14 k) (words.getD k 0#32).toNat) s
    (s.mbRing .mgmt 14).chmPop.onMgmt (fun m => { m with mboxWait := true })

/-- Channel 14 reaches DONE or TIMEOUT. -/
def State.vdmMboxDone (s : State) : State :=
  let st := s.fld (R.MB_STAT 14) 1 0
  if s.mgmt.mboxWait ∧ 2 ≤ st then
    (s.onMgmt (fun m => { m with mboxWait := false })).chmSend (.vendor 5 0 0 64 ((List.range 16).map (fun k => s.rd (R.MB_RSP 14 k))))
  else s

/-! ### The management core's reset (R441, R442) -/

/-- Management core reset: Chimney's reassembly, its hold of the window, the grants of channel 14 (R369), the watchdog's EN. -/
def State.mgmtReset (s : State) : State :=
  let s := s.onMgmt (fun m => { m with asm := [], rx := [], mboxWait := false })
  let s := if s.cwLock = 3 then s.setReg R.CW_LOCK 0 else s
  (s.endChanGrants 14 6).setBit R.PWR_MWDOG_CFG 31 false

/-- The management core's watchdog expires. -/
def State.mwdogExpiry (s : State) : State :=
  if s.bit R.PWR_MWDOG_CFG 31 ∧ s.pwr.mwdogAt + 1000000 * s.pwr.mwdogTmo ≤ s.gtc then
    ((s.setBit R.PWR_RST_CAUSE 6 true).sendFault 178 kTIMEOUT 0).mgmtReset
  else s

/-! ### Commands -/

/-- MCTP_PACKET (R377). -/
def execMctpPacket (t : Nat) (pkt : MctpPacket) (s : State) : Res := .next ((s.at t).ifChm (fun s => s.mctpPacket pkt.bytes))

/-- SET_ENDPOINT_ID (R377). -/
def execSetEndpointId (t : Nat) (eid : BitVec 8) (s : State) : Res := .next ((s.at t).ifChm (fun s => s.chmPop.setEid eid.toNat))

/-- GET_ENDPOINT_ID (R377). -/
def execGetEndpointId (t : Nat) (s : State) : Res :=
  .next ((s.at t).ifChm (fun s => s.chmPop.chmSend (.control 2 0 [s.fld R.CHM_STATUS 15 8, 0, 0])))

/-- GET_ENDPOINT_UUID (R377). -/
def execGetEndpointUuid (t : Nat) (s : State) : Res :=
  .next ((s.at t).ifChm (fun s => s.chmPop.chmSend (.control 3 0 ((toBytes 16 Config.chmUuid.toNat).map (fun b => b.toNat)))))

/-- GET_MCTP_VERSION_SUPPORT (R377). -/
def execGetMctpVersionSupport (t : Nat) (s : State) : Res :=
  .next ((s.at t).ifChm (fun s =>
    s.chmPop.chmSend (.control 4 0 (Config.mctpVersions.length :: Config.mctpVersions.map (fun w => w.toNat)))))

/-- GET_MESSAGE_TYPE_SUPPORT (R377): NVMe-MI, and Vendor Defined - PCI. -/
def execGetMessageTypeSupport (t : Nat) (s : State) : Res :=
  .next ((s.at t).ifChm (fun s => s.chmPop.chmSend (.control 5 0 [2, 4, 0x7E])))

/-- READ_NVME_MI_DATA_STRUCTURE (R378): NVM subsystem and port information; the others go to drive firmware. -/
def execReadNvmeMiDataStructure (t : Nat) (dtyp : BitVec 8) (s : State) : Res :=
  .next ((s.at t).ifChm (fun s =>
    if dtyp.toNat ≤ 1 then s.chmPop.chmSend (.mi 0 ((Config.miData dtyp.toNat).map (fun b => b.toNat))) else s.forwardRx))

/-- NVM_SUBSYSTEM_HEALTH_STATUS_POLL (R379). -/
def execNvmSubsystemHealthStatusPoll (t : Nat) (s : State) : Res := .next ((s.at t).ifChm (fun s => s.chmPop.healthPoll))

/-- CONFIGURATION_GET (R378). -/
def execConfigurationGet (t : Nat) (id : BitVec 8) (s : State) : Res := .next ((s.at t).ifChm (fun s => s.configGet id.toNat))

/-- CONFIGURATION_SET (R378). -/
def execConfigurationSet (t : Nat) (id : BitVec 8) (v : Nat) (s : State) : Res :=
  .next ((s.at t).ifChm (fun s => s.configSet id.toNat v))

/-- VPD_READ (R378). -/
def execVpdRead (t : Nat) (ofs len : Nat) (s : State) : Res := .next ((s.at t).ifChm (fun s => s.vpdRead ofs len))

/-- VPD_WRITE (R378). -/
def execVpdWrite (t : Nat) (ofs : Nat) (bytes : List (BitVec 8)) (s : State) : Res :=
  .next ((s.at t).ifChm (fun s => s.vpdWrite ofs bytes))

/-- NVME_MI_RESET (R378). -/
def execNvmeMiReset (t : Nat) (s : State) : Res := .next ((s.at t).ifChm (fun s => s.miReset))

/-- FORWARD_REQUEST (R380). -/
def execForwardRequest (t : Nat) (bytes : List (BitVec 8)) (s : State) : Res :=
  .next ((s.at t).ifChm (fun s => s.chmPop.forward (bytes.take 4104)))

/-- FORWARD_RESPONSE (R380). -/
def execForwardResponse (t : Nat) (i : Initiator) (w : BitVec 32) (s : State) : Res :=
  .next ((s.at t).onReg i R.CHM_FWD_RLEN (fun s => s.fwdResponse w.toNat))

/-- MORE_PROCESSING_REQUIRED (R380). -/
def execMoreProcessingRequired (t : Nat) (s : State) : Res := .next ((s.at t).ifChm (fun s => s.fwdMore))

/-- FORWARD_TIMEOUT (R380). -/
def execForwardTimeout (t : Nat) (s : State) : Res := .next ((s.at t).ifChm (fun s => s.fwdTimeout))

/-- HEALTH_UPDATE (R379). -/
def execHealthUpdate (t : Nat) (i : Initiator) (w : BitVec 32) (s : State) : Res :=
  .next ((s.at t).onReg i R.CHM_HLTH0 (fun s => s.healthUpdate w.toNat))

/-- HEALTH_STALE (R379). -/
def execHealthStale (t : Nat) (s : State) : Res :=
  let s := s.at t
  .next (if s.pwr.mgmtUp && s.hlthLate then s.onMgmt (fun m => { m with fresh := false }) else s)

/-- REG_READ (R381). -/
def execRegRead (t : Nat) (ofs len : Nat) (s : State) : Res := .next ((s.at t).ifChm (fun s => s.vdmRead 1 false ofs len))

/-- REG_WRITE (R381). -/
def execRegWrite (t : Nat) (ofs len : Nat) (words : List (BitVec 32)) (s : State) : Res :=
  .next ((s.at t).ifChm (fun s => s.vdmWrite 2 false ofs len words))

/-- DATA_READ (R381). -/
def execDataRead (t : Nat) (ofs len : Nat) (s : State) : Res := .next ((s.at t).ifChm (fun s => s.vdmRead 3 true ofs len))

/-- DATA_WRITE (R381). -/
def execDataWrite (t : Nat) (ofs len : Nat) (words : List (BitVec 32)) (s : State) : Res :=
  .next ((s.at t).ifChm (fun s => s.vdmWrite 4 true ofs len words))

/-- MBOX (R381). -/
def execMbox (t : Nat) (words : List (BitVec 32)) (s : State) : Res := .next ((s.at t).ifChm (fun s => s.vdmMbox words))

/-- MBOX_RESPONSE (R381). -/
def execMboxResponse (t : Nat) (s : State) : Res := .next ((s.at t).ifChm (fun s => s.vdmMboxDone))

/-- SMBUS_TIMEOUT (R522): the device releases the bus; a transfer in part is no state of the part, since a packet arrives whole. -/
def execSmbusTimeout (t : Nat) (s : State) : Res := .next (s.at t)

/-- DYNAMIC_ADDRESS_ASSIGN (R376), on the I3C bus. -/
def execDynamicAddressAssign (t : Nat) (a : BitVec 7) (s : State) : Res :=
  .next ((s.at t).ifChm (fun s => if s.i3c then s.setFld R.CHM_STATUS 22 16 a.toNat else s))

/-- CW_LOCK (R382). -/
def execCwLock (t : Nat) (i : Initiator) (w : BitVec 32) (s : State) : Res := .next ((s.at t).cwWrite i 0x20 w.toNat)

/-- CW_LOCK_TIMEOUT (R382). -/
def execCwLockTimeout (t : Nat) (s : State) : Res := .next (s.at t).cwLockTimeout

/-- IDENTIFY (R385). -/
def execIdentify (t : Nat) (i : Initiator) (s : State) : Res := .next ((s.at t).cwWrite i 0 0x01)

/-- SS_READ (R385). -/
def execSsRead (t : Nat) (i : Initiator) (s : State) : Res := .next ((s.at t).cwWrite i 0 0x10)

/-- SS_WRITE (R385). -/
def execSsWrite (t : Nat) (i : Initiator) (s : State) : Res := .next ((s.at t).cwWrite i 0 0x11)

/-- SS_ERASE (R385). -/
def execSsErase (t : Nat) (i : Initiator) (s : State) : Res := .next ((s.at t).cwWrite i 0 0x12)

/-- IMG_STAGE (R385). -/
def execImgStage (t : Nat) (i : Initiator) (s : State) : Res := .next ((s.at t).cwWrite i 0 0x20)

/-- IMG_COMMIT (R385). -/
def execImgCommit (t : Nat) (i : Initiator) (s : State) : Res := .next ((s.at t).cwWrite i 0 0x21)

/-- PHYS_READ (R385). -/
def execPhysRead (t : Nat) (i : Initiator) (s : State) : Res := .next ((s.at t).cwWrite i 0 0x30)

/-- DRIVE_FIRMWARE_OPCODE (R386): opcodes 0x80 to 0xFF. -/
def execDriveFirmwareOpcode (t : Nat) (i : Initiator) (op : BitVec 8) (s : State) : Res :=
  .next (if 0x80 ≤ op.toNat then (s.at t).cwWrite i 0 op.toNat else s.at t)

/-- CW_COMPLETE (R383). -/
def execCwComplete (t : Nat) (ok : Bool) (res : BitVec 32) (bytes : List (BitVec 8)) (s : State) : Res :=
  .next ((s.at t).cwComplete ok res.toNat bytes)

/-- CW_TIMEOUT (R383). -/
def execCwTimeout (t : Nat) (s : State) : Res := .next (s.at t).cwTimeout

/-- CW_ABORT (R387). -/
def execCwAbort (t : Nat) (i : Initiator) (s : State) : Res := .next ((s.at t).cwWrite i 0x24 1)

/-- CW_SVC_ON (R385). -/
def execCwSvcOn (t : Nat) (i : Initiator) (s : State) : Res :=
  .next ((s.at t).onReg i R.CW_SVC (fun s => s.setBit R.CW_STATUS 6 true))

/-- CW_SVC_OFF (R388). -/
def execCwSvcOff (t : Nat) (i : Initiator) (s : State) : Res := .next ((s.at t).onReg i R.CW_SVC (fun s => s.cwSvcClear))

/-- CW_FW_DONE (R385). -/
def execCwFwDone (t : Nat) (i : Initiator) (w : BitVec 32) (s : State) : Res :=
  .next ((s.at t).onReg i R.CW_FW_DONE (fun s => s.cwFwDone w.toNat))

/-- MGMT (R441): PWR_RST_CTRL.MGMT. -/
def execMgmtReset (t : Nat) (i : Initiator) (s : State) : Res :=
  .next ((s.at t).onReg i R.PWR_RST_CTRL (fun s => if iniIsCc i ∨ iniIsApp i then s.mgmtReset else s))

/-- MWDOG_EXPIRY (R442). -/
def execMwdogExpiry (t : Nat) (s : State) : Res := .next (s.at t).mwdogExpiry

end Sys2Proof.Machine
end

