-- ==== Sys2Proof/Machine/Router.lean ====
section
/-! DEFINITION. The register commands: where an access of an initiator goes (R10, R11, R25 to R31, R433, R528 to R536), who may write
(R12, R26, R357, R366, R382), and what a write does when it reaches its block: the stored fields and the action of every register
whose write starts one (the register table of each block). -/

namespace Sys2Proof.Machine

open Sys2Proof

/-! ### Sources, grants, life-cycle states -/

/-- The source ID of a block's own messages (R533, R534). -/
def Blk.src (b : Blk) (n : Nat) : Nat :=
  match b with
  | .passh => 208
  | .passm => 592
  | .sump => 112
  | .pwr => 0
  | .atb => srcAtb n
  | .chan => srcChan n
  | .loop => srcLoop n
  | .act => srcLoop n
  | .le => 580
  | .spin => 528
  | .qeng => 16
  | .msch => 36 + n
  | .xfer => 36 + n
  | .buf => 32
  | .mapc => 48
  | .sqz => 72
  | .cryp => 80
  | .mbox => 96 + n
  | .mboxg => 96
  | .mgmt => 176
  | .flow => 128
  | .pmu => 149
  | .mtr => 144
  | .bv => 145 + n
  | .lcs => 160
  | .rope => 192
  | .ropem => 192

/-- The grant whose holder writes the RWG fields at an offset of a block (R365). -/
def grantAt (b : Blk) (n off : Nat) : Option Nat :=
  match b with
  | .loop => some n
  | .atb => some n
  | .act => some n
  | .chan => some (4 + n)
  | .spin => some 8
  | .sqz => if 0x100 ≤ off ∧ off < 0x110 then some (9 + (off - 0x100) / 4) else none
  | .pmu => some 29
  | .mapc => some 30
  | _ => none

/-- The block belongs to the function of grant `g` (R365). -/
def inFunction (g : Nat) (b : Blk) (n : Nat) : Bool :=
  match b with
  | .loop => g == n
  | .atb => g == n
  | .act => g == n
  | .chan => g == 4 + n
  | .spin => g == 8
  | .sqz => decide (9 ≤ g) && decide (g < 13)
  | .qeng => decide (13 ≤ g) && decide (g < 29)
  | .pmu => g == 29
  | .mapc => g == 30
  | _ => false

/-- The life-cycle states in which an RWL field is written (R280, R409, R467). -/
def rwlStates (b : Blk) (off : Nat) : List Nat :=
  match b with
  | .lcs => if off < 0x40 then [0] else [2]
  | _ => [1]

/-- The fields of a register where its row does not tell its words apart: region words (R146), equaliser words (R133), CHAIN of an
even counter (R430). -/
def fieldsAt (b : Blk) (off : Nat) (r : RegRow) : List Fld :=
  match b with
  | .loop =>
    if r.off = 0x100 then
      match off % 16 with
      | 0 => [⟨2, 0, .rwg, .any⟩, ⟨5, 3, .rwg, .any⟩, ⟨6, 6, .rwg, .any⟩, ⟨8, 7, .rwg, .range 0 2⟩, ⟨9, 9, .rwg, .any⟩,
              ⟨13, 10, .rwg, .any⟩, ⟨23, 16, .rwg, .range 1 255⟩]
      | 12 => [⟨15, 0, .rwg, .range 0 32767⟩, ⟨31, 16, .rwg, .range 0 32767⟩]
      | _ => r.fields
    else r.fields
  | .chan =>
    if r.off = 0x1000 then
      let j := off % 256 / 4
      if j = 0 then [⟨0, 0, .rwg, .any⟩]
      else if j < 50 then [⟨9, 0, .rwg, .any⟩, ⟨25, 16, .rwg, .any⟩]
      else if j < 58 then r.fields
      else []
    else r.fields
  | .pmu =>
    if r.off = 0x400 ∧ off % 8 = 0 then
      [⟨9, 0, .rwg, .any⟩, ⟨10, 10, .rwg, .any⟩, ⟨11, 11, .rwg, .range 0 0⟩, ⟨12, 12, .rwg, .any⟩]
    else r.fields
  | _ => r.fields

/-! ### What a write does at its block -/

/-- A write that has reached the block and may take effect. -/
structure RegWrite where
  ini : Initiator
  blk : Blk
  inst : Nat
  off : Nat
  addr : Nat
  row : RegRow
  data : Nat

/-- The source of the block. -/
def RegWrite.src (x : RegWrite) : Nat := x.blk.src x.inst

/-- The section of the block. -/
def RegWrite.sec (x : RegWrite) : Fin 4 := secOf x.inst

/-- A bit of the written word. -/
def RegWrite.has (x : RegWrite) (k : Nat) : Bool := bitOf x.data k

/-- Store the fields by their access codes (R12); a reserved encoding leaves its field and sends PROTOCOL (R16). -/
def State.store_ (s : State) (x : RegWrite) : State :=
  let p := applyFields (s.rd x.addr) x.data (fieldsAt x.blk x.off x.row)
  let s := s.setReg x.addr p.1
  if p.2 then s.protocol x.src 0 else s

/-- The write is discarded with PROTOCOL. -/
def State.refuse (s : State) (x : RegWrite) : State := s.protocol x.src 0

/-- Do `f` where a bit of the word is 1. -/
def RegWrite.if1 (x : RegWrite) (k : Nat) (f : State → State) (s : State) : State := if x.has k then f s else s

/-- PASSH and PASSM: RETRAIN (R36). -/
def State.wrPass (s : State) (x : RegWrite) : State :=
  if x.off = 4 then x.if1 0 (fun s => s.linkDown false false) s else s.store_ x

/-- SUMP_KIND_CFGk and SUMP_OVRi (R396, R397, R406): both copies take the value. -/
def State.wrKind (s : State) (x : RegWrite) (k : Nat) : State :=
  let p := kindWrite k (s.rd x.addr) x.data
  let s := s.setReg x.addr p.1
  let s := { s with sump := { s.sump with cfgDiff := spDel x.addr s.sump.cfgDiff } }
  if p.2 then s.refuse x else s

/-- SUMP_INJ (R409). -/
def State.wrInj (s : State) (x : RegWrite) : State :=
  let v := x.data
  let s := s.setReg R.SUMP_INJ (v % 65536)
  let s := x.if1 16 (fun s => s.injGo v) s
  let s := x.if1 17 (fun s => s.injPath) s
  x.if1 18 (fun s => s.cfgFlip (bitsOf v 15 10)) s

/-- SUMP (R410). -/
def State.wrSump (s : State) (x : RegWrite) : State :=
  match x.row.off with
  | 0x14 => x.if1 0 (fun s => s.msgPop x.ini) s
  | 0x24 =>
    let s := x.if1 0 State.errClr s
    let s := x.if1 1 (fun s => s.setBit R.SUMP_STATUS 1 false) s
    let s := x.if1 2 (fun s => s.setBit R.SUMP_STATUS 2 false) s
    x.if1 3 State.firstClr s
  | 0x100 =>
    let k := (x.off - 0x100) / 4
    if kindUsed k then s.wrKind x k else s
  | 0x200 =>
    let s := s.store_ x
    { s with sump := { s.sump with cfgDiff := spDel x.addr s.sump.cfgDiff } }
  | 0x204 => s.wrKind x 0
  | 0x300 => s.wrInj x
  | _ => s.store_ x

/-- PWR_RST_CTRL (R441, R452). -/
def State.wrRstCtrl (s : State) (x : RegWrite) : State :=
  let s := if x.has 0 ∧ iniIsCc x.ini then { s with sump := { s.sump with chipResetSw := true } } else s
  let s := [(0 : Fin 4), 1, 2, 3].foldl (fun s c => x.if1 (1 + c.val) (fun s => s.appCoreReset x.ini c) s) s
  x.if1 5 (fun s => s.mgmtReset) s

/-- PWR with the Safe Store ports (R432, R442, R452, R453). -/
def State.wrPwr (s : State) (x : RegWrite) : State :=
  match x.row.off with
  | 0x14 => s.wrRstCtrl x
  | 0x18 => s.writeWdog x.data
  | 0x1C => s.wdogKick x.data
  | 0x20 => s.writeMwdog x.data
  | 0x24 => s.mwdogKick x.data
  | 0x100 => s.domWrite x.ini ((x.off - 0x100) / 4) (x.has 0) (x.has 1)
  | 0x854 =>
    let p : Fin 3 := ⟨(x.off - 0x854) / 32 % 3, Nat.mod_lt _ (by decide)⟩
    if x.data % 4 = 0 then s.refuse x else s.ssCmd x.ini p (x.data % 4)
  | _ => s.store_ x

/-- ATB (R69). -/
def State.wrAtb (s : State) (x : RegWrite) : State :=
  match x.row.off with
  | 0x20 =>
    let k := (x.off - 0x20) / 4
    if k < 3 then s.stageWord x.sec (iniIdx x.ini) k (BitVec.ofNat 32 x.data)
    else s.eventCommit x.sec x.ini (BitVec.ofNat 32 x.data)
  | 0x34 => s.atbCancel x.sec x.ini x.data
  | 0xA0 => s.writeHeadOfs x.sec ((x.off - 0xA0) / 4) x.data
  | _ => s.store_ x

/-- CHAN (R132, R133). -/
def State.wrChan (s : State) (x : RegWrite) : State :=
  match x.row.off with
  | 0x10 => s.recStart x.sec x.data
  | 0x18 => s.sbufRelease x.sec x.data
  | 0xC0 =>
    let s := s.store_ x
    s.onChan x.sec (fun c => { c with sbufPos := s.fld x.addr 19 4 })
  | 0x1000 =>
    let s := s.store_ x
    let s := if x.off = 0x1000 then s.setBit x.addr 0 true else s
    if x.off < 0x1100 then s.onChan x.sec (fun c => { c with afeCopy := none }) else s
  | _ => s.store_ x

/-- CPL_COMMIT (R153, R158). -/
def State.cplCommit (s : State) : State := s.setBit R.LE_STATUS 4 true

/-- The shared loop block (R158). -/
def State.wrLe (s : State) (x : RegWrite) : State :=
  if x.off = 0x18 then x.if1 0 State.cplCommit s else s.store_ x

/-- ACTDRV (R185). -/
def State.wrAct (s : State) (x : RegWrite) : State :=
  match x.row.off with
  | 0x4 =>
    let s := x.if1 0 (fun s => s.park x.sec) s
    let s := x.if1 1 (fun s => s.ocClear x.sec) s
    x.if1 2 (fun s => s.haltGen x.sec) s
  | 0x90 => s.writeVmode x.sec x.data
  | 0xB0 => s.preCmd x.sec x.data
  | _ => s.store_ x

/-- CHOP_CLR as a register write: the level of SP_CHOP_FB, a pin, is a free value (log 12). -/
def State.chopClearPin (s : State) : State := s.useFree.chopClear (bitOf (Config.freeWord s.free).toNat 0)

/-- SPIN (R210): MAON keeps copies of the power-loss thresholds. -/
def State.wrSpin (s : State) (x : RegWrite) : State :=
  match x.row.off with
  | 0x4 => s.spinCmd (x.data % 8)
  | 0x8 =>
    let s := x.if1 0 State.chopClearPin s
    let s := x.if1 1 State.plDone s
    x.if1 2 State.faultClear s
  | 0xC => s.writeTgt x.data
  | 0x50 =>
    let s := s.store_ x
    { s with maon := { s.maon with th1 := s.reg x.addr } }
  | 0x54 =>
    let s := s.store_ x
    { s with maon := { s.maon with plCfg := s.reg x.addr } }
  | _ => s.store_ x

/-- A selected entry of QENG's tables takes a word (R236). -/
def State.wrTable (s : State) (x : RegWrite) (old : Nat) (put : Qeng → Word → Qeng) : State :=
  let p := applyFields old x.data x.row.fields
  let s := { s with qeng := put s.qeng (BitVec.ofNat 32 p.1) }
  if p.2 then s.refuse x else s

/-- QENG's staged words of an initiator (R224, R230). -/
def State.onQeng (s : State) (f : Qeng → Qeng) : State := { s with qeng := f s.qeng }

/-- QENG (R236). -/
def State.wrQeng (s : State) (x : RegWrite) : State :=
  match x.row.off with
  | 0x4 => ((s.store_ x).setPause .a (x.has 2)).setPause .b (x.has 3)
  | 0x8 => if s.ccEn .a ∨ s.ccEn .b then s.refuse x else s.store_ x
  | 0x44 => s.qcmd x.ini (x.data % 4)
  | 0x50 => if s.bit R.QENG_QSTAT 0 then s.refuse x else s.store_ x
  | 0x64 =>
    let g := s.fld R.QENG_GRP_SEL 11 0
    s.wrTable x (s.grpCfg g) (fun q w => { q with grp := spPut 0x04000001#32 q.grp g w })
  | 0x6C =>
    let k := s.fld R.QENG_NS_SEL 9 0
    s.wrTable x (s.nsCfg (k + 1)) (fun q w => { q with ns := spPut 0#32 q.ns k w })
  | 0x74 =>
    let v := s.fld R.QENG_IC_SEL 10 0
    let p : Port := if s.bit R.QENG_IC_SEL 11 then .b else .a
    s.wrTable x (s.icCfg p v) (fun q w => { q with ic := spPut 0#32 q.ic (2048 * (portNo p).val + v) w })
  | 0x80 =>
    match (x.off - 0x80) / 4 with
    | 0 => s.onQeng (fun q => { q with cpl0 := iniPut q.cpl0 x.ini x.data })
    | 1 => s.onQeng (fun q => { q with cpl1 := iniPut q.cpl1 x.ini x.data })
    | 2 => s.onQeng (fun q => { q with cpl2 := iniPut q.cpl2 x.ini x.data })
    | _ => s.postCpl x.ini x.data
  | 0x90 => s.onQeng (fun q => { q with abort0 := iniPut q.abort0 x.ini x.data })
  | 0x94 => s.abortLookup x.ini (x.data % 65536)
  | 0x9C => s.slotRelease (x.data % 1024)
  | _ => s.store_ x

/-- MSCH (R263). -/
def State.wrMsch (s : State) (x : RegWrite) : State :=
  match x.row.off with
  | 0x4 => s.writeMschCtrl x.sec x.data
  | 0x60 => s.mschCancel x.sec (x.data % 65536)
  | _ => s.store_ x

/-- BUF (R292). -/
def State.wrBuf (s : State) (x : RegWrite) : State :=
  match x.row.off with
  | 0xA0 =>
    let s := x.if1 2 State.fillStop s
    s.fillGo x.data
  | 0x210 => s.dtMark x.ini (x.data % 65536)
  | 0x214 => s.dtClean x.ini (x.data % 65536)
  | 0x228 =>
    let s := if x.has 0 then s.dumpArm else s.dumpDisarm
    x.if1 1 State.dumpTest s
  | 0x780 => s.initClr x.data
  | _ => s.store_ x

/-- MAPC (R311). -/
def State.wrMapc (s : State) (x : RegWrite) : State :=
  match x.row.off with
  | 0x4 =>
    let s := if x.has 0 then s.mapcEnable else s.mapcDisable
    if x.has 1 then s.pocketEnable else s.pocketDisable
  | 0x8 => s.mapcLock x.ini x.data
  | 0x1C => s.mapcCmd x.ini x.data
  | 0x30 => (s.store_ x).winCheck ((x.off - 0x30) / 8)
  | 0x34 => (s.store_ x).winCheck ((x.off - 0x34) / 8)
  | _ => s.store_ x

/-- A register of a job ring: its bases and sizes are written while STOPPED reads 1 (R335, R355). -/
def State.wrRing (s : State) (u : JU) (x : RegWrite) (n k : Nat) : State :=
  if k = jCFG then (s.store_ x).ringStop u n
  else if (k = 0 ∨ k = 4 ∨ k = jSIZE ∨ k = jCPLLO ∨ k = jCPLHI ∨ k = jCPLSIZE) ∧ s.bit (jreg u n jSTATUS) 1 = false then s.refuse x
  else s.store_ x

/-- SQZ (R335). -/
def State.wrSqz (s : State) (x : RegWrite) : State :=
  if x.off = 4 then (List.range 64).foldl (fun s n => s.ringStop .sqz n) (s.store_ x)
  else if 0x1000 ≤ x.off then s.wrRing .sqz x ((x.off - 0x1000) / 64) (x.off % 64)
  else s.store_ x

/-- CRYP_WK_CMD (R468). -/
def State.wrWkCmd (s : State) (x : RegWrite) : State :=
  match x.data % 4 with
  | 1 => s.wkLoad x.data
  | 2 => s.wkClear x.data
  | 3 => s.wkWrap x.data
  | _ => s.refuse x

/-- CRYP (R355, R468). -/
def State.wrCryp (s : State) (x : RegWrite) : State :=
  match x.row.off with
  | 0x10 => s.onCryp (fun c => { c with ksSel := iniPut c.ksSel x.ini (bitsOf x.data 11 0 + 65536 * bitsOf x.data 27 16) })
  | 0x14 =>
    let op := x.data % 8
    if 1 ≤ op ∧ op ≤ 4 then s.ksCommit x.ini op (bitsOf x.data 5 4) else s.refuse x
  | 0x40 =>
    s.onCryp (fun c => { c with ksBlob := iniPut c.ksBlob x.ini (spPut 0 (iniGet [] c.ksBlob x.ini) ((x.off - 0x40) / 4) x.data) })
  | 0x408 =>
    let s := x.if1 0 (fun s => s.onCryp (fun c => { c with rngCount := 0 })) s
    x.if1 1 State.rngTestStart s
  | 0x420 => s.wrWkCmd x
  | 0x428 => s.onCryp (fun c => { c with wkBlob := spPut 0 c.wkBlob ((x.off - 0x428) / 4) x.data })
  | _ => if 0x200 ≤ x.off ∧ x.off < 0x400 then s.wrRing .aes x ((x.off - 0x200) / 64) (x.off % 64) else s.store_ x

/-- A mailbox channel (R357, R374). -/
def State.wrMbox (s : State) (x : RegWrite) : State :=
  let ch : Fin 16 := ⟨x.inst % 16, Nat.mod_lt _ (by decide)⟩
  if x.off = 0x80 then x.if1 0 (fun s => s.mbRing x.ini ch) s else s.store_ x

/-- Drive firmware or Wounser serves the command whose data a write of CW_DATA belongs to (R383, R385). -/
def State.cwServes (s : State) (i : Initiator) : Bool :=
  s.cwBusy && (match i with
    | .app _ => s.mgmt.cwSlot.isSome
    | .cc => decide (s.fld R.CW_STATUS 15 8 < 0x80)
    | _ => false)

/-- MGMT (R382, R389). -/
def State.wrMgmt (s : State) (x : RegWrite) : State :=
  match x.row.who with
  | .path =>
    if pathCode x.ini ≠ 0 then s.cwWrite x.ini x.off x.data
    else if x.row.off = 0x1000 ∧ s.cwServes x.ini then s.store_ x
    else s
  | _ =>
    match x.row.off with
    | 0x44 =>
      let s := x.if1 0 (fun s => s.setBit R.CW_STATUS 6 true) s
      x.if1 1 State.cwSvcClear s
    | 0x50 => s.cwFwDone x.data
    | 0x2008 => s.healthUpdate x.data
    | 0x2024 => s.fwdResponse x.data
    | _ => s.store_ x

/-- A write of a word of the recorder's definitions or list makes it good again (R421). -/
def State.goodWord (s : State) (mem k : Nat) : State :=
  s.onFlow (fun f => { f with bad := f.bad.filter (fun p => p ≠ (mem, k)) })

/-- FLOW (R429). -/
def State.wrFlow (s : State) (x : RegWrite) : State :=
  match x.row.off with
  | 0x4 =>
    let s := s.store_ x
    let s := x.if1 1 State.flowClear s
    let s := x.if1 2 State.unsealStart s
    x.if1 3 State.lwClear s
  | 0x10 => s.flowSw (x.data % 64)
  | 0x1000 => (s.store_ x).goodWord 1 ((x.off - 0x1000) / 16)
  | 0x1004 =>
    let s := s.goodWord 1 ((x.off - 0x1000) / 16)
    if 120 < bitsOf x.data 22 16 ∨ 1024 < bitsOf x.data 9 0 + bitsOf x.data 22 16 then s.refuse x else s.store_ x
  | 0x2000 => (s.store_ x).goodWord 2 ((x.off - 0x2000) / 16)
  | _ => s.store_ x

/-- PMU (R430). -/
def State.wrPmu (s : State) (x : RegWrite) : State :=
  match x.row.off with
  | 0x4 =>
    let was := s.bit R.PMU_CTRL 2
    let s := s.store_ x
    if s.bit R.PMU_CTRL 2 && !was then s.onFlow (fun f => { f with dumpAt := s.gtc + 1000000 * s.fld R.PMU_DUMP_PERIOD 15 0 }) else s
  | 0x8 =>
    let s := x.if1 0 State.pmuSnap s
    x.if1 1 (fun s => s.setBit R.PMU_STATUS 2 false) s
  | _ => s.store_ x

/-- A bucket of the group that MTR_CAP_SEL selects (R349, R356). -/
def State.wrCap (s : State) (x : RegWrite) (k : Nat) : State :=
  let g := s.fld R.MTR_CAP_SEL 11 0
  let c := s.capOf g
  let v := x.data
  match k with
  | 0 => s.setCap g { c with rateCmd := v }
  | 1 => s.setCap g { c with burstCmd := v }
  | 2 => s.setCap g { c with rateKib := v }
  | 3 => s.setCap g { c with burstKib := v }
  | 4 => if 4000000 < v then s.refuse x else s.setCap g { c with rateAct := v }
  | _ => s.setCap g { c with burstAct := v }

/-- MTR (R356). -/
def State.wrMtr (s : State) (x : RegWrite) : State :=
  match x.row.off with
  | 0x4 => s.meterEnable (x.has 0)
  | 0x8 => s.originWrite x.data
  | 0x30 => s.onMtr (fun m => { m with chgSel := iniPut m.chgSel x.ini (x.data % 32768) })
  | 0x34 => s.meterCharge x.ini x.data
  | 0x104 => s.wrCap x ((x.off - 0x104) / 4)
  | _ => s.store_ x

/-- BV (R351, R356). -/
def State.wrBv (s : State) (x : RegWrite) : State :=
  if x.off = 0 then x.if1 1 (fun s => s.bvStart x.sec) (s.store_ x) else s.store_ x

/-- LCS_FUSE_CMD (R458, R467): a value of OP that R458 does not list is a reserved encoding. -/
def State.wrFuse (s : State) (x : RegWrite) : State :=
  match x.data % 8 with
  | 1 => s.progDevid
  | 2 => s.progOemkey (x.has 4)
  | 3 => s.revokeKey (bitsOf x.data 5 4)
  | 4 => s.advSvn x.ini (bitsOf x.data 9 8) (bitsOf x.data 21 16)
  | _ => s.refuse x

/-- LCS (R467). -/
def State.wrLcs (s : State) (x : RegWrite) : State := if x.off = 0x110 then s.wrFuse x else s.store_ x

/-- ROPE (R484). -/
def State.wrRope (s : State) (x : RegWrite) : State :=
  match x.row.off with
  | 0x4 => s.ropeCtrl x.data
  | 0x8 => x.if1 0 (fun s => s.ropeDown false) s
  | 0xC => s.hbKick x.data
  | 0x24 => s.ownReq x.data
  | 0x28 => x.if1 1 (fun s => s.setBit R.ROPE_STATUS 5 false) (s.store_ x)
  | 0x50 =>
    let k := (x.off - 0x50) / 4
    if k < 3 then s.onRope (fun r => { r with txw := spPut 0 r.txw k x.data }) else s.msgSend (BitVec.ofNat 32 x.data)
  | 0x70 => x.if1 0 (fun s => s.onRope (fun r => { r with rxq := r.rxq.drop 1 })) s
  | _ => s.store_ x

/-- The effect of a write that its block takes. -/
def State.regEffect (s : State) (x : RegWrite) : State :=
  match x.blk with
  | .passh => s.wrPass x
  | .passm => s.wrPass x
  | .sump => s.wrSump x
  | .pwr => s.wrPwr x
  | .atb => s.wrAtb x
  | .chan => s.wrChan x
  | .loop => s.store_ x
  | .le => s.wrLe x
  | .act => s.wrAct x
  | .spin => s.wrSpin x
  | .qeng => s.wrQeng x
  | .msch => s.wrMsch x
  | .xfer => s.store_ x
  | .buf => s.wrBuf x
  | .mapc => s.wrMapc x
  | .sqz => s.wrSqz x
  | .cryp => s.wrCryp x
  | .mbox => s.wrMbox x
  | .mboxg => s.store_ x
  | .mgmt => s.wrMgmt x
  | .flow => s.wrFlow x
  | .pmu => s.wrPmu x
  | .mtr => s.wrMtr x
  | .bv => s.wrBv x
  | .lcs => s.wrLcs x
  | .rope => s.wrRope x
  | .ropem => s.store_ x

/-! ### Who may write -/

/-- An application core holds the grant of the register (R12, R366). -/
def State.grantPasses (s : State) (x : RegWrite) : Bool :=
  match x.ini, grantAt x.blk x.inst x.off with
  | .cc, _ => true
  | .app c, some g => s.holder g == c.val + 1
  | _, _ => false

/-- What becomes of a write at its block: it takes effect; it is discarded with PROTOCOL; it is discarded without a message. -/
inductive Verdict where
  | take
  | refuse
  | ignore
deriving DecidableEq, Repr

/-- The checks of a write at its block: grant (R12, R366), life-cycle state (R12), owner of a channel (R357), requester class of a
Safe Store port (R453), the writers of the register's table (R26; log 7). -/
def State.verdict (s : State) (x : RegWrite) : Verdict :=
  let core : Bool := iniIsCc x.ini || iniIsApp x.ini
  if x.row.has .rwg ∧ core then (if s.grantPasses x then .take else .refuse)
  else if x.row.has .rwl ∧ core then (if (rwlStates x.blk x.off).contains s.lcState then .take else .refuse)
  else
    match x.row.who with
    | .mbox => if mbOwner ⟨x.inst % 16, Nat.mod_lt _ (by decide)⟩ x.ini then .take else .refuse
    | .ssPort => if ssOwner ⟨(x.off - 0x840) / 32 % 3, Nat.mod_lt _ (by decide)⟩ x.ini then .take else .ignore
    | w => if w.allows x.ini then .take else .ignore

/-- A write of a whole word reaches its block (R10 to R13, R433). -/
def State.regArrive (s : State) (i : Initiator) (a w : Nat) : State :=
  if s.addrOn a = false then s.protocol 0 0
  else
    match regAt a with
    | none => s
    | some (b, n, r, _) =>
      let x : RegWrite := ⟨i, b, n, offOf a, a, r, w⟩
      match s.verdict x with
      | .take => s.regEffect x
      | .refuse => s.refuse x
      | .ignore => s

/-! ### Where an access goes -/

/-- An initiator reaches an address: a host its part of BAR2 while its port serves it (R535), the peer channel 15 (R357). -/
def State.reaches (s : State) (i : Initiator) (a : Nat) : Bool :=
  let bar : Bool := match placeOf a with
    | .block .mgmt _ off => decide (off < 0x28) || (decide (0x40 ≤ off) && decide (off < 0x58)) || (decide (0x1000 ≤ off) && decide (off < 0x2000))
    | .block .mbox n off => (n == 12 || n == 13) && decide (off < 0x94)
    | _ => false
  match i with
  | .hostA => bar && s.hostOn .a
  | .hostB => bar && s.hostOn .b
  | .peer => (match placeOf a with
    | .block .mbox n _ => n == 15
    | _ => false)
  | _ => true

/-- An access of a core that ends with an access fault: no row of R528, or the Control Core's own SRAM (R528, R529). -/
def accessFaults (i : Initiator) (a : Nat) : Bool :=
  match placeOf a with
  | .hole => true
  | .ccSram => !iniIsCc i
  | _ => false

/-- A posted write to the M-die window leaves, or is discarded while the link is down (R31). Entry words of an event list travel in
a class of their own (R30). -/
def State.postWrite (s : State) (i : Initiator) (a w : Nat) : State :=
  if s.linkUp = false then s.sendFault 208 kTIMEOUT a
  else
    match regAt a with
    | some (.atb, _, r, _) =>
      if r.off = 0x20 then s.regArrive i a w
      else { s with pass := { s.pass with posted := s.pass.posted ++ [⟨i, a, BitVec.ofNat 32 w⟩] } }
    | _ => { s with pass := { s.pass with posted := s.pass.posted ++ [⟨i, a, BitVec.ofNat 32 w⟩] } }

/-- An access that is not performed, or a write that is too narrow (R10): PROTOCOL of the block. -/
def State.badAccess (s : State) (a : Nat) : State :=
  if inMWindow a ∧ s.linkUp = false then s.sendFault 208 kTIMEOUT a
  else if s.addrOn a = false then s.protocol 0 0
  else
    match placeOf a with
    | .block b n _ => s.protocol (b.src n) 0
    | _ => s.protocol 0 0

/-- A write of `nbytes` bytes to the block registers. -/
def State.regWrite (s : State) (i : Initiator) (a nbytes w : Nat) : State :=
  if inWord a nbytes = false ∨ nbytes ≠ 4 then s.badAccess a
  else if inMWindow a then s.postWrite i a w
  else s.regArrive i a w

/-- A write of an initiator to an internal address. -/
def State.busStore (s : State) (i : Initiator) (a nbytes : Nat) (data : Word) : State :=
  let bytes := toBytes (min nbytes 4) data.toNat
  match placeOf a with
  | .dram => (match i with
    | .app c => s.mapcAccess c a (.store bytes)
    | _ => s.memWrite i a bytes)
  | .sram => if s.domOn 5 then { s with sram := Memory.writeBytes unlistedByte s.sram (a - 0x20000000) bytes } else s.protocol 0 0
  | .ccSram => { s with ccSram := Memory.writeBytes unlistedByte s.ccSram (a - 0x10000000) bytes }
  | .bootRom => s
  | _ => s.regWrite i a nbytes data.toNat

/-- A read of `nbytes` bytes of a register at its block (R10): the addressed bytes of the word. -/
def State.regRead (s : State) (i : Initiator) (a nbytes : Nat) : State :=
  let s := s.readReg i (a / 4 * 4)
  let touched : Bool := match placeOf a with
    | .block .mgmt _ off => pathCode i != 0 && decide (off < 0x2000)
    | _ => false
  let s := if touched then s.cwAccess (pathCode i) else s
  { s with lastRead := BitVec.ofNat 32 (narrow s.lastRead.toNat a nbytes) }

/-- A read of block registers: split where it crosses Passage, 0 at once while the link is down (R31). -/
def State.busRegRead (s : State) (i : Initiator) (a nbytes : Nat) : State :=
  if inWord a nbytes = false then { s.badAccess a with lastRead := 0#32 }
  else if inMWindow a then
    if s.linkUp = false then { s.sendFault 208 kTIMEOUT (a / 4 * 4) with lastRead := 0#32 }
    else
      let behind := (s.pass.posted.filter (fun p => p.ini == i)).length
      { s with pass := { s.pass with splits := s.pass.splits ++ [⟨i, a, nbytes, s.gtc, behind, none⟩] } }
  else s.regRead i a nbytes

/-- A read of an initiator at an internal address. -/
def State.busLoad (s : State) (i : Initiator) (a nbytes : Nat) : State :=
  match placeOf a with
  | .dram => (match i with
    | .app c => s.mapcAccess c a (.load nbytes)
    | _ =>
      let r := s.memRead i a nbytes
      { r.st with lastData := r.bytes })
  | .sram =>
    if s.domOn 5 then { s with lastData := Memory.readBytes unlistedByte s.sram (a - 0x20000000) nbytes }
    else { s with lastData := List.replicate nbytes 0#8 }
  | .ccSram => { s with lastData := Memory.readBytes unlistedByte s.ccSram (a - 0x10000000) nbytes }
  | .bootRom => { s with lastData := (List.range nbytes).map (fun k => Config.bootRomByte (a + k)) }
  | _ => s.busRegRead i a nbytes

/-- A read as a command. -/
def State.readCmd (s : State) (i : Initiator) (a nbytes : Nat) : Res :=
  if s.reaches i a = false then .next { s with lastRead := 0#32 }
  else if accessFaults i a then .fault (.access a)
  else .next (s.busLoad i a nbytes)

/-! ### Posted writes and split reads (R31) -/

/-- A split read whose posted writes have all taken effect takes the register's value. -/
def State.sample (s : State) (r : SplitRead) : State × SplitRead :=
  if r.behind = 0 ∧ r.val.isNone then
    let t := s.regRead r.ini r.addr r.nbytes
    ({ t with lastRead := s.lastRead }, { r with val := some t.lastRead })
  else (s, r)

/-- Every split read of an initiator that waits for no posted write takes its value. -/
def State.sampleAll (s : State) (i : Initiator) : List SplitRead → State × List SplitRead
  | [] => (s, [])
  | r :: l =>
    let p := if r.ini = i then s.sample r else (s, r)
    let q := State.sampleAll p.1 i l
    (q.1, p.2 :: q.2)

/-- The oldest posted write of an initiator, and the rest. -/
def takePosted (i : Initiator) : List PostedWrite → Option (PostedWrite × List PostedWrite)
  | [] => none
  | p :: l => if p.ini = i then some (p, l) else (takePosted i l).map (fun q => (q.1, p :: q.2))

/-- The oldest posted write of an initiator takes effect; the reads behind it come one nearer. -/
def State.deliverWrite (s : State) (i : Initiator) : State :=
  match takePosted i s.pass.posted with
  | none => s
  | some (p, rest) =>
    let q := s.sampleAll i s.pass.splits
    let splits := q.2.map (fun r => if r.ini = i then { r with behind := r.behind - 1 } else r)
    let pass := { q.1.pass with
      posted := rest
      splits := splits }
    ({ q.1 with pass := pass }).regArrive i p.addr p.data.toNat

/-- Every posted write of an initiator takes effect, oldest first. -/
def State.deliverAll (s : State) (i : Initiator) : Nat → State
  | 0 => s
  | k + 1 => State.deliverAll (s.deliverWrite i) i k

/-- The oldest split read of an initiator is answered. -/
def State.readResponse (s : State) (i : Initiator) : State :=
  match takeSplit i s.pass.splits with
  | none => s
  | some (r, rest) =>
    if r.behind ≠ 0 then s
    else
      let q := s.sample r
      let pass := { q.1.pass with splits := rest }
      { q.1 with
        pass := pass
        lastRead := q.2.val.getD 0#32 }

/-! ### XRW (R364, R366) -/

/-- The address of request words 2 and 3. -/
def State.xrwAddr (s : State) (ch : Fin 16) : Nat := s.mbAddr ch 2

/-- XRW asks for a write. -/
def State.xrwWrites (s : State) (ch : Fin 16) : Bool := bitOf (s.mbReq ch 1) 8

/-- DENIED: the address lies outside the function's block, or a write outside its RWG fields. -/
def State.xrwDenied (ch : Fin 16) (s : State) : Bool :=
  match s.mbGrant ch with
  | none => false
  | some g =>
    let a := s.xrwAddr ch
    match placeOf a with
    | .block b n off =>
      let rwg : Bool := match regAt a with
        | some (_, _, r, _) => r.has .rwg && grantAt b n off == some g.val
        | none => false
      !(inFunction g b n) || (s.xrwWrites ch && !rwg)
    | _ => true

/-- The caller holds the grant of the function named. -/
def State.xrwLevel (ch : Fin 16) (s : State) : Bool :=
  match s.mbGrant ch with
  | none => true
  | some g => s.callerHolds ch g

/-- The bytes of a word that a byte-lane mask names, over another word. -/
def lanes (mask old new : Nat) : Nat :=
  (List.range 4).foldl (fun x k => if bitOf mask k then putBits x (8 * k + 7) (8 * k) (bitsOf new (8 * k + 7) (8 * k)) else x) old

/-- Wounser reads a register as the Control Core, its own posted writes before it. -/
def State.ccRead (s : State) (a : Nat) : State × Nat :=
  if inMWindow a ∧ s.linkUp = false then (s.sendFault 208 kTIMEOUT a, 0)
  else
    let t := (s.deliverAll .cc s.pass.posted.length).regRead .cc a 4
    ({ t with lastRead := s.lastRead }, t.lastRead.toNat)

/-- Wounser writes a register as the Control Core. -/
def State.ccWrite (s : State) (a w : Nat) : State :=
  if inMWindow a ∧ s.linkUp = false then s.sendFault 208 kTIMEOUT a
  else (s.deliverAll .cc s.pass.posted.length).regArrive .cc a w

/-- XRW. -/
def State.cmdXrw (s : State) (ch : Fin 16) : State :=
  match s.mbGrant ch with
  | none => s.mbReply ch mbBADPARAM []
  | some _ =>
    let a := s.xrwAddr ch
    if a % 4 ≠ 0 then s.mbReply ch mbBADPARAM []
    else if s.xrwWrites ch then
      let s := s.ccWrite a (lanes (s.mbReq ch 5 % 16) (s.peek .cc a) (s.mbReq ch 4))
      let r := s.ccRead a
      r.1.mbReply ch mbOK [r.2]
    else
      let r := s.ccRead a
      r.1.mbReply ch mbOK [r.2]

/-! ### Commands -/

/-- REGISTER_WRITE (R12). -/
def execRegisterWrite (t : Nat) (i : Initiator) (addr nbytes : Nat) (data : BitVec 32) (s : State) : Res :=
  let s := s.at t
  if s.reaches i addr = false then .next s
  else if accessFaults i addr then .fault (.access addr)
  else .next (s.busStore i addr nbytes data)

/-- REGISTER_READ_CLEAR (R12). -/
def execRegisterReadClear (t : Nat) (i : Initiator) (addr nbytes : Nat) (s : State) : Res := (s.at t).readCmd i addr nbytes

/-- LO_READ (R15). -/
def execLoRead (t : Nat) (i : Initiator) (addr : Nat) (s : State) : Res := (s.at t).readCmd i addr 4

/-- UNALIGNED_ACCESS (R10): an access to registers that straddles an aligned word. -/
def execUnalignedAccess (t : Nat) (i : Initiator) (addr nbytes : Nat) (isWrite : Bool) (s : State) : Res :=
  let s := s.at t
  if s.reaches i addr = false then .next s
  else if accessFaults i addr then .fault (.access addr)
  else
    match placeOf addr with
    | .block _ _ _ =>
      if inWord addr nbytes then .next s
      else
        let u := s.badAccess addr
        .next (if isWrite then u else { u with lastRead := 0#32 })
    | _ => .next s

/-- PASSAGE_WRITE_DELIVER (R31). -/
def execPassageWriteDeliver (t : Nat) (i : Initiator) (s : State) : Res :=
  let s := s.at t
  .next (if s.linkUp then s.deliverWrite i else s)

/-- PASSAGE_READ_RESPONSE (R31). -/
def execPassageReadResponse (t : Nat) (i : Initiator) (s : State) : Res :=
  let s := s.at t
  .next (if s.linkUp then s.readResponse i else s)

/-- ATB_CANCEL (R62). -/
def execAtbCancel (t : Nat) (i : Initiator) (n : Fin 4) (w : BitVec 32) (s : State) : Res :=
  .next ((s.at t).onReg i (R.ATB_CANCEL n) (fun s => s.atbCancel n i w.toNat))

/-- ATB_HEAD_OFS_WRITE (R51), with the grant check of R12. -/
def execAtbHeadOfsWrite (t : Nat) (i : Initiator) (n : Fin 4) (h : Fin 8) (data : BitVec 32) (s : State) : Res :=
  let s := s.at t
  let a := R.ATB_HEAD_OFS n h
  .next (if s.linkUp = false then s.sendFault 208 kTIMEOUT a else s.regArrive i a data.toNat)

/-- REC_START (R122). -/
def execRecStart (t : Nat) (i : Initiator) (n : Fin 4) (w : BitVec 32) (s : State) : Res :=
  .next ((s.at t).onReg i (R.CH_REC_CMD n) (fun s => s.recStart n w.toNat))

/-- SBUF_RELEASE (R129). -/
def execSbufRelease (t : Nat) (i : Initiator) (n : Fin 4) (w : BitVec 32) (s : State) : Res :=
  .next ((s.at t).onReg i (R.CH_SBUF_REL n) (fun s => s.sbufRelease n w.toNat))

/-- SBUF_DATA_READ (R132), with R31 and R433 for its register. -/
def execSbufDataRead (t : Nat) (_i : Initiator) (n : Fin 4) (s : State) : Res :=
  let s := s.at t
  .next (if s.linkUp = false then { s.sendFault 208 kTIMEOUT (R.CH_SBUF_DATA n) with lastRead := 0#32 }
    else if s.domOn (16 + n) then s.sbufDataRead n
    else { s with lastRead := 0#32 })

/-- CPL_COMMIT (R153). -/
def execCplCommit (t : Nat) (i : Initiator) (s : State) : Res := .next ((s.at t).onReg i R.LE_CTRL State.cplCommit)

/-- XRW (R366). -/
def execXrw (t : Nat) (ch : Fin 16) (s : State) : Res :=
  .next ((s.at t).mbServe ch 0x45 (State.xrwDenied ch) (State.xrwLevel ch) (fun s => s.cmdXrw ch))

end Sys2Proof.Machine
end

