-- ==== Sys2Proof/Machine/Transfer.lean ====
section
/-! DEFINITION. Host transfers of the data mover (R229, R249, R264): transfer rings and their completions. -/

namespace Sys2Proof.Machine

open Sys2Proof

/-- A transfer descriptor (R249). -/
structure Xfer where
  slot : Nat
  toHost : Bool
  isMeta : Bool
  tag : Nat
  sect : Nat
  count : Nat
  data : Nat
  side : Nat
deriving DecidableEq, Repr

/-- Read a descriptor of 32 bytes. -/
def parseXfer (b : List Byte) : Xfer :=
  let w (k : Nat) : Nat := wordAt b (4 * k)
  ⟨bitsOf (w 0) 9 0, bitOf (w 0) 10, bitOf (w 0) 11, bitsOf (w 0) 31 16, bitsOf (w 1) 15 0, bitsOf (w 1) 31 16,
   dwordAt b 8, dwordAt b 16⟩

/-- Metadata bytes of a block in the namespace's logical block format (R236). -/
def State.metaLen (s : State) (nsid : Nat) : Nat := 8 * bitsOf (s.nsCfg nsid) 3 2

/-- Blocks arrive from the host: data and HMD are stored, RCV is set, meter 2 is charged (R241, R249, R344). -/
def State.xferIn (s : State) (x : Xfer) (group : Nat) : Nat → List HostBlock → State
  | _, [] => s
  | k, b :: r =>
    let s := s.busWrite (x.data + 4096 * k) (b.bytes.take 4096)
    let s := if x.isMeta then s.busWrite (x.side + 32 * k) ((b.bytes.drop 4096).take 16) else s
    let s := (s.busWrite (x.side + 32 * k + 31) [1#8]).chargeBlocks group 2 1
    State.xferIn s x group (k + 1) r

/-- What moving blocks to the host gives: the state, and the block that met the error indication. -/
structure XferOut where
  st : State
  bad : Option Nat

/-- Blocks `k` on, `left` of them, move to the host; a read that meets the error indication sets EP and ends the transfer (R273). -/
def State.xferOut (s : State) (x : Xfer) (p : Port) (group mlen : Nat) : Nat → Nat → XferOut
  | _, 0 => ⟨s, none⟩
  | k, left + 1 =>
    let d := s.busRead 5 (x.data + 4096 * k) 4096
    let m := if x.isMeta then d.st.busRead 5 (x.side + 32 * k) (min 16 mlen) else ⟨d.st, [], false⟩
    let s := m.st.sendHost (.data p x.slot (x.sect + k) (d.bytes ++ m.bytes) (d.err || m.err))
    if d.err ∨ m.err then ⟨s, some k⟩
    else State.xferOut (s.chargeBlocks group 1 1) x p group mlen (k + 1) left

/-- TRANSFER_COMPLETE: the transfer at the head of core c's ring ends (R249). `status`: what the host side gave it, with the
index of the first failing block; `blocks`: the blocks that arrived (DIR 0; log 18). A slot that a reset discarded or an
abort lookup aborted ends the transfer DISCARDED or ABORTED after the sector in progress (R230, R233). The transfer waits
while its completion ring is full (log 40). -/
def State.transferComplete (s : State) (c : Nat) (status bad : Nat) (blocks : List HostBlock) : State :=
  let size := s.rd (R.MSCH_XQ_SIZE c)
  let cons := s.rd (R.MSCH_XQ_CONS c) % size
  let cprod := s.rd (R.MSCH_XC_PROD c)
  if s.domOn 7 = false ∨ s.domOn 3 = false ∨ cons = s.rd (R.MSCH_XQ_PROD c) % size
      ∨ ringFull cprod (s.rd (R.MSCH_XC_CONS c)) (s.rd (R.MSCH_XC_SIZE c)) then s
  else
    let r := s.busRead 5 (s.rd64 (R.MSCH_XQ_BASE_LO c) (R.MSCH_XQ_BASE_HI c) + 32 * cons) 32
    let x := parseXfer r.bytes
    let s := r.st.setReg (R.MSCH_XQ_CONS c) (ringNext cons size)
    let slot : Option CmdSlot := s.slot? x.slot
    let short := !x.toHost && status == 0 && decide (blocks.length < x.count)
    let group := match slot with
      | some k => k.group
      | none => 0
    let port := match slot with
      | some k => k.port
      | none => .a
    let mlen := match slot with
      | some k => s.metaLen k.nsid
      | none => 0
    let ended := match slot with
      | some k => if k.fate = CmdFate.discarded then some 6 else if k.fate = CmdFate.aborted then some 7 else none
      | none => none
    let good := status = 0 && ended.isNone
    let count := if good then x.count else min bad x.count
    let out : XferOut :=
      if x.toHost then s.xferOut x port group mlen 0 count
      else ⟨s.xferIn x group 0 (blocks.take count), none⟩
    let status := if out.bad.isSome then 5 else ended.getD (if short then 5 else status % 16)
    let bad := out.bad.getD (if status = 0 then 0 else if short then blocks.length else min bad x.count)
    out.st.ringWrite (R.MSCH_XC_BASE_LO c) (R.MSCH_XC_BASE_HI c) (R.MSCH_XC_SIZE c) (R.MSCH_XC_PROD c)
      (wordsToBytes [x.tag + 65536 * status, bad, out.st.gtc % 2 ^ 32, out.st.gtc / 2 ^ 32]) 16

/-- TRANSFER_SUBMIT (R249): a write of MSCH_XQ_PROD. -/
def execTransferSubmit (t : Nat) (i : Initiator) (c : Fin 4) (w : BitVec 32) (s : State) : Res :=
  .next ((s.at t).onReg i (R.MSCH_XQ_PROD c) (fun s => s.setReg (R.MSCH_XQ_PROD c) w.toNat))

/-- TRANSFER_COMPLETE (R249). -/
def execTransferComplete (t : Nat) (c : Fin 4) (status : BitVec 4) (bad : Nat) (blocks : List HostBlock) (s : State) : Res :=
  .next ((s.at t).transferComplete c status.toNat bad blocks)

end Sys2Proof.Machine
end

