-- ==== Sys2Proof/Machine/Dispatch.lean ====
section
/-! DEFINITION. One arm per command: the call of its meaning. -/

namespace Sys2Proof.Machine

open Sys2Proof

/-- The effect of a command on everything but the queue. -/
def exec (cmd : Instr) (s : State) : Host.Outcome State Fault Refusal :=
  match cmd with
  | .registerWrite t i addr nbytes data => Sys2Proof.Machine.execRegisterWrite t i addr nbytes data s
  | .registerReadClear t i addr nbytes => Sys2Proof.Machine.execRegisterReadClear t i addr nbytes s
  | .loRead t i addr => Sys2Proof.Machine.execLoRead t i addr s
  | .unalignedAccess t i addr nbytes isWrite => Sys2Proof.Machine.execUnalignedAccess t i addr nbytes isWrite s
  | .passageFlitReceive t side flit => Sys2Proof.Machine.execPassageFlitReceive t side flit s
  | .passageLaneLockLoss t side lane => Sys2Proof.Machine.execPassageLaneLockLoss t side lane s
  | .passageLinkUp t => Sys2Proof.Machine.execPassageLinkUp t s
  | .passageIsolation t => Sys2Proof.Machine.execPassageIsolation t s
  | .retrain t i => Sys2Proof.Machine.execRetrain t i s
  | .passageWriteDeliver t i => Sys2Proof.Machine.execPassageWriteDeliver t i s
  | .passageReadResponse t i => Sys2Proof.Machine.execPassageReadResponse t i s
  | .splitReadTimeout t i => Sys2Proof.Machine.execSplitReadTimeout t i s
  | .eventCommit t i n w3 => Sys2Proof.Machine.execEventCommit t i n w3 s
  | .eventInsert t n ang => Sys2Proof.Machine.execEventInsert t n ang s
  | .atbCancel t i n w => Sys2Proof.Machine.execAtbCancel t i n w s
  | .marker t n => Sys2Proof.Machine.execMarker t n s
  | .rdOn t n => Sys2Proof.Machine.execRdOn t n s
  | .rdOff t n => Sys2Proof.Machine.execRdOff t n s
  | .wrOn t n => Sys2Proof.Machine.execWrOn t n s
  | .wrOff t n => Sys2Proof.Machine.execWrOff t n s
  | .fmark t n => Sys2Proof.Machine.execFmark t n s
  | .servoWin t n => Sys2Proof.Machine.execServoWin t n s
  | .assist t n => Sys2Proof.Machine.execAssist t n s
  | .snapshot t n => Sys2Proof.Machine.execSnapshot t n s
  | .headSw t n => Sys2Proof.Machine.execHeadSw t n s
  | .setpoint t n => Sys2Proof.Machine.execSetpoint t n s
  | .loopMode t n => Sys2Proof.Machine.execLoopMode t n s
  | .microjog t n => Sys2Proof.Machine.execMicrojog t n s
  | .completionRecordDeliver t n dest => Sys2Proof.Machine.execCompletionRecordDeliver t n dest s
  | .atbHeadOfsWrite t i n h data => Sys2Proof.Machine.execAtbHeadOfsWrite t i n h data s
  | .wedgeResult t n ang samf word gray bursts => Sys2Proof.Machine.execWedgeResult t n ang samf word gray bursts s
  | .ledgeLock t n => Sys2Proof.Machine.execLedgeLock t n s
  | .holdoverTimeout t n => Sys2Proof.Machine.execHoldoverTimeout t n s
  | .positionSample t n ang a b => Sys2Proof.Machine.execPositionSample t n ang a b s
  | .codewordArrive t n scores => Sys2Proof.Machine.execCodewordArrive t n scores s
  | .decoderIteration t n conv info => Sys2Proof.Machine.execDecoderIteration t n conv info s
  | .fragmentEnd t n scores => Sys2Proof.Machine.execFragmentEnd t n scores s
  | .writeMarkTimeout t n => Sys2Proof.Machine.execWriteMarkTimeout t n s
  | .writeBlockArrive t n => Sys2Proof.Machine.execWriteBlockArrive t n s
  | .recStart t i n w => Sys2Proof.Machine.execRecStart t i n w s
  | .recMediaRead t n status scores0 scores1 => Sys2Proof.Machine.execRecMediaRead t n status scores0 scores1 s
  | .recDecodeDone t n conv iters info => Sys2Proof.Machine.execRecDecodeDone t n conv iters info s
  | .sbufRelease t i n w => Sys2Proof.Machine.execSbufRelease t i n w s
  | .sbufDataRead t i n => Sys2Proof.Machine.execSbufDataRead t i n s
  | .loopSample t miss uncorr => Sys2Proof.Machine.execLoopSample t miss uncorr s
  | .cplCommit t i => Sys2Proof.Machine.execCplCommit t i s
  | .vcmPwmPeriod t n isns va vb => Sys2Proof.Machine.execVcmPwmPeriod t n isns va vb s
  | .park t i n => Sys2Proof.Machine.execPark t i n s
  | .retractParkCurrent t n => Sys2Proof.Machine.execRetractParkCurrent t n s
  | .retractEnd t n => Sys2Proof.Machine.execRetractEnd t n s
  | .ocClr t i n => Sys2Proof.Machine.execOcClr t i n s
  | .halt t i n => Sys2Proof.Machine.execHalt t i n s
  | .preCmd t i n w => Sys2Proof.Machine.execPreCmd t i n w s
  | .preampFrameEnd t n data => Sys2Proof.Machine.execPreampFrameEnd t n data s
  | .preampFault t n => Sys2Proof.Machine.execPreampFault t n s
  | .shock t n mv => Sys2Proof.Machine.execShock t n mv s
  | .shockHoldEnd t n => Sys2Proof.Machine.execShockHoldEnd t n s
  | .spinControlCycle t cu cv cw vbus => Sys2Proof.Machine.execSpinControlCycle t cu cv cw vbus s
  | .encoderEdge t a b => Sys2Proof.Machine.execEncoderEdge t a b s
  | .encIdx t => Sys2Proof.Machine.execEncIdx t s
  | .encoderTimeout t => Sys2Proof.Machine.execEncoderTimeout t s
  | .start t i => Sys2Proof.Machine.execStart t i s
  | .stop t i => Sys2Proof.Machine.execStop t i s
  | .coast t i => Sys2Proof.Machine.execCoast t i s
  | .assessProbe t cu cv cw => Sys2Proof.Machine.execAssessProbe t cu cv cw s
  | .assessEnd t => Sys2Proof.Machine.execAssessEnd t s
  | .alignEnd t => Sys2Proof.Machine.execAlignEnd t s
  | .spTgtWrite t i w => Sys2Proof.Machine.execSpTgtWrite t i w s
  | .vbusThreshold t vbus => Sys2Proof.Machine.execVbusThreshold t vbus s
  | .chopperFault t => Sys2Proof.Machine.execChopperFault t s
  | .chopClr t i fb => Sys2Proof.Machine.execChopClr t i fb s
  | .plDone t i => Sys2Proof.Machine.execPlDone t i s
  | .faultClr t i => Sys2Proof.Machine.execFaultClr t i s
  | .powerLoss t => Sys2Proof.Machine.execPowerLoss t s
  | .plTmaxExpiry t => Sys2Proof.Machine.execPlTmaxExpiry t s
  | .conventionalReset t p => Sys2Proof.Machine.execConventionalReset t p s
  | .functionLevelReset t p => Sys2Proof.Machine.execFunctionLevelReset t p s
  | .controllerEnable t p cc aqa asq acq => Sys2Proof.Machine.execControllerEnable t p cc aqa asq acq s
  | .controllerReset t p => Sys2Proof.Machine.execControllerReset t p s
  | .nvmSubsystemReset t p w => Sys2Proof.Machine.execNvmSubsystemReset t p w s
  | .shutdownNotification t p shn => Sys2Proof.Machine.execShutdownNotification t p shn s
  | .doorbellWrite t p off nbytes w => Sys2Proof.Machine.execDoorbellWrite t p off nbytes w s
  | .queueCreate t i => Sys2Proof.Machine.execQueueCreate t i s
  | .queueDelete t i => Sys2Proof.Machine.execQueueDelete t i s
  | .queueRead t i => Sys2Proof.Machine.execQueueRead t i s
  | .fetchDecision t p => Sys2Proof.Machine.execFetchDecision t p s
  | .sqFetchComplete t p ok entries => Sys2Proof.Machine.execSqFetchComplete t p ok entries s
  | .dispatchRecord t c => Sys2Proof.Machine.execDispatchRecord t c s
  | .completionPost t i w3 => Sys2Proof.Machine.execCompletionPost t i w3 s
  | .completionCommit t slot => Sys2Proof.Machine.execCompletionCommit t slot s
  | .interruptCoalescingTimeout t p v => Sys2Proof.Machine.execInterruptCoalescingTimeout t p v s
  | .msixUnmask t p v => Sys2Proof.Machine.execMsixUnmask t p v s
  | .abortLookup t i w => Sys2Proof.Machine.execAbortLookup t i w s
  | .slotRelease t i w => Sys2Proof.Machine.execSlotRelease t i w s
  | .pause t i p on => Sys2Proof.Machine.execPause t i p on s
  | .fetchQuiesced t p => Sys2Proof.Machine.execFetchQuiesced t p s
  | .hold t i on => Sys2Proof.Machine.execHold t i on s
  | .qengDberrPop t i => Sys2Proof.Machine.execQengDberrPop t i s
  | .transferSubmit t i c w => Sys2Proof.Machine.execTransferSubmit t i c w s
  | .transferComplete t c status bad blocks => Sys2Proof.Machine.execTransferComplete t c status bad blocks s
  | .opSubmit t i n w => Sys2Proof.Machine.execOpSubmit t i n w s
  | .opTake t n => Sys2Proof.Machine.execOpTake t n s
  | .opSelect t n ang => Sys2Proof.Machine.execOpSelect t n ang s
  | .positioningTimeout t n => Sys2Proof.Machine.execPositioningTimeout t n s
  | .schedulerEventLoad t n ang => Sys2Proof.Machine.execSchedulerEventLoad t n ang s
  | .schedulerRecord t n => Sys2Proof.Machine.execSchedulerRecord t n s
  | .opComplete t n => Sys2Proof.Machine.execOpComplete t n s
  | .mschCancel t i n w => Sys2Proof.Machine.execMschCancel t i n w s
  | .quiet t n => Sys2Proof.Machine.execQuiet t n s
  | .schedulerLinkRecover t n => Sys2Proof.Machine.execSchedulerLinkRecover t n s
  | .mediaDmaReadBlock t n => Sys2Proof.Machine.execMediaDmaReadBlock t n s
  | .mediaDmaWriteBlock t n => Sys2Proof.Machine.execMediaDmaWriteBlock t n s
  | .mergeWrite t i addr bytes => Sys2Proof.Machine.execMergeWrite t i addr bytes s
  | .ceWriteBack t => Sys2Proof.Machine.execCeWriteBack t s
  | .fillGo t i w => Sys2Proof.Machine.execFillGo t i w s
  | .fillAbort t i => Sys2Proof.Machine.execFillAbort t i s
  | .fillDone t => Sys2Proof.Machine.execFillDone t s
  | .scrubRead t => Sys2Proof.Machine.execScrubRead t s
  | .initSet t i k w => Sys2Proof.Machine.execInitSet t i k w s
  | .initClr t i w => Sys2Proof.Machine.execInitClr t i w s
  | .dtMark t i w => Sys2Proof.Machine.execDtMark t i w s
  | .dtClean t i w => Sys2Proof.Machine.execDtClean t i w s
  | .dumpArm t i => Sys2Proof.Machine.execDumpArm t i s
  | .dumpDisarm t i => Sys2Proof.Machine.execDumpDisarm t i s
  | .test t i => Sys2Proof.Machine.execTest t i s
  | .dumpStart t => Sys2Proof.Machine.execDumpStart t s
  | .dumpDone t => Sys2Proof.Machine.execDumpDone t s
  | .dumpError t => Sys2Proof.Machine.execDumpError t s
  | .mapcAccess t c addr op => Sys2Proof.Machine.execMapcAccess t c addr op s
  | .mapcFillComplete t => Sys2Proof.Machine.execMapcFillComplete t s
  | .clean t i => Sys2Proof.Machine.execClean t i s
  | .inval t i => Sys2Proof.Machine.execInval t i s
  | .discard t i => Sys2Proof.Machine.execDiscard t i s
  | .flushAll t i => Sys2Proof.Machine.execFlushAll t i s
  | .preload t i way => Sys2Proof.Machine.execPreload t i way s
  | .mapcOpDone t => Sys2Proof.Machine.execMapcOpDone t s
  | .mapcLock t i w => Sys2Proof.Machine.execMapcLock t i w s
  | .mapcDisable t i => Sys2Proof.Machine.execMapcDisable t i s
  | .mapcDisableDone t => Sys2Proof.Machine.execMapcDisableDone t s
  | .mapcEnable t i => Sys2Proof.Machine.execMapcEnable t i s
  | .pocketDisable t i => Sys2Proof.Machine.execPocketDisable t i s
  | .sqzJobStart t c => Sys2Proof.Machine.execSqzJobStart t c s
  | .sqzJobEnd t c => Sys2Proof.Machine.execSqzJobEnd t c s
  | .sqzCompletionRecord t c => Sys2Proof.Machine.execSqzCompletionRecord t c s
  | .sqzRingStopped t r => Sys2Proof.Machine.execSqzRingStopped t r s
  | .ksLoad t i wk => Sys2Proof.Machine.execKsLoad t i wk s
  | .ksErase t i => Sys2Proof.Machine.execKsErase t i s
  | .eraseGroup t i => Sys2Proof.Machine.execEraseGroup t i s
  | .setOwner t i => Sys2Proof.Machine.execSetOwner t i s
  | .aesJobStart t e => Sys2Proof.Machine.execAesJobStart t e s
  | .aesJobEnd t e => Sys2Proof.Machine.execAesJobEnd t e s
  | .meterCharge t i w => Sys2Proof.Machine.execMeterCharge t i w s
  | .epochBoundary t => Sys2Proof.Machine.execEpochBoundary t s
  | .mtrOriginWrite t i w => Sys2Proof.Machine.execMtrOriginWrite t i w s
  | .meterEnable t i on => Sys2Proof.Machine.execMeterEnable t i on s
  | .capRefill t => Sys2Proof.Machine.execCapRefill t s
  | .bvEnable t i n on => Sys2Proof.Machine.execBvEnable t i n on s
  | .bvRestart t i n => Sys2Proof.Machine.execBvRestart t i n s
  | .bvSubmit t n => Sys2Proof.Machine.execBvSubmit t n s
  | .mailboxRing t i ch => Sys2Proof.Machine.execMailboxRing t i ch s
  | .mailboxComplete t ch => Sys2Proof.Machine.execMailboxComplete t ch s
  | .mailboxTimeout t ch => Sys2Proof.Machine.execMailboxTimeout t ch s
  | .info t ch => Sys2Proof.Machine.execInfo t ch s
  | .status t ch => Sys2Proof.Machine.execStatus t ch s
  | .spinStart t ch => Sys2Proof.Machine.execSpinStart t ch s
  | .spinStop t ch => Sys2Proof.Machine.execSpinStop t ch s
  | .spinCoast t ch => Sys2Proof.Machine.execSpinCoast t ch s
  | .spinSpeed t ch => Sys2Proof.Machine.execSpinSpeed t ch s
  | .spinCfg t ch => Sys2Proof.Machine.execSpinCfg t ch s
  | .actLoad t ch => Sys2Proof.Machine.execActLoad t ch s
  | .loadHandoff t n => Sys2Proof.Machine.execLoadHandoff t n s
  | .loadTimeout t n => Sys2Proof.Machine.execLoadTimeout t n s
  | .actUnload t ch => Sys2Proof.Machine.execActUnload t ch s
  | .actSeek t ch => Sys2Proof.Machine.execActSeek t ch s
  | .actMjog t ch => Sys2Proof.Machine.execActMjog t ch s
  | .actOcClr t ch => Sys2Proof.Machine.execActOcClr t ch s
  | .actParams t ch => Sys2Proof.Machine.execActParams t ch s
  | .ldLedge t ch => Sys2Proof.Machine.execLdLedge t ch s
  | .ldZone t ch => Sys2Proof.Machine.execLdZone t ch s
  | .ldChcal t ch => Sys2Proof.Machine.execLdChcal t ch s
  | .ldLoop t ch => Sys2Proof.Machine.execLdLoop t ch s
  | .setPset t ch => Sys2Proof.Machine.execSetPset t ch s
  | .setBudget t ch => Sys2Proof.Machine.execSetBudget t ch s
  | .ldCpl t ch => Sys2Proof.Machine.execLdCpl t ch s
  | .setPeriod t ch => Sys2Proof.Machine.execSetPeriod t ch s
  | .saveCal t ch ok => Sys2Proof.Machine.execSaveCal t ch ok s
  | .grChal t ch => Sys2Proof.Machine.execGrChal t ch s
  | .grToken t ch => Sys2Proof.Machine.execGrToken t ch s
  | .grReq t ch => Sys2Proof.Machine.execGrReq t ch s
  | .grRel t ch => Sys2Proof.Machine.execGrRel t ch s
  | .grQuery t ch => Sys2Proof.Machine.execGrQuery t ch s
  | .xrw t ch => Sys2Proof.Machine.execXrw t ch s
  | .safeEnter t ch => Sys2Proof.Machine.execSafeEnter t ch s
  | .safeExit t ch => Sys2Proof.Machine.execSafeExit t ch s
  | .fence t ch => Sys2Proof.Machine.execFence t ch s
  | .unfence t ch => Sys2Proof.Machine.execUnfence t ch s
  | .lcGet t ch => Sys2Proof.Machine.execLcGet t ch s
  | .lcMove t ch => Sys2Proof.Machine.execLcMove t ch s
  | .lcFuseProgram t ok => Sys2Proof.Machine.execLcFuseProgram t ok s
  | .lcReset t => Sys2Proof.Machine.execLcReset t s
  | .imgLoad t ch ok => Sys2Proof.Machine.execImgLoad t ch ok s
  | .ownGet t ch => Sys2Proof.Machine.execOwnGet t ch s
  | .ownTake t ch => Sys2Proof.Machine.execOwnTake t ch s
  | .ownTakeTimeout t ch => Sys2Proof.Machine.execOwnTakeTimeout t ch s
  | .ownGive t ch => Sys2Proof.Machine.execOwnGive t ch s
  | .plReport t ch => Sys2Proof.Machine.execPlReport t ch s
  | .grantExpiry t g => Sys2Proof.Machine.execGrantExpiry t g s
  | .grantExpiryWarn t g => Sys2Proof.Machine.execGrantExpiryWarn t g s
  | .grantRestore t g => Sys2Proof.Machine.execGrantRestore t g s
  | .challengeLapse t ch => Sys2Proof.Machine.execChallengeLapse t ch s
  | .positioningLoad t n ang => Sys2Proof.Machine.execPositioningLoad t n ang s
  | .wounserRestart t => Sys2Proof.Machine.execWounserRestart t s
  | .mctpPacket t pkt => Sys2Proof.Machine.execMctpPacket t pkt s
  | .setEndpointId t eid => Sys2Proof.Machine.execSetEndpointId t eid s
  | .getEndpointId t => Sys2Proof.Machine.execGetEndpointId t s
  | .getEndpointUuid t => Sys2Proof.Machine.execGetEndpointUuid t s
  | .getMctpVersionSupport t => Sys2Proof.Machine.execGetMctpVersionSupport t s
  | .getMessageTypeSupport t => Sys2Proof.Machine.execGetMessageTypeSupport t s
  | .readNvmeMiDataStructure t dtyp => Sys2Proof.Machine.execReadNvmeMiDataStructure t dtyp s
  | .nvmSubsystemHealthStatusPoll t => Sys2Proof.Machine.execNvmSubsystemHealthStatusPoll t s
  | .configurationGet t id => Sys2Proof.Machine.execConfigurationGet t id s
  | .configurationSet t id v => Sys2Proof.Machine.execConfigurationSet t id v s
  | .vpdRead t ofs len => Sys2Proof.Machine.execVpdRead t ofs len s
  | .vpdWrite t ofs bytes => Sys2Proof.Machine.execVpdWrite t ofs bytes s
  | .nvmeMiReset t => Sys2Proof.Machine.execNvmeMiReset t s
  | .forwardRequest t bytes => Sys2Proof.Machine.execForwardRequest t bytes s
  | .forwardResponse t i w => Sys2Proof.Machine.execForwardResponse t i w s
  | .moreProcessingRequired t => Sys2Proof.Machine.execMoreProcessingRequired t s
  | .forwardTimeout t => Sys2Proof.Machine.execForwardTimeout t s
  | .healthUpdate t i w => Sys2Proof.Machine.execHealthUpdate t i w s
  | .healthStale t => Sys2Proof.Machine.execHealthStale t s
  | .regRead t ofs len => Sys2Proof.Machine.execRegRead t ofs len s
  | .regWrite t ofs len words => Sys2Proof.Machine.execRegWrite t ofs len words s
  | .dataRead t ofs len => Sys2Proof.Machine.execDataRead t ofs len s
  | .dataWrite t ofs len words => Sys2Proof.Machine.execDataWrite t ofs len words s
  | .mbox t words => Sys2Proof.Machine.execMbox t words s
  | .mboxResponse t => Sys2Proof.Machine.execMboxResponse t s
  | .smbusTimeout t => Sys2Proof.Machine.execSmbusTimeout t s
  | .dynamicAddressAssign t a => Sys2Proof.Machine.execDynamicAddressAssign t a s
  | .cwLock t i w => Sys2Proof.Machine.execCwLock t i w s
  | .cwLockTimeout t => Sys2Proof.Machine.execCwLockTimeout t s
  | .identify t i => Sys2Proof.Machine.execIdentify t i s
  | .ssRead t i => Sys2Proof.Machine.execSsRead t i s
  | .ssWrite t i => Sys2Proof.Machine.execSsWrite t i s
  | .ssErase t i => Sys2Proof.Machine.execSsErase t i s
  | .imgStage t i => Sys2Proof.Machine.execImgStage t i s
  | .imgCommit t i => Sys2Proof.Machine.execImgCommit t i s
  | .physRead t i => Sys2Proof.Machine.execPhysRead t i s
  | .driveFirmwareOpcode t i op => Sys2Proof.Machine.execDriveFirmwareOpcode t i op s
  | .cwComplete t ok res bytes => Sys2Proof.Machine.execCwComplete t ok res bytes s
  | .cwTimeout t => Sys2Proof.Machine.execCwTimeout t s
  | .cwAbort t i => Sys2Proof.Machine.execCwAbort t i s
  | .cwSvcOn t i => Sys2Proof.Machine.execCwSvcOn t i s
  | .cwSvcOff t i => Sys2Proof.Machine.execCwSvcOff t i s
  | .cwFwDone t i w => Sys2Proof.Machine.execCwFwDone t i w s
  | .faultAccept t => Sys2Proof.Machine.execFaultAccept t s
  | .safeReqN t => Sys2Proof.Machine.execSafeReqN t s
  | .safeStateBrake t => Sys2Proof.Machine.execSafeStateBrake t s
  | .configCheck t => Sys2Proof.Machine.execConfigCheck t s
  | .sumpMsgHeadRead t i => Sys2Proof.Machine.execSumpMsgHeadRead t i s
  | .sumpMsgPop t i => Sys2Proof.Machine.execSumpMsgPop t i s
  | .errClr t i => Sys2Proof.Machine.execErrClr t i s
  | .fatalClr t i => Sys2Proof.Machine.execFatalClr t i s
  | .cfgOk t i => Sys2Proof.Machine.execCfgOk t i s
  | .firstClr t i => Sys2Proof.Machine.execFirstClr t i s
  | .injGo t i w => Sys2Proof.Machine.execInjGo t i w s
  | .injPath t i => Sys2Proof.Machine.execInjPath t i s
  | .cfgflip t i w => Sys2Proof.Machine.execCfgflip t i w s
  | .flowSwtrig t i w => Sys2Proof.Machine.execFlowSwtrig t i w s
  | .flowRecordStart t => Sys2Proof.Machine.execFlowRecordStart t s
  | .flowRecordEnd t => Sys2Proof.Machine.execFlowRecordEnd t s
  | .flowBackgroundCheck t found => Sys2Proof.Machine.execFlowBackgroundCheck t found s
  | .unseal t i => Sys2Proof.Machine.execUnseal t i s
  | .unsealDone t => Sys2Proof.Machine.execUnsealDone t s
  | .flowClear t i => Sys2Proof.Machine.execFlowClear t i s
  | .lwClr t i => Sys2Proof.Machine.execLwClr t i s
  | .counterOverflow t k => Sys2Proof.Machine.execCounterOverflow t k s
  | .pmuMdieSums t => Sys2Proof.Machine.execPmuMdieSums t s
  | .snap t i => Sys2Proof.Machine.execSnap t i s
  | .mlostClr t i => Sys2Proof.Machine.execMlostClr t i s
  | .pmuDump t => Sys2Proof.Machine.execPmuDump t s
  | .pmuCntRead t i k => Sys2Proof.Machine.execPmuCntRead t i k s
  | .domainOn t i d ret => Sys2Proof.Machine.execDomainOn t i d ret s
  | .domainOff t i d ret => Sys2Proof.Machine.execDomainOff t i d ret s
  | .domainSequenceEnd t d => Sys2Proof.Machine.execDomainSequenceEnd t d s
  | .powerOnReset t brownout => Sys2Proof.Machine.execPowerOnReset t brownout s
  | .porDeassert t hostMode i3c bootHold vdd33 => Sys2Proof.Machine.execPorDeassert t hostMode i3c bootHold vdd33 s
  | .gtcStart t => Sys2Proof.Machine.execGtcStart t s
  | .bootRomStart t => Sys2Proof.Machine.execBootRomStart t s
  | .wounserStart t => Sys2Proof.Machine.execWounserStart t s
  | .appRelease t => Sys2Proof.Machine.execAppRelease t s
  | .chip t i => Sys2Proof.Machine.execChip t i s
  | .chipReset t => Sys2Proof.Machine.execChipReset t s
  | .ccoreReset t => Sys2Proof.Machine.execCcoreReset t s
  | .appCoreReset t i c => Sys2Proof.Machine.execAppCoreReset t i c s
  | .mgmtReset t i => Sys2Proof.Machine.execMgmtReset t i s
  | .wdogKick t i w => Sys2Proof.Machine.execWdogKick t i w s
  | .wdogExpiry t => Sys2Proof.Machine.execWdogExpiry t s
  | .mwdogKick t i w => Sys2Proof.Machine.execMwdogKick t i w s
  | .mwdogExpiry t => Sys2Proof.Machine.execMwdogExpiry t s
  | .ssCmdRead t i p => Sys2Proof.Machine.execSsCmdRead t i p s
  | .program t i p => Sys2Proof.Machine.execProgram t i p s
  | .ssCmdErase t i p => Sys2Proof.Machine.execSsCmdErase t i p s
  | .ssCommandDone t p devErr => Sys2Proof.Machine.execSsCommandDone t p devErr s
  | .progDevid t i => Sys2Proof.Machine.execProgDevid t i s
  | .progOemkey t i k => Sys2Proof.Machine.execProgOemkey t i k s
  | .revoke t i k => Sys2Proof.Machine.execRevoke t i k s
  | .advSvn t i kind v => Sys2Proof.Machine.execAdvSvn t i kind v s
  | .fuseProgramDone t ok => Sys2Proof.Machine.execFuseProgramDone t ok s
  | .reseed t i => Sys2Proof.Machine.execReseed t i s
  | .clrFail t i => Sys2Proof.Machine.execClrFail t i s
  | .rngStartupTestDone t ok => Sys2Proof.Machine.execRngStartupTestDone t ok s
  | .rngHealthFail t => Sys2Proof.Machine.execRngHealthFail t s
  | .rngRead t i => Sys2Proof.Machine.execRngRead t i s
  | .wkLoad t i w => Sys2Proof.Machine.execWkLoad t i w s
  | .wkClear t i w => Sys2Proof.Machine.execWkClear t i w s
  | .wrap t i w => Sys2Proof.Machine.execWrap t i w s
  | .jtagInstruction t j => Sys2Proof.Machine.execJtagInstruction t j s
  | .ownReqWrite t i w => Sys2Proof.Machine.execOwnReqWrite t i w s
  | .ownGntChange t u level => Sys2Proof.Machine.execOwnGntChange t u level s
  | .peerSafeNChange t u level => Sys2Proof.Machine.execPeerSafeNChange t u level s
  | .ropeFlitReceive t flit => Sys2Proof.Machine.execRopeFlitReceive t flit s
  | .ropeLinkUp t => Sys2Proof.Machine.execRopeLinkUp t s
  | .ropeRetrain t i => Sys2Proof.Machine.execRopeRetrain t i s
  | .pair t peer => Sys2Proof.Machine.execPair t peer s
  | .ropeHbKick t i w => Sys2Proof.Machine.execRopeHbKick t i w s
  | .heartbeatSend t => Sys2Proof.Machine.execHeartbeatSend t s
  | .heartbeatReceive t => Sys2Proof.Machine.execHeartbeatReceive t s
  | .heartbeatLoss t => Sys2Proof.Machine.execHeartbeatLoss t s
  | .peerSafeReceive t => Sys2Proof.Machine.execPeerSafeReceive t s
  | .copy t c => Sys2Proof.Machine.execCopy t c s
  | .copyMark t c => Sys2Proof.Machine.execCopyMark t c s
  | .mirrorClean t c => Sys2Proof.Machine.execMirrorClean t c s
  | .mirrorComplete t c status res => Sys2Proof.Machine.execMirrorComplete t c status res s
  | .ropeMessageSend t i w3 => Sys2Proof.Machine.execRopeMessageSend t i w3 s
  | .ropeMessageReceive t w0 w1 w2 w3 => Sys2Proof.Machine.execRopeMessageReceive t w0 w1 w2 w3 s
  | .ropeRxmsgPop t i => Sys2Proof.Machine.execRopeRxmsgPop t i s
  | .ropeLaneLockLoss t lane => Sys2Proof.Machine.execRopeLaneLockLoss t lane s
  | .pcieLinkTrained t p => Sys2Proof.Machine.execPcieLinkTrained t p s
  | .overtemp t halfDeg => Sys2Proof.Machine.execOvertemp t halfDeg s
  | .lockstep t => Sys2Proof.Machine.execLockstep t s
  | .pfltNDeassert t n => Sys2Proof.Machine.execPfltNDeassert t n s
  | .safeReqNDeassert t => Sys2Proof.Machine.execSafeReqNDeassert t s
  | .tonePhaseLoss t n => Sys2Proof.Machine.execTonePhaseLoss t n s
  | .ksDone t => Sys2Proof.Machine.execKsDone t s
  | .pocketDisableDone t => Sys2Proof.Machine.execPocketDisableDone t s
  | .aesCompletionRecord t e => Sys2Proof.Machine.execAesCompletionRecord t e s
  | .meterLogWritten t => Sys2Proof.Machine.execMeterLogWritten t s

end Sys2Proof.Machine
end

