-- ==== Sys2Proof/Machine/Pins.lean ====
section
/-! DEFINITION. The levels of the output pins as functions of the state (R187, R472, R507, R509): what an engine drives in each
condition, the reset, not-owned and safe-state columns of R507 before the level that the running engine asks for. -/

namespace Sys2Proof.Machine

open Sys2Proof

/-- What an output carries. -/
inductive Level where
  | low
  | high
  /-- not driven -/
  | released
  /-- logic 0 with no transitions on a differential data output, or electrical idle on a serial lane -/
  | idle
  /-- 0 V differential -/
  | zero
  /-- a converter code -/
  | code (c : Int)
  /-- the waveform of the engine at work: write data, a port frame, a modulated gate, a trained lane -/
  | work
deriving DecidableEq, Repr

/-- EXTEST or CLAMP is loaded: the motion and write outputs hold their safe-state levels (R509). -/
def State.scanHold (s : State) : Bool := s.pwr.jtag == .extest || s.pwr.jtag == .clamp

/-- Section n drives nothing of its own: power-on reset, its domain not ON, or its unit not granted (R472, R507). -/
def State.secMute (s : State) (n : Fin 4) : Bool := s.pwr.por || !s.domOn (16 + n) || !s.ownsAct n

/-- ACTn_WG_N. -/
def State.pinWgN (s : State) (n : Fin 4) : Level :=
  if s.secMute n || s.scanHold || !(s.sec n).chan.wg then .high else .low

/-- ACTn_WD_P/N. -/
def State.pinWd (s : State) (n : Fin 4) : Level :=
  if s.secMute n || s.scanHold || !(s.sec n).chan.wg then .idle else .work

/-- ACTn_AST between its 22.5 ns frames (R120). -/
def State.pinAst (_s : State) (_n : Fin 4) : Level := .low

/-- ACTn_PSEN_N, ACTn_PSCK and ACTn_PSDA (R176). -/
def State.pinPs (s : State) (n : Fin 4) : Level × Level × Level :=
  if s.secMute n || (s.sec n).act.preFrame.isNone then (.high, .low, .released) else (.low, .work, .work)

/-- ACTn_GAH, GAL, GBH, GBL: driven by the retract machine or by the loop's command until the gates are off (R159, R172, R174). -/
def State.pinGates (s : State) (n : Fin 4) : Level :=
  if s.secMute n || (s.sec n).act.gatesOff || (s.scanHold && !s.retracting n) then .low else .work

/-- ACTn_MA_P/N (R175). -/
def State.pinMa (s : State) (n : Fin 4) : Level := if s.secMute n then .zero else .code (s.sec n).act.maCode

/-- The high and the low gates SP_G* (R187): coast, the zero vector, or the modulator's pattern. -/
def State.pinSpGates (s : State) : Level × Level :=
  if s.pwr.por || !s.domOn 15 || !s.ownsSpin || s.spin_ == spOFF || s.spin_ == spFAULT then (.low, .low)
  else if (s.spin_ == spASSESS && s.spin.catching) || (s.spin_ == spGEN && s.spin.genCoast) then (.low, .low)
  else if s.spin_ == spZVBRAKE then (.low, .high)
  else (.work, .work)

/-- SP_CHOP (R205). -/
def State.pinChop (s : State) : Level :=
  if s.pwr.por || !s.domOn 15 || !s.ownsSpin || !s.spin.chop then .low else .high

/-- OWN_REQ of a unit (R470): low after power-on reset, unchanged through a chip reset. -/
def State.pinOwnReq (s : State) (u : Fin 5) : Level := if s.pwr.por || !s.bit R.ROPE_OWN u then .low else .high

/-- ERR_N (R408): low while the safe state holds, from an ERR message and from a chip reset until the clear; released during
power-on reset. -/
def State.pinErrN (s : State) : Level := if !s.pwr.por && bitOf s.sumpStatus 5 then .low else .released

/-- DDR_RESET_N: high with the DRAM at work or in self-refresh (R507). -/
def State.pinDdrResetN (s : State) : Level := if s.domOn 7 || s.pwr.retained[7] then .high else .low

/-- PE_TX* of a port and RP_TX*: electrical idle in reset (R507). -/
def State.pinPeTx (s : State) (p : Port) : Level := if !s.pwr.por && s.domOn ((portNo p).val + 1) then .work else .idle
def State.pinRpTx (s : State) : Level := if !s.pwr.por && s.domOn 13 then .work else .idle

end Sys2Proof.Machine
end

