-- ==== Sys2Proof/Safety.lean ====
section
/-! DEFINITION. What counts as a safe run, and the few predicates that statements are made in: a register that takes a write, an
event that is due, the canonical form of the register file and of every memory, what no step may undo in the fuses. -/

namespace Sys2Proof.Machine

open Sys2Proof

/-- A write by `i` to the register at `a` reaches its block and is one its table names a writer for (R26, R31, R433). -/
def State.takesWrite (s : State) (i : Initiator) (a : Nat) : Bool :=
  !(inMWindow a && !s.linkUp) && s.addrOn a && (whoAt a).allows i

/-- Entry `e` of section `n` is the next of both lists, has type `ty`, and the section's domain is ON (R56, R59). -/
abbrev State.due (s : State) (n : Fin 4) (ty : Nat) (e : Event) : Prop :=
  s.nextEvent n = some e ∧ e.typ = ty ∧ s.domOn (16 + n) = true

/-- The register file and every memory are in canonical form: addresses strictly rising, no entry equal to what an unlisted
address reads as. -/
def State.canon (s : State) : Bool :=
  spWf resetOf s.regs && Memory.wf unlistedByte s.dram && spWf (fun _ => unwrittenSyn) s.dramSyn
    && Memory.wf unlistedByte s.sram && Memory.wf unlistedByte s.ccSram && Memory.wf erasedByte s.store

/-- No fuse of `f` is blank again in `g`, and no counter of `f` has fallen (R454). -/
def Fuses.keptIn (f g : Fuses) : Prop :=
  f.lcc ≤ g.lcc ∧ (f.scrap = true → g.scrap = true) ∧ (f.devidDone = true → g.devidDone = true)
    ∧ (∀ k : Fin 2, f.oem[k].isSome = true → g.oem[k].isSome = true)
    ∧ (∀ k : Nat, f.revoked.testBit k = true → g.revoked.testBit k = true)
    ∧ (∀ k : Fin 3, f.svn[k] ≤ g.svn[k])

/-- The contents of every memory are those of `s`. -/
abbrev State.sameMemory (s' s : State) : Prop :=
  s'.dram = s.dram ∧ s'.dramSyn = s.dramSyn ∧ s'.sram = s.sram ∧ s'.ccSram = s.ccSram ∧ s'.store = s.store

/-- A run that has met no fault and no refusal: the only stop the model has is a core's access fault (R529). -/
def SafeRun (k : Nat) (s : State) : Prop := ∃ s', Host.Core.run ⟨State, Fault, Refusal, step, State.reset⟩ k s = .next s'

/-! ### What a command reads before it acts, as its meaning reads it -/

/-- The descriptor that OP_TAKE reads (R239). -/
def State.takeRead (s : State) (n : Fin 4) : BytesRead :=
  s.busRead 14 (s.rd64 (R.MSCH_SQ_BASE_LO n) (R.MSCH_SQ_BASE_HI n) + 64 * (s.rd (R.MSCH_SQ_CONS n) % s.rd (R.MSCH_SQ_SIZE n))) 64

/-- The state once OP_TAKE has read the descriptor and moved the index. -/
def State.takeNext (s : State) (n : Fin 4) : State :=
  ((s.takeRead n).st.setReg (R.MSCH_SQ_CONS n) (ringNext (s.rd (R.MSCH_SQ_CONS n)) (s.rd (R.MSCH_SQ_SIZE n)))).onMsch n
    (fun m => { m with seq := m.seq + 1 })

/-- The operation of that descriptor, its zone not yet known. -/
def State.takeMop (s : State) (n : Fin 4) : Mop := parseMop (s.takeRead n).bytes (s.msch n).seq (s.takeNext n).gtc noZone

/-- The zone of its track (R242). -/
def State.takeZone (s : State) (n : Fin 4) : State × Option Zone :=
  (s.takeNext n).schedZone n (s.takeMop n).head (s.takeMop n).track

/-- The data that MEDIA_DMA_WRITE_BLOCK reads for sector `k` (R91). -/
def State.blockData (s : State) (n : Fin 4) (o : Mop) (k : Nat) : BytesRead :=
  (s.onMsch n (fun m => { m with wq := m.wq.drop 1 })).busRead 6 (o.data + 4096 * k) 4096

/-- The side entry that it reads next (R91, R241). -/
def State.blockSide (s : State) (n : Fin 4) (o : Mop) (k : Nat) : BytesRead :=
  (s.blockData n o k).st.busRead 6 (o.side + 32 * k) 20

/-- The dirty-table entry that DT_MARK reads (R283). -/
def State.dtRead (s : State) (x : Nat) : BytesRead := s.busRead 13 (s.dtAddr x) 64

/-- The line that MAPC_FILL_COMPLETE reads for the access `x` (R296, R299). -/
def State.missLine (s : State) (x : MAccess) : Option MLine :=
  ((({ s with mapc := { s.mapc with miss := none } }).pmuH 0x34 (s.gtc - x.at_)).fillLine ((x.addr - dramBase) / 128)).2

/-! ### Mailbox commands -/

/-- Wounser takes the request of opcode `op` that waits on channel `ch`, and no status before BADPARAM applies (R359, R363). -/
def State.mbGoes (s : State) (ch : Fin 16) (op : Nat) (denied level : Bool) : Bool :=
  s.mbReady ch && s.mbOp ch == op && (s.mbRefusal ch denied level).isNone

/-- The command on channel `ch` is DONE with STATUS `st` (R359, R363). -/
def State.answered (s : State) (ch : Fin 16) (st : Nat) : Bool :=
  s.fld (R.MB_STAT ch) 1 0 == 2 && s.fld (R.MB_RSP ch 0) 15 8 == st

/-- The first `n` bytes of the buffer that request words `k` and `k + 1` name, as Wounser reads them. -/
def State.mbBytes (s : State) (ch : Fin 16) (k n : Nat) : BytesRead := (s.mbTake ch).busRead 0 (s.mbAddr ch k) n

/-- A table whose length its header gives at `o`, as Wounser reads it after the header. -/
def State.mbTableBytes (s : State) (ch : Fin 16) (o : Nat) (len : Nat → Nat) : BytesRead :=
  (s.mbBytes ch 1 16).st.busRead 0 (s.mbAddr ch 1) (len (halfAt (s.mbBytes ch 1 16).bytes o))

/-- Header and table lie in the DRAM window and are read without an error indication. -/
def State.mbTableOk (s : State) (ch : Fin 16) (o : Nat) (len : Nat → Nat) : Bool :=
  !addrBad (s.mbAddr ch 1) 16 && !(s.mbBytes ch 1 16).err
    && !addrBad (s.mbAddr ch 1) (len (halfAt (s.mbBytes ch 1 16).bytes o)) && !(s.mbTableBytes ch o len).err

/-! ### Triggers, accesses, storing -/

/-- Definition `d` fires when Sump accepts a message of a source and kind (R411). -/
def State.flowTakes (s : State) (src kind d : Nat) : Bool :=
  s.flowDefOn d 2 && (bitsOf (s.flowW0 d) 9 4 == 0 || bitsOf (s.flowW0 d) 9 4 == kind)
    && (src &&& bitsOf (s.flowW0 d) 29 20) == (bitsOf (s.flowW0 d) 19 10 &&& bitsOf (s.flowW0 d) 29 20)

/-- Definition `d` fires when counter `n` overflows (R411). -/
def State.flowCounts (s : State) (n d : Nat) : Bool := s.flowDefOn d 3 && bitsOf (s.flowW0 d) 16 10 == n

/-- A core, whose accesses end with the access fault of R529. -/
def coreIni : Initiator → Bool
  | .cc => true
  | .app _ => true
  | .mgmt => true
  | _ => false

/-! ### Frames: what a command may change -/

/-- The parts of State that the frame statements speak of, beside the register file. -/
inductive Part where
  /-- the DRAM -/
  | dram
  /-- the shared SRAM -/
  | sram
  /-- the Control Core SRAM -/
  | ccSram
  /-- the Safe Store -/
  | store
  /-- the fuses -/
  | fuses
  /-- what has gone to the hosts -/
  | hosts
  /-- what has gone to the peer -/
  | peer
  /-- Passage -/
  | passage
  /-- the actuator sections -/
  | sections
  /-- the coupling in force -/
  | loops
  /-- the spindle -/
  | spin
  /-- the buffer engines -/
  | buf
  /-- power and boot -/
  | pwr
  /-- the meters -/
  | mtr
  /-- the queue engine -/
  | qeng
  /-- the Map Cache -/
  | mapc
  /-- Squeeze and the AES engines -/
  | jobs
  /-- the key store -/
  | cryp
  /-- the mailboxes -/
  | mbox
  /-- Rope -/
  | rope
  /-- Chimney and the Command Window -/
  | mgmt
deriving DecidableEq, Repr

/-- A part is unchanged. -/
def Part.same (p : Part) (s s' : State) : Prop :=
  match p with
  | .dram => s'.dram = s.dram ∧ s'.dramSyn = s.dramSyn
  | .sram => s'.sram = s.sram
  | .ccSram => s'.ccSram = s.ccSram
  | .store => s'.store = s.store
  | .fuses => s'.fuses = s.fuses
  | .hosts => s'.toHost = s.toHost
  | .peer => s'.toPeer = s.toPeer
  | .passage => s'.pass = s.pass
  | .sections => s'.secs = s.secs
  | .loops => s'.leM = s.leM ∧ s'.leSh = s.leSh
  | .spin => s'.spin = s.spin
  | .buf => s'.buf = s.buf
  | .pwr => s'.pwr = s.pwr
  | .mtr => s'.mtr = s.mtr
  | .qeng => s'.qeng = s.qeng
  | .mapc => s'.mapc = s.mapc
  | .jobs => s'.sqz = s.sqz ∧ s'.aes = s.aes
  | .cryp => s'.cryp = s.cryp
  | .mbox => s'.mbox = s.mbox
  | .rope => s'.rope = s.rope
  | .mgmt => s'.mgmt = s.mgmt

/-- The commands that may change the DRAM. -/
def setsDram : Instr → Bool
  | .registerWrite .. | .registerReadClear .. | .loRead .. | .passageFlitReceive .. | .passageLaneLockLoss .. | .retrain ..
  | .passageWriteDeliver .. | .eventInsert .. | .atbCancel .. | .marker .. | .rdOn .. | .rdOff .. | .wrOn .. | .wrOff .. | .fmark ..
  | .servoWin .. | .assist .. | .snapshot .. | .headSw .. | .setpoint .. | .loopMode .. | .microjog .. | .completionRecordDeliver ..
  | .atbHeadOfsWrite .. | .wedgeResult .. | .retractEnd .. | .powerLoss .. | .dispatchRecord .. | .transferComplete ..
  | .schedulerEventLoad .. | .schedulerRecord .. | .opComplete .. | .mschCancel .. | .schedulerLinkRecover .. | .mediaDmaReadBlock ..
  | .mergeWrite .. | .ceWriteBack .. | .fillAbort .. | .fillDone .. | .scrubRead .. | .test .. | .dumpStart .. | .mapcAccess ..
  | .mapcFillComplete .. | .mapcOpDone .. | .mapcDisableDone .. | .sqzJobEnd .. | .sqzCompletionRecord .. | .ksLoad .. | .ksErase ..
  | .eraseGroup .. | .setOwner .. | .aesJobEnd .. | .actLoad .. | .xrw .. | .fence .. | .unfence .. | .lcFuseProgram ..
  | .cwComplete .. | .faultAccept .. | .pmuDump .. | .domainOn .. | .domainOff .. | .domainSequenceEnd .. | .powerOnReset ..
  | .bootRomStart .. | .wounserStart .. | .chipReset .. | .ssCommandDone .. | .wrap .. | .ownGntChange .. | .mirrorComplete ..
  | .ksDone .. | .pocketDisableDone .. | .aesCompletionRecord .. | .meterLogWritten .. => true
  | _ => false

/-- The commands that may change the shared SRAM. -/
def setsSram : Instr → Bool
  | .registerWrite .. | .registerReadClear .. | .loRead .. | .passageFlitReceive .. | .passageLaneLockLoss .. | .retrain ..
  | .passageWriteDeliver .. | .eventInsert .. | .atbCancel .. | .marker .. | .rdOn .. | .rdOff .. | .wrOn .. | .wrOff .. | .fmark ..
  | .servoWin .. | .assist .. | .snapshot .. | .headSw .. | .setpoint .. | .loopMode .. | .microjog .. | .completionRecordDeliver ..
  | .atbHeadOfsWrite .. | .wedgeResult .. | .retractEnd .. | .dispatchRecord .. | .transferComplete .. | .schedulerEventLoad ..
  | .schedulerRecord .. | .opComplete .. | .mschCancel .. | .schedulerLinkRecover .. | .mediaDmaReadBlock .. | .test ..
  | .dumpStart .. | .mapcAccess .. | .mapcFillComplete .. | .mapcOpDone .. | .mapcDisableDone .. | .sqzJobEnd ..
  | .sqzCompletionRecord .. | .ksLoad .. | .ksErase .. | .eraseGroup .. | .setOwner .. | .aesJobEnd .. | .actLoad .. | .xrw ..
  | .fence .. | .unfence .. | .lcFuseProgram .. | .cwComplete .. | .faultAccept .. | .pmuDump .. | .domainOn .. | .domainOff ..
  | .domainSequenceEnd .. | .powerOnReset .. | .bootRomStart .. | .wounserStart .. | .appRelease .. | .chipReset ..
  | .ssCommandDone .. | .wrap .. | .ownGntChange .. | .mirrorComplete .. | .ksDone .. | .pocketDisableDone ..
  | .aesCompletionRecord .. | .meterLogWritten .. => true
  | _ => false

/-- The commands that may change the Control Core SRAM. -/
def setsCcSram : Instr → Bool
  | .registerWrite .. | .powerOnReset .. => true
  | _ => false

/-- The commands that may change the Safe Store. -/
def setsStore : Instr → Bool
  | .registerWrite .. | .passageWriteDeliver .. | .atbHeadOfsWrite .. | .powerLoss .. | .test .. | .dumpStart .. | .dumpDone ..
  | .dumpError .. | .saveCal .. | .xrw .. | .imgLoad .. | .vpdWrite .. | .cwComplete .. | .cwTimeout .. | .faultAccept ..
  | .powerOnReset .. | .chipReset .. | .ccoreReset .. | .ssCommandDone .. => true
  | _ => false

/-- The commands that may change the fuses. -/
def setsFuses : Instr → Bool
  | .lcFuseProgram .. | .imgLoad .. | .cwComplete .. | .powerOnReset .. | .fuseProgramDone .. => true
  | _ => false

/-- The commands that may change what has gone to the hosts. -/
def setsHosts : Instr → Bool
  | .completionCommit .. | .interruptCoalescingTimeout .. | .msixUnmask .. | .transferComplete .. | .powerOnReset .. => true
  | _ => false

/-- The commands that may change what has gone to the peer. -/
def setsPeer : Instr → Bool
  | .registerWrite .. | .passageIsolation .. | .passageWriteDeliver .. | .atbHeadOfsWrite .. | .retractEnd .. | .spinControlCycle ..
  | .encIdx .. | .encoderTimeout .. | .assessEnd .. | .vbusThreshold .. | .nvmSubsystemReset .. | .dumpDone .. | .dumpError ..
  | .mailboxComplete .. | .xrw .. | .safeEnter .. | .ownTake .. | .ownGive .. | .nvmeMiReset .. | .faultAccept .. | .safeReqN ..
  | .configCheck .. | .injPath .. | .powerOnReset .. | .wdogExpiry .. | .jtagInstruction .. | .ropeLinkUp .. | .heartbeatSend ..
  | .peerSafeReceive .. | .copy .. | .copyMark .. | .mirrorClean .. | .ropeMessageSend .. => true
  | _ => false

/-- The commands that may change Passage. -/
def setsPassage : Instr → Bool
  | .registerWrite .. | .registerReadClear .. | .loRead .. | .passageFlitReceive .. | .passageLaneLockLoss .. | .passageLinkUp ..
  | .retrain .. | .passageWriteDeliver .. | .passageReadResponse .. | .splitReadTimeout .. | .eventCommit .. | .eventInsert ..
  | .atbHeadOfsWrite .. | .schedulerEventLoad .. | .actLoad .. | .actUnload .. | .actSeek .. | .actMjog .. | .xrw .. | .lcMove ..
  | .ownTake .. | .ownGive .. | .positioningLoad .. | .faultAccept .. | .domainOn .. | .domainOff .. | .domainSequenceEnd ..
  | .powerOnReset .. | .bootRomStart .. | .wounserStart .. | .chipReset .. => true
  | _ => false

/-- The commands that may change the actuator sections. -/
def setsSections : Instr → Bool
  | .registerWrite .. | .registerReadClear .. | .loRead .. | .passageFlitReceive .. | .passageLaneLockLoss .. | .passageIsolation ..
  | .retrain .. | .passageWriteDeliver .. | .passageReadResponse .. | .eventInsert .. | .atbCancel .. | .marker .. | .rdOn ..
  | .rdOff .. | .wrOn .. | .wrOff .. | .fmark .. | .servoWin .. | .assist .. | .snapshot .. | .headSw .. | .setpoint ..
  | .loopMode .. | .microjog .. | .completionRecordDeliver .. | .atbHeadOfsWrite .. | .wedgeResult .. | .ledgeLock ..
  | .positionSample .. | .codewordArrive .. | .decoderIteration .. | .fragmentEnd .. | .writeMarkTimeout .. | .writeBlockArrive ..
  | .recStart .. | .recMediaRead .. | .recDecodeDone .. | .sbufRelease .. | .sbufDataRead .. | .loopSample .. | .vcmPwmPeriod ..
  | .park .. | .retractParkCurrent .. | .retractEnd .. | .ocClr .. | .halt .. | .preCmd .. | .preampFrameEnd .. | .preampFault ..
  | .shock .. | .spinControlCycle .. | .encIdx .. | .encoderTimeout .. | .assessEnd .. | .vbusThreshold .. | .powerLoss ..
  | .opTake .. | .opSelect .. | .positioningTimeout .. | .schedulerEventLoad .. | .schedulerRecord .. | .opComplete ..
  | .mschCancel .. | .schedulerLinkRecover .. | .mediaDmaReadBlock .. | .mediaDmaWriteBlock .. | .bvSubmit .. | .mailboxComplete ..
  | .actLoad .. | .loadHandoff .. | .loadTimeout .. | .actUnload .. | .actSeek .. | .actMjog .. | .actOcClr .. | .ldLedge ..
  | .ldZone .. | .xrw .. | .safeEnter .. | .safeExit .. | .fence .. | .unfence .. | .lcMove .. | .lcFuseProgram .. | .ownTake ..
  | .ownGive .. | .grantRestore .. | .positioningLoad .. | .regRead .. | .dataRead .. | .faultAccept .. | .safeReqN ..
  | .configCheck .. | .injPath .. | .pmuCntRead .. | .domainOn .. | .domainOff .. | .domainSequenceEnd .. | .powerOnReset ..
  | .bootRomStart .. | .wounserStart .. | .chipReset .. | .ccoreReset .. | .wdogExpiry .. | .jtagInstruction .. | .ownGntChange ..
  | .peerSafeReceive .. | .pfltNDeassert .. | .tonePhaseLoss .. => true
  | _ => false

/-- The commands that may change the coupling in force. -/
def setsLoops : Instr → Bool
  | .loopSample .. | .powerOnReset .. => true
  | _ => false

/-- The commands that may change the spindle. -/
def setsSpin : Instr → Bool
  | .registerWrite .. | .passageWriteDeliver .. | .atbHeadOfsWrite .. | .wedgeResult .. | .spinControlCycle .. | .encoderEdge ..
  | .encIdx .. | .encoderTimeout .. | .start .. | .stop .. | .coast .. | .assessProbe .. | .assessEnd .. | .alignEnd ..
  | .spTgtWrite .. | .vbusThreshold .. | .chopperFault .. | .plDone .. | .faultClr .. | .powerLoss .. | .plTmaxExpiry ..
  | .mailboxComplete .. | .spinStart .. | .spinStop .. | .spinCoast .. | .spinSpeed .. | .xrw .. | .safeStateBrake .. | .domainOn ..
  | .domainOff .. | .domainSequenceEnd .. | .powerOnReset .. | .bootRomStart .. | .wounserStart .. | .chipReset .. | .ownGntChange .. => true
  | _ => false

/-- The commands that may change the buffer engines. -/
def setsBuf : Instr → Bool
  | .registerWrite .. | .registerReadClear .. | .loRead .. | .passageFlitReceive .. | .passageLaneLockLoss .. | .retrain ..
  | .passageWriteDeliver .. | .eventInsert .. | .atbCancel .. | .marker .. | .rdOn .. | .rdOff .. | .wrOn .. | .wrOff .. | .fmark ..
  | .servoWin .. | .assist .. | .snapshot .. | .headSw .. | .setpoint .. | .loopMode .. | .microjog .. | .completionRecordDeliver ..
  | .atbHeadOfsWrite .. | .wedgeResult .. | .retractEnd .. | .powerLoss .. | .dispatchRecord .. | .transferComplete .. | .opTake ..
  | .schedulerEventLoad .. | .schedulerRecord .. | .opComplete .. | .mschCancel .. | .schedulerLinkRecover .. | .mediaDmaReadBlock ..
  | .mediaDmaWriteBlock .. | .mergeWrite .. | .ceWriteBack .. | .fillGo .. | .fillAbort .. | .fillDone .. | .scrubRead ..
  | .dtMark .. | .dtClean .. | .dumpDisarm .. | .test .. | .dumpStart .. | .dumpDone .. | .dumpError .. | .mapcAccess ..
  | .mapcFillComplete .. | .mapcOpDone .. | .mapcDisableDone .. | .sqzJobStart .. | .sqzJobEnd .. | .sqzCompletionRecord ..
  | .ksLoad .. | .ksErase .. | .eraseGroup .. | .setOwner .. | .aesJobStart .. | .aesJobEnd .. | .bvSubmit .. | .spinCfg ..
  | .actLoad .. | .ldLedge .. | .ldZone .. | .ldChcal .. | .ldLoop .. | .xrw .. | .fence .. | .unfence .. | .lcFuseProgram ..
  | .imgLoad .. | .cwComplete .. | .faultAccept .. | .pmuDump .. | .domainOn .. | .domainOff .. | .domainSequenceEnd ..
  | .powerOnReset .. | .bootRomStart .. | .wounserStart .. | .chipReset .. | .ssCommandDone .. | .wrap .. | .ownGntChange ..
  | .copy .. | .copyMark .. | .mirrorClean .. | .mirrorComplete .. | .ksDone .. | .pocketDisableDone .. | .aesCompletionRecord ..
  | .meterLogWritten .. => true
  | _ => false

/-- The commands that may change power and boot. -/
def setsPwr : Instr → Bool
  | .registerWrite .. | .passageWriteDeliver .. | .atbHeadOfsWrite .. | .test .. | .dumpStart .. | .xrw .. | .cwComplete ..
  | .domainOn .. | .domainOff .. | .domainSequenceEnd .. | .powerOnReset .. | .porDeassert .. | .gtcStart .. | .bootRomStart ..
  | .wounserStart .. | .appRelease .. | .chipReset .. | .ccoreReset .. | .appCoreReset .. | .wdogKick .. | .mwdogKick ..
  | .ssCmdRead .. | .program .. | .ssCmdErase .. | .ssCommandDone .. | .jtagInstruction .. => true
  | _ => false

/-- The commands that may change the meters. -/
def setsMtr : Instr → Bool
  | .registerWrite .. | .passageWriteDeliver .. | .atbHeadOfsWrite .. | .powerLoss .. | .sqFetchComplete .. | .completionCommit ..
  | .transferComplete .. | .opTake .. | .positioningTimeout .. | .schedulerEventLoad .. | .schedulerRecord .. | .mschCancel ..
  | .schedulerLinkRecover .. | .mediaDmaReadBlock .. | .sqzJobEnd .. | .meterCharge .. | .epochBoundary .. | .mtrOriginWrite ..
  | .meterEnable .. | .capRefill .. | .xrw .. | .fence .. | .unfence .. | .faultAccept .. | .domainOn .. | .domainOff ..
  | .domainSequenceEnd .. | .powerOnReset .. | .bootRomStart .. | .wounserStart .. | .chipReset .. | .ownGntChange ..
  | .meterLogWritten .. => true
  | _ => false

/-- The commands that may change the queue engine. -/
def setsQeng : Instr → Bool
  | .registerWrite .. | .registerReadClear .. | .loRead .. | .passageWriteDeliver .. | .passageReadResponse .. | .atbHeadOfsWrite ..
  | .conventionalReset .. | .functionLevelReset .. | .controllerEnable .. | .controllerReset .. | .nvmSubsystemReset ..
  | .shutdownNotification .. | .doorbellWrite .. | .queueCreate .. | .queueDelete .. | .fetchDecision .. | .sqFetchComplete ..
  | .dispatchRecord .. | .completionPost .. | .completionCommit .. | .interruptCoalescingTimeout .. | .msixUnmask ..
  | .abortLookup .. | .slotRelease .. | .pause .. | .fetchQuiesced .. | .qengDberrPop .. | .xrw .. | .nvmeMiReset .. | .regRead ..
  | .regWrite .. | .dataRead .. | .dataWrite .. | .cwLock .. | .identify .. | .ssRead .. | .ssWrite .. | .ssErase .. | .imgStage ..
  | .imgCommit .. | .physRead .. | .driveFirmwareOpcode .. | .cwAbort .. | .cwSvcOff .. | .cwFwDone .. | .faultAccept ..
  | .pmuCntRead .. | .domainOn .. | .domainOff .. | .domainSequenceEnd .. | .powerOnReset .. | .bootRomStart .. | .wounserStart ..
  | .chipReset .. | .pcieLinkTrained .. => true
  | _ => false

/-- The commands that may change the Map Cache. -/
def setsMapc : Instr → Bool
  | .registerWrite .. | .registerReadClear .. | .loRead .. | .passageWriteDeliver .. | .atbHeadOfsWrite .. | .mapcAccess ..
  | .mapcFillComplete .. | .clean .. | .inval .. | .discard .. | .flushAll .. | .preload .. | .mapcOpDone .. | .mapcLock ..
  | .mapcDisable .. | .mapcDisableDone .. | .pocketDisable .. | .xrw .. | .domainOn .. | .domainOff .. | .domainSequenceEnd ..
  | .powerOnReset .. | .bootRomStart .. | .wounserStart .. | .chipReset .. | .pocketDisableDone .. => true
  | _ => false

/-- The commands that may change Squeeze and the AES engines. -/
def setsJobs : Instr → Bool
  | .registerWrite .. | .passageWriteDeliver .. | .atbHeadOfsWrite .. | .sqzJobStart .. | .sqzJobEnd .. | .sqzCompletionRecord ..
  | .ksLoad .. | .ksErase .. | .eraseGroup .. | .setOwner .. | .aesJobStart .. | .aesJobEnd .. | .xrw .. | .fence ..
  | .lcFuseProgram .. | .faultAccept .. | .domainOn .. | .domainOff .. | .domainSequenceEnd .. | .powerOnReset .. | .bootRomStart ..
  | .wounserStart .. | .chipReset .. | .ksDone .. | .aesCompletionRecord .. => true
  | _ => false

/-- The commands that may change the key store. -/
def setsCryp : Instr → Bool
  | .registerWrite .. | .registerReadClear .. | .loRead .. | .passageWriteDeliver .. | .passageReadResponse .. | .atbHeadOfsWrite ..
  | .ksLoad .. | .ksErase .. | .eraseGroup .. | .setOwner .. | .xrw .. | .lcFuseProgram .. | .regRead .. | .dataRead ..
  | .pmuCntRead .. | .domainOn .. | .domainOff .. | .domainSequenceEnd .. | .powerOnReset .. | .bootRomStart .. | .wounserStart ..
  | .chipReset .. | .reseed .. | .clrFail .. | .rngStartupTestDone .. | .rngRead .. | .wkLoad .. | .wkClear .. | .ksDone .. => true
  | _ => false

/-- The commands that may change the mailboxes. -/
def setsMbox : Instr → Bool
  | .registerWrite .. | .passageWriteDeliver .. | .atbHeadOfsWrite .. | .retractEnd .. | .powerLoss .. | .conventionalReset ..
  | .functionLevelReset .. | .controllerReset .. | .nvmSubsystemReset .. | .dumpDone .. | .dumpError .. | .mailboxRing ..
  | .mailboxComplete .. | .info .. | .status .. | .spinStart .. | .spinStop .. | .spinCoast .. | .spinSpeed .. | .spinCfg ..
  | .actLoad .. | .loadTimeout .. | .actUnload .. | .actSeek .. | .actMjog .. | .actOcClr .. | .actParams .. | .ldLedge ..
  | .ldZone .. | .ldChcal .. | .ldLoop .. | .setPset .. | .setBudget .. | .ldCpl .. | .setPeriod .. | .saveCal .. | .grChal ..
  | .grToken .. | .grReq .. | .grRel .. | .grQuery .. | .xrw .. | .safeEnter .. | .safeExit .. | .fence .. | .unfence .. | .lcGet ..
  | .lcMove .. | .lcFuseProgram .. | .lcReset .. | .imgLoad .. | .ownGet .. | .ownTake .. | .ownTakeTimeout .. | .ownGive ..
  | .plReport .. | .grantExpiry .. | .grantExpiryWarn .. | .challengeLapse .. | .wounserRestart .. | .nvmeMiReset .. | .mbox ..
  | .faultAccept .. | .domainOn .. | .domainOff .. | .domainSequenceEnd .. | .powerOnReset .. | .bootRomStart .. | .wounserStart ..
  | .chipReset .. | .ccoreReset .. | .appCoreReset .. | .mgmtReset .. | .mwdogExpiry .. | .heartbeatLoss .. => true
  | _ => false

/-- The commands that may change Rope. -/
def setsRope : Instr → Bool
  | .registerWrite .. | .passageWriteDeliver .. | .atbHeadOfsWrite .. | .xrw .. | .fence .. | .faultAccept .. | .domainOn ..
  | .domainOff .. | .domainSequenceEnd .. | .powerOnReset .. | .bootRomStart .. | .wounserStart .. | .chipReset ..
  | .ropeFlitReceive .. | .ropeLinkUp .. | .ropeRetrain .. | .pair .. | .ropeHbKick .. | .heartbeatReceive .. | .heartbeatLoss ..
  | .copy .. | .copyMark .. | .mirrorClean .. | .mirrorComplete .. | .ropeMessageSend .. | .ropeMessageReceive .. | .ropeRxmsgPop ..
  | .ropeLaneLockLoss .. => true
  | _ => false

/-- The commands that may change Chimney and the Command Window. -/
def setsMgmt : Instr → Bool
  | .registerWrite .. | .registerReadClear .. | .loRead .. | .passageWriteDeliver .. | .passageReadResponse .. | .atbHeadOfsWrite ..
  | .powerLoss .. | .xrw .. | .mctpPacket .. | .setEndpointId .. | .getEndpointId .. | .getEndpointUuid ..
  | .getMctpVersionSupport .. | .getMessageTypeSupport .. | .readNvmeMiDataStructure .. | .nvmSubsystemHealthStatusPoll ..
  | .configurationGet .. | .configurationSet .. | .vpdRead .. | .vpdWrite .. | .nvmeMiReset .. | .forwardRequest ..
  | .forwardResponse .. | .moreProcessingRequired .. | .forwardTimeout .. | .healthUpdate .. | .healthStale .. | .regRead ..
  | .regWrite .. | .dataRead .. | .dataWrite .. | .mbox .. | .mboxResponse .. | .cwLock .. | .identify .. | .ssRead .. | .ssWrite ..
  | .ssErase .. | .imgStage .. | .imgCommit .. | .physRead .. | .driveFirmwareOpcode .. | .cwComplete .. | .cwTimeout ..
  | .cwAbort .. | .cwSvcOff .. | .cwFwDone .. | .faultAccept .. | .domainOn .. | .domainOff .. | .domainSequenceEnd ..
  | .powerOnReset .. | .bootRomStart .. | .wounserStart .. | .chipReset .. | .ccoreReset .. | .mgmtReset .. | .mwdogExpiry .. => true
  | _ => false

/-- The commands that may change a part. -/
def Part.setBy (p : Part) (c : Instr) : Bool :=
  match p with
  | .dram => setsDram c
  | .sram => setsSram c
  | .ccSram => setsCcSram c
  | .store => setsStore c
  | .fuses => setsFuses c
  | .hosts => setsHosts c
  | .peer => setsPeer c
  | .passage => setsPassage c
  | .sections => setsSections c
  | .loops => setsLoops c
  | .spin => setsSpin c
  | .buf => setsBuf c
  | .pwr => setsPwr c
  | .mtr => setsMtr c
  | .qeng => setsQeng c
  | .mapc => setsMapc c
  | .jobs => setsJobs c
  | .cryp => setsCryp c
  | .mbox => setsMbox c
  | .rope => setsRope c
  | .mgmt => setsMgmt c

/-- The block whose registers hold an address. -/
def blkOf (a : Nat) : Option Blk :=
  match placeOf a with
  | .block b _ _ => some b
  | _ => none

/-- The commands whose register writes are not confined to blocks of their own: accesses by address, resets, power domains, and those
that act across the part. -/
def anyBlock : Instr → Bool
  | .registerWrite .. | .registerReadClear .. | .loRead .. | .passageFlitReceive .. | .passageLaneLockLoss ..
  | .passageWriteDeliver .. | .passageReadResponse .. | .atbHeadOfsWrite .. | .powerLoss .. | .schedulerEventLoad ..
  | .schedulerRecord .. | .schedulerLinkRecover .. | .mediaDmaReadBlock .. | .sqzJobStart .. | .sqzJobEnd ..
  | .sqzCompletionRecord .. | .sqzRingStopped .. | .ksLoad .. | .ksErase .. | .eraseGroup .. | .setOwner .. | .aesJobStart ..
  | .aesJobEnd .. | .mailboxRing .. | .mailboxComplete .. | .spinCfg .. | .actLoad .. | .actParams .. | .ldLoop .. | .setPset ..
  | .setBudget .. | .ldCpl .. | .setPeriod .. | .xrw .. | .fence .. | .unfence .. | .lcFuseProgram .. | .ownTake .. | .ownGive ..
  | .grantRestore .. | .wounserRestart .. | .readNvmeMiDataStructure .. | .configurationGet .. | .configurationSet ..
  | .forwardRequest .. | .forwardResponse .. | .forwardTimeout .. | .regRead .. | .regWrite .. | .dataRead .. | .dataWrite ..
  | .mbox .. | .cwLock .. | .identify .. | .ssRead .. | .ssWrite .. | .ssErase .. | .imgStage .. | .imgCommit .. | .physRead ..
  | .driveFirmwareOpcode .. | .cwAbort .. | .faultAccept .. | .configCheck .. | .flowRecordStart .. | .flowRecordEnd ..
  | .unsealDone .. | .lwClr .. | .pmuCntRead .. | .domainOn .. | .domainOff .. | .domainSequenceEnd .. | .powerOnReset ..
  | .bootRomStart .. | .wounserStart .. | .chipReset .. | .ownGntChange .. | .ksDone .. | .aesCompletionRecord .. => true
  | _ => false

/-- The blocks whose registers another command may change, beside FLOW and PMU, whose triggers and counters follow every event
(R411, R422). -/
def blocksOf : Instr → List Blk
  | .passageLinkUp .. => [.passh, .passm]
  | .passageIsolation .. => [.act, .atb, .chan, .passh, .passm, .sump]
  | .retrain .. => [.atb, .buf, .chan, .passh, .passm]
  | .eventInsert .. | .atbCancel .. | .marker .. | .fmark .. | .servoWin .. | .assist .. | .snapshot .. | .setpoint .. | .loopMode ..
  | .microjog .. => [.atb, .buf]
  | .rdOn .. | .rdOff .. | .wrOn .. | .wrOff .. => [.atb, .buf, .chan]
  | .headSw .. | .retractEnd .. => [.act, .atb, .buf, .chan]
  | .completionRecordDeliver .. => [.buf, .atb]
  | .wedgeResult .. => [.atb, .buf, .loop, .spin]
  | .ledgeLock .. | .holdoverTimeout .. => [.atb]
  | .positionSample .. => [.act, .atb, .chan, .loop]
  | .codewordArrive .. | .decoderIteration .. | .fragmentEnd .. | .writeMarkTimeout .. | .recStart .. | .recMediaRead ..
  | .recDecodeDone .. => [.chan]
  | .loopSample .. => [.act, .atb, .chan, .le, .loop]
  | .cplCommit .. => [.le]
  | .vcmPwmPeriod .. | .park .. | .preampFault .. | .shock .. => [.act, .atb, .chan]
  | .ocClr .. | .preampFrameEnd .. | .shockHoldEnd .. | .loadHandoff .. | .pfltNDeassert .. => [.act]
  | .spinControlCycle .. => [.act, .atb, .chan, .le, .spin, .sump]
  | .encoderEdge .. => [.atb, .spin]
  | .encIdx .. | .encoderTimeout .. | .assessEnd .. | .vbusThreshold .. => [.act, .atb, .chan, .spin, .sump]
  | .start .. | .stop .. | .coast .. | .alignEnd .. | .spTgtWrite .. | .chopperFault .. | .chopClr .. | .plDone .. | .faultClr ..
  | .plTmaxExpiry .. | .safeStateBrake .. => [.spin]
  | .conventionalReset .. | .functionLevelReset .. | .controllerReset .. | .nvmSubsystemReset .. | .nvmeMiReset .. => [.mgmt, .mbox, .mboxg, .qeng]
  | .shutdownNotification .. | .doorbellWrite .. | .queueCreate .. | .queueDelete .. | .queueRead .. | .fetchDecision ..
  | .sqFetchComplete .. | .completionPost .. | .completionCommit .. | .abortLookup .. | .slotRelease .. | .pause .. | .hold .. => [.qeng]
  | .dispatchRecord .. => [.buf, .qeng]
  | .transferSubmit .. | .opSubmit .. | .opSelect .. | .positioningTimeout .. | .quiet .. => [.msch, .xfer]
  | .transferComplete .. | .opTake .. | .opComplete .. => [.buf, .msch, .xfer]
  | .mschCancel .. => [.atb, .buf, .bv, .msch, .xfer]
  | .mediaDmaWriteBlock .. | .mergeWrite .. | .fillGo .. | .fillAbort .. | .fillDone .. | .scrubRead .. | .initSet .. | .initClr ..
  | .dtMark .. | .dtClean .. | .dumpArm .. | .dumpDisarm .. | .dumpDone .. | .dumpError .. | .pmuDump .. => [.buf]
  | .test .. | .dumpStart .. | .ssCommandDone .. => [.buf, .pwr]
  | .mapcAccess .. | .mapcFillComplete .. | .mapcOpDone .. | .mapcDisableDone .. | .pocketDisableDone .. => [.buf, .mapc]
  | .clean .. | .inval .. | .discard .. | .flushAll .. | .preload .. | .mapcLock .. | .mapcDisable .. | .mapcEnable ..
  | .pocketDisable .. => [.mapc]
  | .meterCharge .. | .epochBoundary .. | .mtrOriginWrite .. | .meterEnable .. => [.mtr]
  | .bvEnable .. | .bvRestart .. => [.bv]
  | .bvSubmit .. => [.buf, .bv, .msch, .xfer]
  | .mailboxTimeout .. | .info .. | .status .. | .actMjog .. | .saveCal .. | .grChal .. | .grToken .. | .grReq .. | .grRel ..
  | .grQuery .. | .lcGet .. | .ownGet .. | .plReport .. | .grantExpiry .. | .grantExpiryWarn .. | .appCoreReset .. => [.mbox, .mboxg]
  | .spinStart .. | .spinStop .. | .spinCoast .. | .spinSpeed .. => [.mbox, .mboxg, .spin]
  | .loadTimeout .. | .actUnload .. | .lcMove .. => [.act, .atb, .chan, .mbox, .mboxg]
  | .actSeek .. => [.chan, .mbox, .mboxg]
  | .actOcClr .. => [.act, .mbox, .mboxg]
  | .ldLedge .. | .ldZone .. | .ldChcal .. => [.buf, .mbox, .mboxg]
  | .safeEnter .. => [.act, .atb, .chan, .mbox, .mboxg, .sump]
  | .safeExit .. => [.mbox, .mboxg, .sump]
  | .imgLoad .. => [.buf, .lcs, .mbox, .mboxg]
  | .ownTakeTimeout .. | .heartbeatLoss .. => [.mbox, .mboxg, .rope, .ropem]
  | .positioningLoad .. | .tonePhaseLoss .. => [.atb, .chan]
  | .mctpPacket .. | .setEndpointId .. | .healthUpdate .. | .dynamicAddressAssign .. | .cwLockTimeout .. | .cwTimeout ..
  | .cwSvcOn .. => [.mgmt]
  | .cwComplete .. => [.buf, .mgmt, .lcs]
  | .cwSvcOff .. | .cwFwDone .. => [.mgmt, .qeng]
  | .safeReqN .. | .injPath .. => [.act, .atb, .chan, .sump]
  | .fatalClr .. | .cfgOk .. | .firstClr .. | .injGo .. | .cfgflip .. => [.sump]
  | .porDeassert .. => [.mgmt, .lcs, .pwr]
  | .gtcStart .. | .appRelease .. | .ssCmdRead .. | .program .. | .ssCmdErase .. => [.pwr]
  | .ccoreReset .. | .mgmtReset .. | .mwdogExpiry .. => [.mgmt, .mbox, .mboxg, .pwr]
  | .wdogExpiry .. => [.act, .atb, .chan, .pwr, .sump]
  | .progDevid .. | .progOemkey .. | .revoke .. | .advSvn .. | .fuseProgramDone .. => [.lcs]
  | .rngStartupTestDone .. | .rngHealthFail .. | .wkLoad .. | .wkClear .. => [.cryp]
  | .wrap .. => [.buf, .cryp]
  | .jtagInstruction .. => [.act, .atb, .chan, .lcs, .sump]
  | .ownReqWrite .. | .peerSafeNChange .. | .ropeFlitReceive .. | .ropeLinkUp .. | .ropeRetrain .. | .pair .. | .heartbeatReceive ..
  | .ropeMessageReceive .. | .ropeLaneLockLoss .. => [.rope, .ropem]
  | .peerSafeReceive .. => [.act, .atb, .chan, .rope, .ropem, .sump]
  | .copy .. | .copyMark .. | .mirrorClean .. | .mirrorComplete .. => [.buf, .rope, .ropem]
  | .meterLogWritten .. => [.buf, .mtr]
  | _ => []

end Sys2Proof.Machine
end

