-- ==== Sys2Proof/Certificates/Slice0/Obligations.lean ====
section
/-! DEFINITION. The statements for the provers.

A clause reads: for every state `s`, every time `t` and every operand, if `u` is `s` moved on to `t` (`s.at t`) and the
hypotheses hold of `u` and the operands, then `exec` answers the next state named, and it holds what the clause says. -/

open Sys2Proof Sys2Proof.Machine

/-- Each data event that is due leaves its list and has its effect -/
def Obligations.DataEventsFire : Prop :=
  (∀ (s u : State) (t : Nat) (n : Fin 4) (e : Event), s.at t = u →
      u.due n tyMARKER e →
      e.cpl = true →
      e.isRec = false →
      e.dest = .data →
      (u.sec n).atb.holdData = [] →
      u.cplReady n .data = true →
      u.rd (R.ATB_CPLD_SIZE n) ≠ 0 →
      ∃ s', exec (.marker t n) s = .next s' ∧
        (s'.sec n).atb.data = (u.sec n).atb.data.erase e ∧ s'.rd (R.ATB_CPLD_PROD n) = (u.rd (R.ATB_CPLD_PROD n) + 1) % u.rd (R.ATB_CPLD_SIZE n))
  ∧ (∀ (s u : State) (t : Nat) (n : Fin 4) (e : Event), s.at t = u →
      u.due n tyRDON e →
      u.atbState n = stLEDGE →
      (u.sec n).chan.rcv = none →
      (u.sec n).chan.wg = false →
      e.desc.ok false = true →
      ∃ s', exec (.rdOn t n) s = .next s' ∧
        (s'.sec n).atb.data = (u.sec n).atb.data.erase e ∧ (s'.sec n).chan.rd.map Sector.sid = some e.desc.sid)
  ∧ (∀ (s u : State) (t : Nat) (n : Fin 4) (e : Event), s.at t = u →
      u.due n tyRDOFF e →
      ∃ s', exec (.rdOff t n) s = .next s' ∧
        (s'.sec n).atb.data = (u.sec n).atb.data.erase e ∧ (s'.sec n).chan.rd = none)
  ∧ (∀ (s u : State) (t : Nat) (n : Fin 4) (e : Event) (b : WBlock), s.at t = u →
      u.due n tyWRON e →
      u.inhibited n = false →
      (u.sec n).chan.rcv = none →
      (u.sec n).chan.rd = none →
      (u.sec n).chan.wr = none →
      e.desc.ok true = true →
      (u.sec n).chan.wbuf.find? (fun b => b.sid == e.desc.sid) = some b →
      ofBytes ((b.bytes.drop 4112).take 2) = e.desc.seed →
      ∃ s', exec (.wrOn t n) s = .next s' ∧
        (s'.sec n).atb.data = (u.sec n).atb.data.erase e ∧ (s'.sec n).chan.wg = true ∧ (s'.sec n).chan.wr.map WrFrag.sid = some e.desc.sid)
  ∧ (∀ (s u : State) (t : Nat) (n : Fin 4) (e : Event), s.at t = u →
      u.due n tyWROFF e →
      (u.sec n).chan.cut = none →
      ∃ s', exec (.wrOff t n) s = .next s' ∧
        (s'.sec n).atb.data = (u.sec n).atb.data.erase e ∧ (s'.sec n).chan.wg = false)
  ∧ (∀ (s u : State) (t : Nat) (n : Fin 4) (e : Event) (x : Sector) (f : Frag), s.at t = u →
      u.due n tyFMARK e →
      u.sidIsWrite n e.sid = false →
      u.atbState n = stLEDGE →
      (u.sec n).chan.rcv = none →
      (u.sec n).chan.rd = some x →
      x.sid = e.sid →
      x.frags = [f] →
      bitsOf e.p0 7 4 = 0 →
      bitOf e.p0 15 = false →
      e.p1 = 0 →
      ∃ s', exec (.fmark t n) s = .next s' ∧
        (s'.sec n).atb.data = (u.sec n).atb.data.erase e ∧ ((s'.sec n).chan.rd.map (fun x => x.frags.map Frag.window)) = some [some (u.fld (R.CH_SYNC n) 3 0, u.fld (R.CH_SYNC n) 14 8)])
  ∧ (∀ (s u : State) (t : Nat) (n : Fin 4) (e : Event), s.at t = u →
      u.due n tySERVOWIN e →
      ∃ s', exec (.servoWin t n) s = .next s' ∧
        (s'.sec n).atb.data = (u.sec n).atb.data.erase e ∧ (s'.sec n).atb.win = some (e.raw, e.p0 % 2 ^ 18))
  ∧ (∀ (s u : State) (t : Nat) (n : Fin 4) (e : Event), s.at t = u →
      u.due n tyASSIST e →
      u.inhibited n = false →
      ∃ s', exec (.assist t n) s = .next s' ∧
        (s'.sec n).atb.data = (u.sec n).atb.data.erase e ∧ (s'.sec n).chan.assist = e.p0 % 256)
  ∧ (∀ (s u : State) (t : Nat) (n : Fin 4) (e : Event), s.at t = u →
      u.due n tySNAPSHOT e →
      e.cpl = false →
      u.flowOn = true →
      u.bit R.FLOW_STATUS 2 = false →
      u.flowDefOn (e.p0 % 64) 1 = true →
      u.flow.fifo.length < 16 →
      ∃ s', exec (.snapshot t n) s = .next s' ∧
        (s'.sec n).atb.data = (u.sec n).atb.data.erase e ∧ s'.flow.fifo.map Trig.def_ = u.flow.fifo.map Trig.def_ ++ [e.p0 % 64] ∧ (s'.flow.fifo.getLast?.map Trig.info0) = some (e.raw % 2 ^ 25 + 67108864 * n.val))

/-- Each motion event that is due has its effect -/
def Obligations.MotionEventsFire : Prop :=
  (∀ (s u : State) (t : Nat) (n : Fin 4) (e : Event), s.at t = u →
      u.due n tyHEADSW e →
      ∃ s', exec (.headSw t n) s = .next s' ∧
        s'.head n = e.p0 % 8 ∧ s'.bit (R.ACT_STATUS n) 11 = true)
  ∧ (∀ (s u : State) (t : Nat) (n : Fin 4) (e : Event), s.at t = u →
      u.due n tySETPOINT e →
      e.p0 / 2 ^ 24 = 0 →
      e.p1 / 2 ^ 18 = 0 →
      ∃ s', exec (.setpoint t n) s = .next s' ∧
        (s'.sec n).atb.motion = (u.sec n).atb.motion.erase e ∧ (s'.sec n).act.pendSet = some (e.w2, e.w3, angleAddr e.raw e.tag))
  ∧ (∀ (s u : State) (t : Nat) (n : Fin 4) (e : Event), s.at t = u →
      u.due n tyLOOPMODE e →
      e.p0 % 4 ≠ 3 →
      e.p0 / 64 = 0 →
      ∃ s', exec (.loopMode t n) s = .next s' ∧
        (s'.sec n).atb.motion = (u.sec n).atb.motion.erase e ∧ (s'.sec n).loop.pend = some (e.w2, e.w3))
  ∧ (∀ (s u : State) (t : Nat) (n : Fin 4) (e : Event), s.at t = u →
      u.due n tyMICROJOG e →
      e.p0 / 65536 = 0 →
      e.p1 = 0 →
      ∃ s', exec (.microjog t n) s = .next s' ∧
        (s'.sec n).atb.motion = (u.sec n).atb.motion.erase e ∧ (s'.sec n).act.pendMj = some e.w2)

/-- Entries are committed, inserted and cancelled, and held records are delivered -/
def Obligations.EventEntries : Prop :=
  (∀ (s u : State) (t : Nat) (i : Initiator) (n : Fin 4) (w3 : BitVec 32) (k : Fin 5), s.at t = u →
      iniIdx i = k.val →
      u.linkUp = true →
      ∃ s', exec (.eventCommit t i n w3) s = .next s' ∧
        s' = { u with pass := { u.pass with events := u.pass.events ++ [⟨i, n, ((u.sec n).atb.staging[k])[0], ((u.sec n).atb.staging[k])[1], ((u.sec n).atb.staging[k])[2], w3⟩] } })
  ∧ (∀ (s u : State) (t : Nat) (n : Fin 4) (ang : Nat) (f : EventInFlight) (rest : List EventInFlight), s.at t = u →
      u.pass.events = f :: rest →
      f.sec = n →
      ang < REV_COUNTS →
      f.event.typ ≤ 8 →
      f.event.isRec = false →
      f.event.w < 96 →
      (u.sec n).atb.data.length < 256 →
      isFuture (extDist f.event.rev f.event.raw ((u.turnTo n ang).rev n) ((u.turnTo n ang).angle n)) = true →
      ∃ s', exec (.eventInsert t n ang) s = .next s' ∧
        s'.pass.events = rest ∧ (s'.sec n).atb.data.length = (u.sec n).atb.data.length + 1 ∧ ((s'.sec n).atb.data.getLast?.map (fun e => (e.w0, e.w1, e.w2, e.w3))) = some (f.w0, f.w1, f.w2, f.w3) ∧ s'.angle n = ang)
  ∧ (∀ (s u : State) (t : Nat) (i : Initiator) (n : Fin 4) (w : BitVec 32), s.at t = u →
      u.takesWrite i (R.ATB_CANCEL n) = true →
      ∃ s', exec (.atbCancel t i n w) s = .next s' ∧
        (s'.sec n).atb.data = (u.sec n).atb.data.filter (fun e => !((e.tag &&& (w.toNat / 65536)) == ((w.toNat % 65536) &&& (w.toNat / 65536)) && !e.isRec && (iniIsCc i || !isMotion e.typ))))
  ∧ (∀ (s u : State) (t : Nat) (n : Fin 4) (d : CplDest) (r : CplRec) (rest : List CplRec), s.at t = u →
      (u.sec n).atb.hold d = r :: rest →
      u.cplReady n d = true →
      ∃ s', exec (.completionRecordDeliver t n d) s = .next s' ∧
        (s'.sec n).atb.hold d = rest)

/-- What moves the angle and the lock of an Angle Timebase -/
def Obligations.AngleTracking : Prop :=
  (∀ (s u : State) (t : Nat) (n : Fin 4) (h : Fin 8) (data : BitVec 32), s.at t = u →
      u.linkUp = true →
      u.domOn (16 + n) = true →
      data.toNat < REV_COUNTS →
      ∃ s', exec (.atbHeadOfsWrite t .cc n h data) s = .next s' ∧
        s'.headOfs n h = data.toNat)
  ∧ (∀ (s u : State) (t : Nat) (n : Fin 4) (ang : Nat) (word : BitVec 12) (gray : BitVec 24) (bursts : BitVec 32) (st len : Nat), s.at t = u →
      u.domOn (16 + n) = true →
      (u.sec n).atb.win = some (st, len) →
      ang < REV_COUNTS →
      (ang + REV_COUNTS - st) % REV_COUNTS < len →
      ∃ s', exec (.wedgeResult t n ang true word gray bursts) s = .next s' ∧
        (s'.sec n).atb.win = none ∧ s'.rd (R.LOOP_TRK n) = grayDecode gray.toNat)
  ∧ (∀ (s u : State) (t : Nat) (n : Fin 4) (ang : Nat) (a b : BitVec 12) (r : LedgeRec), s.at t = u →
      u.domOn (16 + n) = true →
      (u.sec n).ledge[headIdx (u.head n)] = some r →
      r.ldgMin ≤ (a.toNat + b.toNat) / 2 →
      ∃ s', exec (.positionSample t n ang a b) s = .next s' ∧
        bitsOf (s'.sec n).atb.posWord.toNat 27 16 = (a.toNat + b.toNat) / 2 ∧ bitOf (s'.sec n).atb.posWord.toNat 28 = false)
  ∧ (∀ (s u : State) (t : Nat) (n : Fin 4), s.at t = u →
      u.domOn (16 + n) = true →
      u.atbState n = stWEDGE ∨ u.atbState n = stHOLDOVER →
      ((u.sec n).ledge[headIdx (u.head n)]).isSome = true →
      ∃ s', exec (.ledgeLock t n) s = .next s' ∧
        s'.atbState n = stLEDGE ∧ s'.bit (R.ATB_STATUS n) 3 = true)
  ∧ (∀ (s u : State) (t : Nat) (n : Fin 4), s.at t = u →
      u.atbState n = stHOLDOVER →
      u.rd (R.ATB_NS_PER_REV n) / 48 ≤ u.gtc - (u.sec n).atb.holdoverAt →
      ∃ s', exec (.holdoverTimeout t n) s = .next s' ∧
        s'.atbState n = stWEDGE)
  ∧ (∀ (s u : State) (t : Nat) (n : Fin 4), s.at t = u →
      u.atbState n = stLEDGE →
      ∃ s', exec (.tonePhaseLoss t n) s = .next s' ∧
        s'.atbState n = stHOLDOVER ∧ s'.winh n = true ∧ s'.rd (R.ATB_CNT_LEDGE_LOSS n) = satU 32 (u.rd (R.ATB_CNT_LEDGE_LOSS n) + 1))

/-- Passage: flits, loss of the link, link-up, isolation, posted writes and split reads -/
def Obligations.PassageLink : Prop :=
  (∀ (s u : State) (t : Nat) (side : Die) (flit : BitVec 144), s.at t = u →
      u.linkUp = true →
      eccLinkClass (chk (flit.toNat / 65536) ^^^ (flit.toNat % 65536)) = .clean →
      ∃ s', exec (.passageFlitReceive t side flit) s = .next s' ∧
        (s'.pass.rx side).replays = 0)
  ∧ (∀ (s u : State) (t : Nat) (side : Die) (flit : BitVec 144), s.at t = u →
      u.linkUp = true →
      eccLinkClass (chk (flit.toNat / 65536) ^^^ (flit.toNat % 65536)) = .ue →
      (u.pass.rx side).replays < 8 →
      ∃ s', exec (.passageFlitReceive t side flit) s = .next s' ∧
        (s'.pass.rx side).replays = (u.pass.rx side).replays + 1)
  ∧ (∀ (s u : State) (t : Nat) (side : Die) (lane : Fin 4), s.at t = u →
      u.linkUp = true →
      ∃ s', exec (.passageLaneLockLoss t side lane) s = .next s' ∧
        s'.linkUp = false ∧ s'.pass.posted = [] ∧ s'.pass.events = [])
  ∧ (∀ (s u : State) (t : Nat), s.at t = u →
      u.linkUp = false →
      u.domOn 12 = true →
      ∃ s', exec (.passageLinkUp t) s = .next s' ∧
        s'.linkUp = true ∧ s'.pass.downSince = none ∧ s'.maon.holds = [])
  ∧ (∀ (s u : State) (t : Nat) (t0 : Nat), s.at t = u →
      u.pass.downSince = some t0 →
      u.linkUp = false →
      u.pass.planned = false →
      t0 + 1000000 ≤ u.gtc →
      ∃ s', exec (.passageIsolation t) s = .next s' ∧
        s'.bit R.PASSH_STATUS 1 = true ∧ s'.bit R.PASSM_STATUS 1 = true ∧ s'.maon.safe = true)
  ∧ (∀ (s u : State) (t : Nat) (i : Initiator), s.at t = u →
      u.takesWrite i R.PASSH_CTRL = true →
      u.linkUp = true →
      ∃ s', exec (.retrain t i) s = .next s' ∧
        s'.linkUp = false ∧ s'.rd R.PASSH_DOWN_CNT = satU 32 (u.rd R.PASSH_DOWN_CNT + 1))
  ∧ (∀ (s u : State) (t : Nat) (n : Fin 4) (w : BitVec 32) (rest : List PostedWrite), s.at t = u →
      u.linkUp = true →
      u.pass.posted = ⟨.cc, R.RT_CFG n, w⟩ :: rest →
      u.domOn (16 + n) = true →
      ∃ s', exec (.passageWriteDeliver t .cc) s = .next s' ∧
        s'.pass.posted = rest ∧ s'.rd (R.RT_CFG n) = w.toNat)
  ∧ (∀ (s u : State) (t : Nat) (i : Initiator) (r : SplitRead) (rest : List SplitRead) (v : Word), s.at t = u →
      u.linkUp = true →
      takeSplit i u.pass.splits = some (r, rest) →
      r.behind = 0 →
      r.val = some v →
      ∃ s', exec (.passageReadResponse t i) s = .next s' ∧
        s'.lastRead = v ∧ s'.pass.splits = rest)
  ∧ (∀ (s u : State) (t : Nat) (i : Initiator) (r : SplitRead) (rest : List SplitRead), s.at t = u →
      takeSplit i u.pass.splits = some (r, rest) →
      r.at_ + 10000 ≤ u.gtc →
      ∃ s', exec (.splitReadTimeout t i) s = .next s' ∧
        s'.lastRead = 0#32 ∧ s'.pass.splits = rest)

/-- What the read and write channels do -/
def Obligations.ChannelCommands : Prop :=
  (∀ (s u : State) (t : Nat) (n : Fin 4) (scores : List (Int × Nat)) (x : Sector) (f : Frag), s.at t = u →
      (u.sec n).chan.arriving = none →
      (u.sec n).chan.rd = some x →
      x.frags.getLast? = some f →
      f.last = true →
      (u.sec n).chan.rdDone = false →
      ∃ s', exec (.codewordArrive t n scores) s = .next s' ∧
        (s'.sec n).chan.rdDone = true ∧ (s'.sec n).chan.rd.map Sector.sid = some x.sid)
  ∧ (∀ (s u : State) (t : Nat) (n : Fin 4) (info : List (BitVec 8)) (j : Sector) (rest : List Sector), s.at t = u →
      (u.sec n).chan.inq = j :: rest →
      j.running = true →
      ∃ s', exec (.decoderIteration t n true info) s = .next s' ∧
        (((s'.sec n).chan.up.drop (u.sec n).chan.up.length).head?.map MediaUp.sid) = some j.sid)
  ∧ (∀ (s u : State) (t : Nat) (n : Fin 4) (scores : List (Int × Nat)) (w : WrFrag), s.at t = u →
      (u.sec n).chan.wr = some w →
      w.marked = true →
      ∃ s', exec (.fragmentEnd t n scores) s = .next s' ∧
        (s'.sec n).chan.wr = none ∧ (s'.sec n).chan.wg = false)
  ∧ (∀ (s u : State) (t : Nat) (n : Fin 4) (w : WrFrag), s.at t = u →
      (u.sec n).chan.wr = some w →
      w.marked = false →
      w.frag.last = true →
      ∃ s', exec (.writeMarkTimeout t n) s = .next s' ∧
        (s'.sec n).chan.wr = none ∧ (s'.sec n).chan.wg = false ∧ s'.rd (R.CH_LAST_RES n) % 16 = resWRCUT)
  ∧ (∀ (s u : State) (t : Nat) (n : Fin 4) (b : WBlock) (rest : List WBlock), s.at t = u →
      (u.sec n).chan.down = b :: rest →
      u.linkUp = true →
      (u.sec n).chan.wbuf.length < 3 →
      ∃ s', exec (.writeBlockArrive t n) s = .next s' ∧
        s' = u.onChan n (fun c => { c with down := rest, wbuf := c.wbuf ++ [b] }))
  ∧ (∀ (s u : State) (t : Nat) (i : Initiator) (n : Fin 4) (w : BitVec 32), s.at t = u →
      u.takesWrite i (R.CH_REC_CMD n) = true →
      (u.sec n).chan.rcv = none →
      bitsOf w.toNat 7 4 = 1 →
      1 ≤ bitsOf w.toNat 11 8 →
      bitsOf w.toNat 11 8 ≤ 8 →
      ((u.sec n).chan.slots[headIdx (bitsOf w.toNat 2 0)]).isSome = true →
      ∃ s', exec (.recStart t i n w) s = .next s' ∧
        (s'.sec n).chan.rcv.map Rec.step = some 1 ∧ (s'.sec n).chan.rcv.map Rec.slot = some (bitsOf w.toNat 2 0) ∧ s'.bit (R.CH_REC_STATUS n) 0 = true)
  ∧ (∀ (s u : State) (t : Nat) (n : Fin 4) (status : BitVec 4) (s0 s1 : List (Int × Nat)) (r : Rec), s.at t = u →
      (u.sec n).chan.rcv = some r →
      r.reading = true →
      status = 0#4 →
      u.atbState n = stLEDGE →
      ∃ s', exec (.recMediaRead t n status s0 s1) s = .next s' ∧
        (s'.sec n).chan.rcv = some { r with reading := false, unfired := 0 })
  ∧ (∀ (s u : State) (t : Nat) (n : Fin 4) (k : Nat) (info : List (BitVec 8)) (r : Rec) (x : Slot), s.at t = u →
      (u.sec n).chan.rcv = some r →
      r.reading = false →
      (u.sec n).chan.inq = [] →
      (u.sec n).chan.slots[headIdx r.slot] = some x →
      r.step = 7 →
      r.idx = 0 →
      ∃ s', exec (.recDecodeDone t n false k info) s = .next s' ∧
        (s'.sec n).chan.rcv = some { r with idx := 1, reading := false, unfired := 0, iters := u.fld (R.CH_REC_CFG n) 18 12 })
  ∧ (∀ (s u : State) (t : Nat) (i : Initiator) (n : Fin 4) (w : BitVec 32) (k : Fin 8), s.at t = u →
      u.takesWrite i (R.CH_SBUF_REL n) = true →
      (u.sec n).chan.rcv = none →
      bitOf w.toNat k = true →
      ∃ s', exec (.sbufRelease t i n w) s = .next s' ∧
        (s'.sec n).chan.slots[k] = none)
  ∧ (∀ (s u : State) (t : Nat) (i : Initiator) (n : Fin 4), s.at t = u →
      u.linkUp = true →
      u.domOn (16 + n) = true →
      ∃ s', exec (.sbufDataRead t i n) s = .next s' ∧
        (s'.sec n).chan.sbufPos = (u.sec n).chan.sbufPos + 3)

/-- What the actuator drives and the loop units do -/
def Obligations.ActuatorCommands : Prop :=
  (∀ (s u : State) (t : Nat) (n : Fin 4) (isns va vb : Int), s.at t = u →
      u.domOn (16 + n) = true →
      u.ownsAct n = true →
      (satS 16 (if u.bit (R.VD_CFG n) 0 then -isns else isns)).natAbs ≤ u.fld (R.VD_ILIM n) 15 0 →
      ∃ s', exec (.vcmPwmPeriod t n isns va vb) s = .next s' ∧
        s'.fld (R.VD_MEAS n) 15 0 = ofS 16 (satS 16 (if u.bit (R.VD_CFG n) 0 then -isns else isns)) ∧ (s'.sec n).act.ocRun = 0)
  ∧ (∀ (s u : State) (t : Nat) (n : Fin 4) (r : Retract), s.at t = u →
      (u.sec n).act.retract = some r →
      r.phase = 1 →
      r.t0 + 1000000 * u.fld (R.RT_TIME n) 7 0 ≤ u.gtc →
      ∃ s', exec (.retractParkCurrent t n) s = .next s' ∧
        s' = u.onAct n (fun a => { a with retract := some { r with phase := 2 } }))
  ∧ (∀ (s u : State) (t : Nat) (n : Fin 4) (r : Retract), s.at t = u →
      (u.sec n).act.retract = some r →
      r.t0 + 1000000 * (u.fld (R.RT_TIME n) 7 0 + u.fld (R.RT_TIME n) 15 8) ≤ u.gtc →
      ∃ s', exec (.retractEnd t n) s = .next s' ∧
        (s'.sec n).act.retract = none ∧ (s'.sec n).act.gatesOff = true ∧ s'.retracting n = false ∧ s'.parked n = true ∧ s'.atbState n = stMASTER)
  ∧ (∀ (s u : State) (t : Nat) (i : Initiator) (n : Fin 4), s.at t = u →
      u.takesWrite i (R.ACT_CTRL n) = true →
      (u.sec n).act.retract = none →
      u.ownsAct n = true →
      u.domOn (16 + n) = true →
      ∃ s', exec (.park t i n) s = .next s' ∧
        (s'.sec n).act.retract = some ⟨1, u.gtc⟩ ∧ s'.retracting n = true ∧ s'.parked n = false ∧ s'.winh n = true)
  ∧ (∀ (s u : State) (t : Nat) (i : Initiator) (n : Fin 4), s.at t = u →
      u.takesWrite i (R.ACT_CTRL n) = true →
      ∃ s', exec (.ocClr t i n) s = .next s' ∧
        s' = (u.setBit (R.ACT_STATUS n) 8 false).onAct n (fun a => { a with ocRun := 0 }))
  ∧ (∀ (s u : State) (t : Nat) (i : Initiator) (n : Fin 4), s.at t = u →
      u.takesWrite i (R.ACT_CTRL n) = true →
      ∃ s', exec (.halt t i n) s = .next s' ∧
        s' = u.onAct n (fun a => { a with halt := true }))
  ∧ (∀ (s u : State) (t : Nat) (i : Initiator) (n : Fin 4) (w : BitVec 32), s.at t = u →
      u.takesWrite i (R.PRE_CMD n) = true →
      (u.sec n).act.preFrame.isSome = true →
      (u.sec n).act.preQ.length < 4 →
      ∃ s', exec (.preCmd t i n w) s = .next s' ∧
        s' = u.onAct n (fun a => { a with preQ := a.preQ ++ [w.toNat % 2 ^ 24] }))
  ∧ (∀ (s u : State) (t : Nat) (i : Initiator) (n : Fin 4) (w : BitVec 32), s.at t = u →
      u.takesWrite i (R.PRE_CMD n) = true →
      (u.sec n).act.preFrame = none →
      (u.sec n).act.preQ = [] →
      (u.sec n).act.preHead = [] →
      u.safeStands = false →
      ∃ s', exec (.preCmd t i n w) s = .next s' ∧
        (s'.sec n).act.preFrame = some (w.toNat % 2 ^ 24) ∧ (s'.sec n).act.preQ = [])
  ∧ (∀ (s u : State) (t : Nat) (n : Fin 4) (data : BitVec 16) (f : Nat), s.at t = u →
      (u.sec n).act.preFrame = some f →
      bitOf f 23 = true →
      (u.sec n).act.preQ = [] →
      (u.sec n).act.preHead = [] →
      ∃ s', exec (.preampFrameEnd t n data) s = .next s' ∧
        (s'.sec n).act.preFrame = none ∧ s'.fld (R.PRE_RESP n) 15 0 = data.toNat)
  ∧ (∀ (s u : State) (t : Nat) (n : Fin 4), s.at t = u →
      u.domOn (16 + n) = true →
      (u.sec n).act.pflt = false →
      ∃ s', exec (.preampFault t n) s = .next s' ∧
        (s'.sec n).act.pflt = true ∧ s'.bit (R.ACT_STATUS n) 12 = true ∧ s'.winh n = true)
  ∧ (∀ (s u : State) (t : Nat) (n : Fin 4), s.at t = u →
      ∃ s', exec (.pfltNDeassert t n) s = .next s' ∧
        (s'.sec n).act.pflt = false ∧ s'.bit (R.ACT_STATUS n) 12 = false)
  ∧ (∀ (s u : State) (t : Nat) (n : Fin 4) (mv : Int), s.at t = u →
      u.domOn (16 + n) = true →
      u.fld (R.SHK_CFG n) 11 0 < mv.natAbs →
      ∃ s', exec (.shock t n mv) s = .next s' ∧
        (s'.sec n).act.shockAt = u.gtc ∧ s'.bit (R.ACT_STATUS n) 7 = true)
  ∧ (∀ (s u : State) (t : Nat) (n : Fin 4), s.at t = u →
      u.bit (R.ACT_STATUS n) 7 = true →
      (u.sec n).act.shockAt + 1000 * u.fld (R.SHK_CFG n) 31 16 ≤ u.gtc →
      ∃ s', exec (.shockHoldEnd t n) s = .next s' ∧
        s' = u.setBit (R.ACT_STATUS n) 7 false)
  ∧ (∀ (s u : State) (t : Nat) (n : Fin 4), s.at t = u →
      u.domOn (16 + n) = true →
      u.loopMode n = 2 →
      (u.sec n).loop.pend = none →
      u.bridge n = .loop →
      ∃ s', exec (.loopSample t 0#4 0#4) s = .next s' ∧
        s'.rd (R.LOOP_OUT n) = 0 ∧ s'.fld R.LE_STATUS 3 0 = 0)
  ∧ (∀ (s u : State) (t : Nat) (i : Initiator), s.at t = u →
      u.takesWrite i R.LE_CTRL = true →
      ∃ s', exec (.cplCommit t i) s = .next s' ∧
        s' = u.setBit R.LE_STATUS 4 true)
  ∧ (∀ (s u : State) (t : Nat) (miss uncorr : BitVec 4) (a b : Fin 4), s.at t = u →
      u.bit R.LE_STATUS 4 = true →
      a ≠ b →
      ∃ s', exec (.loopSample t miss uncorr) s = .next s' ∧
        s'.leM[4 * a.val + b.val] = toS 16 (u.fld (R.LE_CPL (4 * a.val + b.val)) 15 0) ∧ s'.bit R.LE_STATUS 4 = false)

/-- What the spindle does -/
def Obligations.SpindleCommands : Prop :=
  (∀ (s u : State) (t : Nat) (cu cv cw : Int) (vbus : Nat), s.at t = u →
      u.domOn 15 = true →
      ∃ s', exec (.spinControlCycle t cu cv cw vbus) s = .next s' ∧
        s'.fld R.SP_VBUS 15 0 = min vbus 24000 ∧ s'.rd R.LE_ISPIN_MEAS = s'.fld R.SP_VBUS 31 16)
  ∧ (∀ (s u : State) (t : Nat) (a b : Bool), s.at t = u →
      u.domOn 15 = true →
      a ≠ u.spin.qa →
      b = u.spin.qb →
      ∃ s', exec (.encoderEdge t a b) s = .next s' ∧
        s'.spin.qa = a ∧ s'.spin.qb = b ∧ (s'.spin.count - u.spin.count).natAbs = 1)
  ∧ (∀ (s u : State) (t : Nat), s.at t = u →
      u.domOn 15 = true →
      ∃ s', exec (.encIdx t) s = .next s' ∧
        s'.fld R.SP_MANGLE 24 0 = u.fld R.SP_IDX_OFS 24 0 ∧ s'.bit R.SP_STATUS 5 = true ∧ s'.spin.count = 0)
  ∧ (∀ (s u : State) (t : Nat), s.at t = u →
      u.domOn 15 = true →
      max u.spin.edgeAt u.spin.since + 1000000 * u.fld R.SP_ENC 31 16 ≤ u.gtc →
      u.spin_ = spSPEED ∨ u.spin_ = spRUN ∨ u.spin_ = spDECEL →
      ∃ s', exec (.encoderTimeout t) s = .next s' ∧
        s'.spin_ = spFAULT ∧ s'.bit R.SP_STATUS 11 = true)
  ∧ (∀ (s u : State) (t : Nat) (i : Initiator), s.at t = u →
      u.takesWrite i R.SP_CMD = true →
      u.spin_ = spOFF →
      u.ownsSpin = true →
      u.maon.powerLossAt = none →
      ∃ s', exec (.start t i) s = .next s' ∧
        s'.spin_ = spASSESS ∧ s'.spin.probes = 0 ∧ s'.spin.since = u.gtc)
  ∧ (∀ (s u : State) (t : Nat) (i : Initiator), s.at t = u →
      u.takesWrite i R.SP_CMD = true →
      u.spin_ = spSPEED ∨ u.spin_ = spRUN →
      ∃ s', exec (.stop t i) s = .next s' ∧
        s'.spin_ = if u.bit R.SP_STATUS 10 then spZVBRAKE else spDECEL)
  ∧ (∀ (s u : State) (t : Nat) (i : Initiator), s.at t = u →
      u.takesWrite i R.SP_CMD = true →
      u.spin_ ≠ spFAULT →
      u.spin_ ≠ spGEN →
      ∃ s', exec (.coast t i) s = .next s' ∧
        s'.spin_ = spOFF)
  ∧ (∀ (s u : State) (t : Nat) (cu cv cw : Int), s.at t = u →
      u.domOn 15 = true →
      u.spin_ = spASSESS →
      u.spin.catching = false →
      u.spin.probes < 10 →
      ∃ s', exec (.assessProbe t cu cv cw) s = .next s' ∧
        s'.spin.probes = u.spin.probes + 1 ∧ s'.regs = u.regs)
  ∧ (∀ (s u : State) (t : Nat), s.at t = u →
      u.domOn 15 = true →
      u.spin_ = spASSESS →
      u.spin.catching = false →
      u.spin.since + 10000000 ≤ u.gtc →
      u.spin.assessEdge = false →
      u.spin.moved < 3 →
      ∃ s', exec (.assessEnd t) s = .next s' ∧
        s'.spin_ = spALIGN)
  ∧ (∀ (s u : State) (t : Nat), s.at t = u →
      u.domOn 15 = true →
      u.spin_ = spALIGN →
      u.spin.since + 1000000 * u.fld R.SP_ALIGN 31 16 ≤ u.gtc →
      ∃ s', exec (.alignEnd t) s = .next s' ∧
        s'.spin_ = spSPEED)
  ∧ (∀ (s u : State) (t : Nat) (i : Initiator) (w : BitVec 32), s.at t = u →
      u.takesWrite i R.SP_TGT = true →
      3600 ≤ bitsOf w.toNat 13 0 →
      bitsOf w.toNat 13 0 ≤ 10000 →
      ∃ s', exec (.spTgtWrite t i w) s = .next s' ∧
        s'.fld R.SP_TGT 13 0 = bitsOf w.toNat 13 0 ∧ s'.bit R.SP_STATUS 4 = false ∧ s'.spin.srcLost = false)
  ∧ (∀ (s u : State) (t : Nat) (vbus : Nat), s.at t = u →
      u.domOn 15 = true →
      u.bit R.SP_CHOP_CFG 8 = true →
      u.regenInh = false →
      u.fld R.SP_VBUS_TH0 15 0 < min vbus 24000 →
      ∃ s', exec (.vbusThreshold t vbus) s = .next s' ∧
        s'.spin.chop = true ∧ s'.fld R.SP_VBUS 15 0 = min vbus 24000)
  ∧ (∀ (s u : State) (t : Nat), s.at t = u →
      u.domOn 15 = true →
      u.bit R.SP_STATUS 9 = false →
      ∃ s', exec (.chopperFault t) s = .next s' ∧
        s'.bit R.SP_STATUS 9 = true ∧ s'.bit R.SP_STATUS 10 = true ∧ s'.spin.chop = false)
  ∧ (∀ (s u : State) (t : Nat) (i : Initiator) (fb : Bool), s.at t = u →
      u.takesWrite i R.SP_CTRL = true →
      fb = u.spin.chop →
      ∃ s', exec (.chopClr t i fb) s = .next s' ∧
        s' = (u.setBit R.SP_STATUS 9 false).setBit R.SP_STATUS 10 false)
  ∧ (∀ (s u : State) (t : Nat) (i : Initiator), s.at t = u →
      u.takesWrite i R.SP_CTRL = true →
      u.spin_ = spGEN →
      u.allParked = true →
      ∃ s', exec (.plDone t i) s = .next s' ∧
        s'.spin_ = spZVBRAKE)
  ∧ (∀ (s u : State) (t : Nat) (i : Initiator), s.at t = u →
      u.takesWrite i R.SP_CTRL = true →
      u.spin_ = spFAULT →
      ∃ s', exec (.faultClr t i) s = .next s' ∧
        s'.spin_ = spOFF ∧ s'.maon.powerLossAt = none)
  ∧ (∀ (s u : State) (t : Nat) (t0 : Nat), s.at t = u →
      u.domOn 15 = true →
      u.maon.powerLossAt = some t0 →
      u.spin_ = spGEN →
      t0 + 250000000 * bitsOf u.maon.plCfg.toNat 31 28 ≤ u.gtc →
      ∃ s', exec (.plTmaxExpiry t) s = .next s' ∧
        s'.spin_ = spZVBRAKE)

/-- Power domains follow PWR_DOM_CTRL; the Safe Store ports -/
def Obligations.PowerDomainsAndSafeStore : Prop :=
  (∀ (s u : State) (t : Nat) (d : Fin 20), s.at t = u →
      u.takesWrite .cc (R.PWR_DOM_CTRL d) = true →
      u.dom d = 0 →
      ((parentsOf d).all (fun k => u.domOn k)) = true →
      d.val ≠ 2 →
      u.pwr.retained[d] = false →
      ∃ s', exec (.domainOn t .cc d false) s = .next s' ∧
        s'.dom d = 1 ∧ s'.target d = true)
  ∧ (∀ (s u : State) (t : Nat) (d : Fin 20), s.at t = u →
      u.takesWrite .cc (R.PWR_DOM_CTRL d) = true →
      u.dom d = 2 →
      alwaysOn d = false →
      u.offOk d = true →
      ∃ s', exec (.domainOff t .cc d false) s = .next s' ∧
        s'.dom d = 3 ∧ s'.target d = false)
  ∧ (∀ (s u : State) (t : Nat) (d : Fin 20), s.at t = u →
      u.dom d = 1 →
      u.target d = true →
      ∃ s', exec (.domainSequenceEnd t d) s = .next s' ∧
        s'.domOn d = true ∧ s'.bit R.PWR_INT_STATUS d = true)
  ∧ (∀ (s u : State) (t : Nat) (d : Fin 20), s.at t = u →
      u.dom d = 3 →
      u.target d = false →
      alwaysOn d = false →
      ∃ s', exec (.domainSequenceEnd t d) s = .next s' ∧
        s'.dom d = 0 ∧ s'.bit R.PWR_INT_STATUS d = true ∧ s'.pwr.retained[d] = u.bit (R.PWR_DOM_CTRL d) 1)
  ∧ (∀ (s u : State) (t : Nat) (i : Initiator) (p : Fin 3), s.at t = u →
      ssOwner p i = true →
      u.bit (R.SS_STATUS p) 0 = false →
      ssBad (u.ssRun p 1) = false →
      u.ssInRange p (u.ssRun p 1) = true →
      ∃ s', exec (.ssCmdRead t i p) s = .next s' ∧
        s'.pwr.ss[p] = some (u.ssRun p 1) ∧ s'.rd (R.SS_STATUS p) = 1)
  ∧ (∀ (s u : State) (t : Nat) (i : Initiator) (p : Fin 3), s.at t = u →
      ssOwner p i = true →
      u.bit (R.SS_STATUS p) 0 = false →
      ssBad (u.ssRun p 2) = false →
      u.ssInRange p (u.ssRun p 2) = true →
      ∃ s', exec (.program t i p) s = .next s' ∧
        s'.pwr.ss[p] = some (u.ssRun p 2) ∧ s'.rd (R.SS_STATUS p) = 1)
  ∧ (∀ (s u : State) (t : Nat) (i : Initiator) (p : Fin 3), s.at t = u →
      ssOwner p i = true →
      u.bit (R.SS_STATUS p) 0 = false →
      ssBad (u.ssRun p 3) = false →
      u.ssInRange p (u.ssRun p 3) = true →
      ∃ s', exec (.ssCmdErase t i p) s = .next s' ∧
        s'.pwr.ss[p] = some (u.ssRun p 3) ∧ s'.rd (R.SS_STATUS p) = 1)
  ∧ (∀ (s u : State) (t : Nat) (p : Fin 3) (r : SsRun), s.at t = u →
      u.pwr.ss[p] = some r →
      u.fld R.BUF_DUMP_STATUS 1 0 ≠ 1 →
      ∃ s', exec (.ssCommandDone t p false) s = .next s' ∧
        s'.pwr.ss[p] = none ∧ s'.rd (R.SS_STATUS p) = 0)

/-- Resets, the start of the part, and the watchdogs -/
def Obligations.ResetsAndStart : Prop :=
  (∀ (s u : State) (t : Nat) (brownout : Bool), s.at t = u →
      ∃ s', exec (.powerOnReset t brownout) s = .next s' ∧
        s'.store = u.store ∧ s'.fuses = u.fuses ∧ s'.pending = u.pending ∧ s'.dram = [] ∧ s'.gtc = 0 ∧ s'.pwr.por = true ∧ s'.bit R.PWR_RST_CAUSE 1 = brownout)
  ∧ (∀ (s u : State) (t : Nat) (a b c d : Bool), s.at t = u →
      u.pwr.por = true →
      ∃ s', exec (.porDeassert t a b c d) s = .next s' ∧
        s'.pwr.por = false ∧ s'.rd R.PWR_STRAP = b2n a + 2 * b2n b + 4 * b2n c ∧ s'.pwr.chmOff = (b && d))
  ∧ (∀ (s u : State) (t : Nat), s.at t = u →
      u.pwr.por = false →
      ∃ s', exec (.gtcStart t) s = .next s' ∧
        s'.gtcRun = true ∧ s'.pwr.mgmtUp = true ∧ s'.gtc = u.gtc)
  ∧ (∀ (s u : State) (t : Nat), s.at t = u →
      u.takesWrite .cc R.PWR_RST_CTRL = true →
      ∃ s', exec (.chip t .cc) s = .next s' ∧
        s' = { u with sump := { u.sump with chipResetSw := true } })
  ∧ (∀ (s u : State) (t : Nat), s.at t = u →
      u.sump.chipResetSw = true →
      u.domsQuiet = true →
      ∃ s', exec (.chipReset t) s = .next s' ∧
        s'.sump.chipReset = false ∧ s'.sump.chipResetSw = false ∧ s'.dom 7 = 0 ∧ s'.bit R.PWR_RST_CAUSE 3 = true ∧ s'.mbox = {})
  ∧ (∀ (s u : State) (t : Nat), s.at t = u →
      u.pwr.por = false →
      u.gtcRun = true →
      u.pwr.rom = false →
      u.wounserUp = false →
      u.bootStage = 0 →
      u.sump.ccoreReset = false →
      u.lcState ≠ 5 →
      u.lcState ≠ 0 →
      u.bit R.PWR_STRAP 2 = false →
      u.directory = none →
      ∃ s', exec (.bootRomStart t) s = .next s' ∧
        s'.pwr.rom = true ∧ s'.bootStage = 4 ∧ s'.fld R.PWR_BOOT_STATUS 15 8 = 1 ∧ s'.target 5 = true)
  ∧ (∀ (s u : State) (t : Nat) (v : Nat), s.at t = u →
      u.pwr.rom = true →
      u.wounserUp = false →
      u.lcState ≠ 5 →
      u.pwr.winWounser = some v →
      ∃ s', exec (.wounserStart t) s = .next s' ∧
        s'.wounserUp = true ∧ s'.bootStage = 2 ∧ s'.pwr.rom = false ∧ s'.fld R.MB_VER 30 0 = v % 2 ^ 31)
  ∧ (∀ (s u : State) (t : Nat), s.at t = u →
      u.sump.ccoreReset = true →
      ∃ s', exec (.ccoreReset t) s = .next s' ∧
        s'.sump.ccoreReset = false ∧ s'.wounserUp = false ∧ s'.mbox.order = [])
  ∧ (∀ (s u : State) (t : Nat) (c : Fin 4), s.at t = u →
      u.takesWrite .cc R.PWR_RST_CTRL = true →
      ∃ s', exec (.appCoreReset t .cc c) s = .next s' ∧
        s'.pwr.appRun[c] = (u.domOn (if c.val < 2 then 5 else 6) && u.bootStage == 3))
  ∧ (∀ (s u : State) (t : Nat) (i : Initiator) (w : BitVec 32), s.at t = u →
      u.takesWrite i R.PWR_WDOG_KICK = true →
      w = 0x4B43#32 →
      u.bit R.PWR_WDOG_CFG 31 = true →
      ∃ s', exec (.wdogKick t i w) s = .next s' ∧
        s' = { u with pwr := { u.pwr with wdogAt := u.gtc, wdogTmo := u.fld R.PWR_WDOG_CFG 15 0 } })
  ∧ (∀ (s u : State) (t : Nat) (i : Initiator) (w : BitVec 32), s.at t = u →
      u.takesWrite i R.PWR_MWDOG_KICK = true →
      w = 0x4B43#32 →
      u.bit R.PWR_MWDOG_CFG 31 = true →
      ∃ s', exec (.mwdogKick t i w) s = .next s' ∧
        s' = { u with pwr := { u.pwr with mwdogAt := u.gtc, mwdogTmo := u.fld R.PWR_MWDOG_CFG 15 0 } })
  ∧ (∀ (s u : State) (t : Nat), s.at t = u →
      u.bit R.PWR_WDOG_CFG 31 = true →
      u.sump.ccoreReset = false →
      u.pwr.wdogAt + 1000000 * u.pwr.wdogTmo ≤ u.gtc →
      ∃ s', exec (.wdogExpiry t) s = .next s' ∧
        s'.sump.ccoreReset = true ∧ s'.sump.safeLine = true ∧ s'.safe = true ∧ s'.bit R.PWR_RST_CAUSE 5 = true)

/-- Sump and the safe state -/
def Obligations.SumpCommands : Prop :=
  (∀ (s u : State) (t : Nat) (m : HeldMsg), s.at t = u →
      lowestMsg u.offered u.sump.held = some m →
      u.sump.cfgDiff = [] →
      u.sump.unread true < 256 →
      u.sump.unread false < 256 →
      ∃ s', exec (.faultAccept t) s = .next s' ∧
        s'.sump.log.getLast?.map (fun e => (e.src, e.kind, e.addr, e.merge)) = some (m.src, m.kind, m.addr, m.merge))
  ∧ (∀ (s u : State) (t : Nat), s.at t = u →
      u.pwr.por = true →
      ∃ s', exec (.safeReqN t) s = .next s' ∧
        s' = { u with maon := { u.maon with safeReq := true } })
  ∧ (∀ (s u : State) (t : Nat), s.at t = u →
      u.pwr.por = false →
      u.maon.safe = false →
      ∃ s', exec (.safeReqN t) s = .next s' ∧
        s'.maon.safe = true ∧ s'.maon.safeReq = true ∧ s'.safe = true ∧ s'.pinErrN = .low ∧ ∀ k : Fin 4, s'.winh k = true ∧ s'.pinWgN k = .high)
  ∧ (∀ (s u : State) (t : Nat), s.at t = u →
      ∃ s', exec (.safeReqNDeassert t) s = .next s' ∧
        s' = { u with maon := { u.maon with safeReq := false } })
  ∧ (∀ (s u : State) (t : Nat), s.at t = u →
      u.domOn 15 = true →
      u.safeStands = true →
      u.allParked = true →
      u.spin_ = spSPEED ∨ u.spin_ = spRUN →
      u.bit R.SUMP_CFG 2 = false →
      ∃ s', exec (.safeStateBrake t) s = .next s' ∧
        s'.spin_ = if u.bit R.SP_STATUS 10 then spZVBRAKE else spDECEL)
  ∧ (∀ (s u : State) (t : Nat), s.at t = u →
      u.sump.cfgDiff ≠ [] →
      ∃ s', exec (.configCheck t) s = .next s' ∧
        s'.sump.cfgDiff = [] ∧ s'.bit R.SUMP_STATUS 2 = true ∧ s'.sump.safeLine = true ∧ s'.rd R.SUMP_CFG = (resetOf R.SUMP_CFG).toNat)
  ∧ (∀ (s u : State) (t : Nat) (i : Initiator) (e : LogEntry), s.at t = u →
      u.logHead i = some e →
      ∃ s', exec (.sumpMsgHeadRead t i) s = .next s' ∧
        s'.lastRead = BitVec.ofNat 32 (msgWord e.src e.kind e.addr))
  ∧ (∀ (s u : State) (t : Nat) (i : Initiator), s.at t = u →
      u.takesWrite i R.SUMP_MSG_POP = true →
      u.sump.unread (iniIsCc i) ≠ 0 →
      ∃ s', exec (.sumpMsgPop t i) s = .next s' ∧
        s'.sump.unread (iniIsCc i) + 1 = u.sump.unread (iniIsCc i))
  ∧ (∀ (s u : State) (t : Nat) (i : Initiator), s.at t = u →
      u.takesWrite i R.SUMP_CTRL = true →
      u.safe = false →
      ∃ s', exec (.errClr t i) s = .next s' ∧
        s' = { u with sump := { u.sump with errCause := false, chipErr := false } })
  ∧ (∀ (s u : State) (t : Nat) (i : Initiator), s.at t = u →
      u.takesWrite i R.SUMP_CTRL = true →
      ∃ s', exec (.fatalClr t i) s = .next s' ∧
        s' = u.setBit R.SUMP_STATUS 1 false)
  ∧ (∀ (s u : State) (t : Nat) (i : Initiator), s.at t = u →
      u.takesWrite i R.SUMP_CTRL = true →
      ∃ s', exec (.cfgOk t i) s = .next s' ∧
        s' = u.setBit R.SUMP_STATUS 2 false)
  ∧ (∀ (s u : State) (t : Nat) (i : Initiator), s.at t = u →
      u.takesWrite i R.SUMP_CTRL = true →
      ∃ s', exec (.firstClr t i) s = .next s' ∧
        s'.rd64 R.SUMP_FIRST_LO R.SUMP_FIRST_HI = 0)
  ∧ (∀ (s u : State) (t : Nat) (i : Initiator) (w : BitVec 32), s.at t = u →
      u.takesWrite i R.SUMP_INJ = true →
      u.lcState = 1 →
      ∃ s', exec (.injGo t i w) s = .next s' ∧
        s'.sump.held = u.sump.held ++ [⟨bitsOf w.toNat 9 0, bitsOf w.toNat 15 10, u.rd64 R.SUMP_INJ_ADDR_LO R.SUMP_INJ_ADDR_HI % 2 ^ 48, 0, true⟩])
  ∧ (∀ (s u : State) (t : Nat) (i : Initiator), s.at t = u →
      u.takesWrite i R.SUMP_INJ = true →
      u.lcState = 1 →
      ∃ s', exec (.injPath t i) s = .next s' ∧
        s'.sump.safeLine = true ∧ s'.safe = true)
  ∧ (∀ (s u : State) (t : Nat) (i : Initiator) (w : BitVec 32) (k : Nat), s.at t = u →
      u.takesWrite i R.SUMP_INJ = true →
      u.lcState = 1 →
      k = bitsOf w.toNat 15 10 →
      kindUsed k = true →
      ∃ s', exec (.cfgflip t i w) s = .next s' ∧
        spGet (u.reg (R.SUMP_KIND_CFG k)) s'.sump.cfgDiff (R.SUMP_KIND_CFG k) = spGet (u.reg (R.SUMP_KIND_CFG k)) u.sump.cfgDiff (R.SUMP_KIND_CFG k) ^^^ 1#32)
  ∧ (∀ (s u : State) (t : Nat) (x : Int), s.at t = u →
      toS 16 (u.fld R.SUMP_TEMP 15 0) ≤ x →
      u.sump.warnSent = false →
      ∃ s', exec (.overtemp t x) s = .next s' ∧
        s'.sump.junction = x ∧ (s'.sump.held.any (fun m => m.src == 0 && m.kind == kOVERTEMP)) = true)
  ∧ (∀ (s u : State) (t : Nat), s.at t = u →
      ∃ s', exec (.lockstep t) s = .next s' ∧
        (s'.sump.held.any (fun m => m.src == 224 && m.kind == kLOCKSTEP)) = true)

/-- The fuse commands and JTAG -/
def Obligations.FuseCommands : Prop :=
  (∀ (s u : State) (t : Nat) (i : Initiator), s.at t = u →
      u.takesWrite i R.LCS_FUSE_CMD = true →
      u.bit R.LCS_FUSE_STATUS 0 = false →
      u.lcState = 0 →
      u.fuses.devidDone = false →
      ∃ s', exec (.progDevid t i) s = .next s' ∧
        s'.rd R.LCS_FUSE_CMD = 1 ∧ s'.rd R.LCS_FUSE_STATUS = 1)
  ∧ (∀ (s u : State) (t : Nat) (i : Initiator) (k : Bool), s.at t = u →
      u.takesWrite i R.LCS_FUSE_CMD = true →
      u.bit R.LCS_FUSE_STATUS 0 = false →
      u.oemRefusal (if k then 1 else 0) = none →
      ∃ s', exec (.progOemkey t i k) s = .next s' ∧
        s'.rd R.LCS_FUSE_CMD = 2 + 16 * b2n k ∧ s'.rd R.LCS_FUSE_STATUS = 1)
  ∧ (∀ (s u : State) (t : Nat) (i : Initiator) (k : BitVec 2), s.at t = u →
      u.takesWrite i R.LCS_FUSE_CMD = true →
      u.bit R.LCS_FUSE_STATUS 0 = false →
      u.revokeRefusal k.toNat = none →
      ∃ s', exec (.revoke t i k) s = .next s' ∧
        s'.rd R.LCS_FUSE_CMD = 3 + 16 * k.toNat ∧ s'.rd R.LCS_FUSE_STATUS = 1)
  ∧ (∀ (s u : State) (t : Nat) (kind : BitVec 2) (v : BitVec 6), s.at t = u →
      u.takesWrite .cc R.LCS_FUSE_CMD = true →
      u.bit R.LCS_FUSE_STATUS 0 = false →
      u.lcState ≠ 5 →
      ∃ s', exec (.advSvn t .cc kind v) s = .next s' ∧
        s'.rd R.LCS_FUSE_CMD = 4 + 256 * kind.toNat + 65536 * v.toNat ∧ s'.rd R.LCS_FUSE_STATUS = 1)
  ∧ (∀ (s u : State) (t : Nat), s.at t = u →
      u.bit R.LCS_FUSE_STATUS 0 = true →
      u.rd R.LCS_FUSE_CMD % 8 = 3 →
      ∃ s', exec (.fuseProgramDone t true) s = .next s' ∧
        s'.fuses.revoked = u.fuses.revoked ||| 2 ^ bitsOf (u.rd R.LCS_FUSE_CMD) 5 4 ∧ s'.rd R.LCS_FUSE_STATUS = 0)
  ∧ (∀ (s u : State) (t : Nat) (k : Fin 3), s.at t = u →
      u.bit R.LCS_FUSE_STATUS 0 = true →
      u.rd R.LCS_FUSE_CMD % 8 = 4 →
      k.val = bitsOf (u.rd R.LCS_FUSE_CMD) 9 8 →
      bitsOf (u.rd R.LCS_FUSE_CMD) 21 16 ≤ 32 →
      u.fuses.svn[k] < bitsOf (u.rd R.LCS_FUSE_CMD) 21 16 →
      ∃ s', exec (.fuseProgramDone t true) s = .next s' ∧
        s'.fuses.svn[k] = bitsOf (u.rd R.LCS_FUSE_CMD) 21 16 ∧ s'.rd R.LCS_FUSE_STATUS = 0)
  ∧ (∀ (s u : State) (t : Nat), s.at t = u →
      ∃ s', exec (.jtagInstruction t .extest) s = .next s' ∧
        s'.sump.safeLine = true ∧ s'.safe = true)
  ∧ (∀ (s u : State) (t : Nat) (g : Fin 4), s.at t = u →
      u.bit R.LCS_DBG g = false →
      ∃ s', exec (.jtagInstruction t (.gated g)) s = .next s' ∧
        s' = State.bump { u with pwr := { u.pwr with jtag := .bypass } } R.LCS_CNT_DBGDENY)

/-- The resets of a host port and the enable of a controller -/
def Obligations.HostPortResets : Prop :=
  (∀ (s u : State) (t : Nat) (p : Port) (cc aqa : BitVec 32) (asq acq : BitVec 64), s.at t = u →
      u.hostOn p = true →
      u.ccEn p = false →
      bitOf cc.toNat 0 = true →
      ∃ s', exec (.controllerEnable t p cc aqa asq acq) s = .next s' ∧
        (s'.port p).cc = cc ∧ (s'.sq? p 0).map (fun x => (x.base, x.size)) = some (asq.toNat, bitsOf aqa.toNat 11 0 + 1) ∧ (s'.cq? p 0).map (fun x => (x.base, x.size)) = some (acq.toNat, bitsOf aqa.toNat 27 16 + 1))
  ∧ (∀ (s u : State) (t : Nat) (p : Port), s.at t = u →
      u.hostOn p = true →
      u.ccEn p = true →
      ∃ s', exec (.controllerReset t p) s = .next s' ∧
        s'.ccEn p = false ∧ s'.sq? p 0 = none ∧ s'.cq? p 0 = none ∧ (s'.port p).reads = [] ∧ (s'.port p).up = (u.port p).up)
  ∧ (∀ (s u : State) (t : Nat) (p : Port), s.at t = u →
      u.hostOn p = true →
      ∃ s', exec (.functionLevelReset t p) s = .next s' ∧
        s'.ccEn p = false ∧ s'.sq? p 0 = none ∧ (s'.port p).asq = 0 ∧ (s'.port p).acq = 0 ∧ (s'.port p).up = (u.port p).up)
  ∧ (∀ (s u : State) (t : Nat) (p : Port), s.at t = u →
      u.hostOn p = true →
      ∃ s', exec (.conventionalReset t p) s = .next s' ∧
        s'.ccEn p = false ∧ s'.sq? p 0 = none ∧ (s'.port p).up = false)
  ∧ (∀ (s u : State) (t : Nat) (p : Port) (w : BitVec 32), s.at t = u →
      u.hostOn p = true →
      w = 0x4E564D65#32 →
      ∃ s', exec (.nvmSubsystemReset t p w) s = .next s' ∧
        (s'.port .a).nssro = true ∧ (s'.port .b).nssro = true ∧ s'.ccEn .a = false ∧ s'.ccEn .b = false ∧ s'.sq? .a 0 = none ∧ s'.sq? .b 0 = none)
  ∧ (∀ (s u : State) (t : Nat) (p : Port) (shn : BitVec 2), s.at t = u →
      u.hostOn p = true →
      ∃ s', exec (.shutdownNotification t p shn) s = .next s' ∧
        bitsOf (s'.port p).cc.toNat 15 14 = shn.toNat ∧ s'.bit R.QENG_INT_STATUS (9 + (portNo p).val) = true)
  ∧ (∀ (s u : State) (t : Nat) (p : Port), s.at t = u →
      u.domOn (1 + (portNo p).val) = true →
      u.domOn 3 = true →
      p = .a ∨ u.dual = true →
      ∃ s', exec (.pcieLinkTrained t p) s = .next s' ∧
        s' = u.setPort p { u.port p with up := true })

/-- Queue contexts, doorbells and fetch -/
def Obligations.QueueCommands : Prop :=
  (∀ (s u : State) (t : Nat) (i : Initiator) (q : Nat), s.at t = u →
      u.takesWrite i R.QENG_QCMD = true →
      u.bit R.QENG_QSTAT 0 = false →
      q = u.fld R.QENG_QSEL 15 0 →
      u.bit R.QENG_QSEL 16 = true →
      u.bit R.QENG_QSEL 17 = false →
      u.cq? .a q = none →
      q ≠ 0 →
      q < u.qidRange .a →
      u.fld (R.QENG_QCTX 2) 15 0 ≠ 0 →
      u.rd64 (R.QENG_QCTX 0) (R.QENG_QCTX 1) % 2 ^ (12 + bitsOf (u.port .a).cc.toNat 10 7) = 0 →
      u.fld (R.QENG_QCTX 3) 10 0 < u.vectors →
      ∃ s', exec (.queueCreate t i) s = .next s' ∧
        s'.cq? .a q = some { base := u.rd64 (R.QENG_QCTX 0) (R.QENG_QCTX 1), size := u.fld (R.QENG_QCTX 2) 15 0 + 1, ien := u.bit (R.QENG_QCTX 2) 16, iv := u.fld (R.QENG_QCTX 3) 10 0 } ∧ s'.rd R.QENG_QSTAT = 0)
  ∧ (∀ (s u : State) (t : Nat) (i : Initiator) (q : Nat) (c : Cq), s.at t = u →
      u.takesWrite i R.QENG_QCMD = true →
      u.bit R.QENG_QSTAT 0 = false →
      q = u.fld R.QENG_QSEL 15 0 →
      u.bit R.QENG_QSEL 16 = false →
      u.bit R.QENG_QSEL 17 = false →
      u.sq? .a q = none →
      u.cq? .a (u.fld (R.QENG_QCTX 3) 15 0) = some c →
      q ≠ 0 →
      q < u.qidRange .a →
      u.fld (R.QENG_QCTX 2) 15 0 ≠ 0 →
      u.rd64 (R.QENG_QCTX 0) (R.QENG_QCTX 1) % 2 ^ (12 + bitsOf (u.port .a).cc.toNat 10 7) = 0 →
      u.bit (R.QENG_QCTX 2) 30 = false →
      ∃ s', exec (.queueCreate t i) s = .next s' ∧
        s'.sq? .a q = some { base := u.rd64 (R.QENG_QCTX 0) (R.QENG_QCTX 1), size := u.fld (R.QENG_QCTX 2) 15 0 + 1, prio := u.fld (R.QENG_QCTX 2) 17 16, group := u.fld (R.QENG_QCTX 2) 29 18, vx := false, xu := none, cqid := u.fld (R.QENG_QCTX 3) 15 0 } ∧ s'.rd R.QENG_QSTAT = 0)
  ∧ (∀ (s u : State) (t : Nat) (i : Initiator) (q : Nat), s.at t = u →
      u.takesWrite i R.QENG_QCMD = true →
      u.bit R.QENG_QSTAT 0 = false →
      q = u.fld R.QENG_QSEL 15 0 →
      u.bit R.QENG_QSEL 16 = true →
      u.bit R.QENG_QSEL 17 = false →
      (u.cq? .a q).isSome = true →
      ((u.sqsOf .a).any (fun x => x.2.cqid == q)) = false →
      q ≠ 0 →
      q < u.qidRange .a →
      ∃ s', exec (.queueDelete t i) s = .next s' ∧
        s'.cq? .a q = none ∧ s'.rd R.QENG_QSTAT = 0)
  ∧ (∀ (s u : State) (t : Nat) (i : Initiator) (q : Nat), s.at t = u →
      u.takesWrite i R.QENG_QCMD = true →
      u.bit R.QENG_QSTAT 0 = false →
      q = u.fld R.QENG_QSEL 15 0 →
      u.bit R.QENG_QSEL 16 = false →
      u.bit R.QENG_QSEL 17 = false →
      (u.sq? .a q).isSome = true →
      u.qeng.slots = [] →
      q ≠ 0 →
      q < u.qidRange .a →
      ∃ s', exec (.queueDelete t i) s = .next s' ∧
        s'.sq? .a q = none ∧ s'.rd R.QENG_QSTAT = 0)
  ∧ (∀ (s u : State) (t : Nat) (i : Initiator) (x : Cq), s.at t = u →
      u.takesWrite i R.QENG_QCMD = true →
      u.bit R.QENG_QSTAT 0 = false →
      u.bit R.QENG_QSEL 16 = true →
      u.bit R.QENG_QSEL 17 = false →
      u.cq? .a (u.fld R.QENG_QSEL 15 0) = some x →
      ∃ s', exec (.queueRead t i) s = .next s' ∧
        s'.rd (R.QENG_QCTX 0) = x.base % 2 ^ 32 ∧ s'.rd (R.QENG_QCTX 1) = x.base / 2 ^ 32 % 2 ^ 32 ∧ s'.rd (R.QENG_QCTX 3) = x.iv % 2 ^ 32 ∧ s'.rd R.QENG_QSTAT = 0)
  ∧ (∀ (s u : State) (t : Nat) (p : Port) (off q : Nat) (w : BitVec 32) (x : Sq), s.at t = u →
      u.hostOn p = true →
      u.ccEn p = true →
      q < u.qidRange p →
      q < 65536 →
      off = 0x1000 + 8 * q →
      u.sq? p q = some x →
      x.deleting = false →
      w.toNat < x.size →
      x.entries ≤ (w.toNat + x.size - x.head) % x.size →
      ∃ s', exec (.doorbellWrite t p off 4 w) s = .next s' ∧
        s' = u.putSq p q { x with tail := w.toNat })
  ∧ (∀ (s u : State) (t : Nat) (p : Port) (off q : Nat) (w : BitVec 32) (x : Cq), s.at t = u →
      u.hostOn p = true →
      u.ccEn p = true →
      q < u.qidRange p →
      q < 65536 →
      off = 0x1004 + 8 * q →
      u.cq? p q = some x →
      w.toNat < x.size →
      (w.toNat + x.size - x.head) % x.size ≤ (x.tail + x.size - x.head) % x.size →
      ∃ s', exec (.doorbellWrite t p off 4 w) s = .next s' ∧
        s' = u.putCq p q { x with head := w.toNat })
  ∧ (∀ (s u : State) (t : Nat) (p : Port) (x : Sq), s.at t = u →
      u.hostOn p = true →
      u.qeng.lastPort ≠ some p →
      u.sq? p 0 = some x →
      u.sqReady p 0 x = true →
      ∃ s', exec (.fetchDecision t p) s = .next s' ∧
        s'.sq? p 0 = some { x with head := (x.head + 1) % x.size } ∧ (s'.port p).reads.map FetchRun.n = (u.port p).reads.map FetchRun.n ++ [1])
  ∧ (∀ (s u : State) (t : Nat) (p : Port) (entries : List (List (BitVec 32))) (x : Sq) (q f k : Nat) (e : List (BitVec 32)) (rest : List FetchRun), s.at t = u →
      u.domOn 3 = true →
      (u.port p).reads = ⟨q, f, 1, [k]⟩ :: rest →
      u.sq? p q = some x →
      x.deleting = false →
      entries = [e] →
      fuseOf e = 0 →
      ∃ s', exec (.sqFetchComplete t p true entries) s = .next s' ∧
        (s'.slot? k).map CmdSlot.cid = some (bitsOf (entryW e 0) 31 16) ∧ (s'.port p).reads = rest)
  ∧ (∀ (s u : State) (t : Nat) (i : Initiator) (w : Word) (r : List Word), s.at t = u →
      u.domOn 3 = true →
      u.qeng.dberr = w :: r →
      ∃ s', exec (.qengDberrPop t i) s = .next s' ∧
        s'.lastRead = w ∧ s'.qeng.dberr = r)

/-- Dispatch, completion, interrupts and aborts -/
def Obligations.SlotsAndCompletions : Prop :=
  (∀ (s u : State) (t : Nat) (c : Fin 4) (r : DispRec) (rest : List DispRec), s.at t = u →
      u.domOn 3 = true →
      u.rd (R.QENG_DISP_SIZE c) ≠ 0 →
      ringFull (u.rd (R.QENG_DISP_PROD c)) (u.rd (R.QENG_DISP_CONS c)) (u.rd (R.QENG_DISP_SIZE c)) = false →
      firstRec (u.bit R.QENG_PS_CTRL 0) u.qeng.dispQ[c] = some (r, rest) →
      ∃ s', exec (.dispatchRecord t c) s = .next s' ∧
        s'.rd (R.QENG_DISP_PROD c) = ringNext (u.rd (R.QENG_DISP_PROD c)) (u.rd (R.QENG_DISP_SIZE c)) ∧ s'.bit R.QENG_INT_STATUS c = true)
  ∧ (∀ (s u : State) (t : Nat) (i : Initiator) (w3 : BitVec 32) (k : Nat) (x : CmdSlot), s.at t = u →
      u.takesWrite i (R.QENG_CPL_W 3) = true →
      k = iniGet 0 u.qeng.cpl0 i % 1024 →
      u.slot? k = some x →
      x.win = false →
      x.fate = .live →
      x.posted = false →
      ∃ s', exec (.completionPost t i w3) s = .next s' ∧
        (s'.slot? k).map CmdSlot.post = some (some (BitVec.ofNat 32 (iniGet 0 u.qeng.cpl1 i), BitVec.ofNat 32 (iniGet 0 u.qeng.cpl2 i), w3.toNat % 32768)) ∧ (s'.slot? k).map CmdSlot.released = some true)
  ∧ (∀ (s u : State) (t : Nat) (slot : Nat) (x : CmdSlot) (d0 d1 : Word) (st : Nat) (q : Sq) (c : Cq), s.at t = u →
      u.domOn 3 = true →
      u.slot? slot = some x →
      x.post = some (d0, d1, st) →
      u.sq? x.port x.sqid = some q →
      x.committed = false →
      x.fate ≠ .discarded →
      (u.port x.port).cfs = false →
      u.ordReady x = true →
      u.fuseReady x = true →
      u.cq? x.port q.cqid = some c →
      (c.tail + 1) % c.size ≠ c.head →
      c.ien = false →
      ∃ s', exec (.completionCommit t slot) s = .next s' ∧
        s'.toHost = u.toHost ++ [.write x.port (c.base + 16 * c.tail) (wordsToBytes [d0.toNat, d1.toNat, q.head + 65536 * x.sqid, x.cid + 65536 * b2n c.phase + 131072 * st]) false])
  ∧ (∀ (s u : State) (t : Nat) (p : Port) (v : Nat) (r : IcRun), s.at t = u →
      u.domOn 3 = true →
      findKey (2048 * (portNo p).val + v) u.qeng.icRun = some r →
      r.first + 100000 * bitsOf (u.icCfg p v) 15 8 ≤ u.gtc →
      2048 * (portNo p).val + v ∈ u.qeng.unmasked →
      ∃ s', exec (.interruptCoalescingTimeout t p v) s = .next s' ∧
        s'.toHost = u.toHost ++ [.msix p v])
  ∧ (∀ (s u : State) (t : Nat) (p : Port) (v : Nat), s.at t = u →
      u.hostOn p = true →
      v < u.vectors →
      2048 * (portNo p).val + v ∈ u.qeng.msixPend →
      ∃ s', exec (.msixUnmask t p v) s = .next s' ∧
        s'.toHost = u.toHost ++ [.msix p v])
  ∧ (∀ (s u : State) (t : Nat) (i : Initiator) (w : BitVec 32) (k : Nat) (x : CmdSlot), s.at t = u →
      u.takesWrite i R.QENG_ABORT1 = true →
      u.qeng.slots = [(k, x)] →
      x.port = .a →
      bitOf (iniGet 0 u.qeng.abort0 i) 16 = false →
      x.sqid = iniGet 0 u.qeng.abort0 i % 65536 →
      x.cid = w.toNat % 65536 →
      x.committed = false →
      x.fate = .live →
      ∃ s', exec (.abortLookup t i w) s = .next s' ∧
        iniGet 0 s'.qeng.abortRes i = 1 + 4 * k ∧ (s'.slot? k).map CmdSlot.fate = some .aborted)
  ∧ (∀ (s u : State) (t : Nat) (i : Initiator) (w : BitVec 32) (k : Nat) (x : CmdSlot), s.at t = u →
      u.takesWrite i R.QENG_SLOT_REL = true →
      k = w.toNat % 1024 →
      u.slot? k = some x →
      x.win = false →
      x.committed = true →
      ∃ s', exec (.slotRelease t i w) s = .next s' ∧
        s'.slot? k = none)
  ∧ (∀ (s u : State) (t : Nat) (i : Initiator) (p : Port) (on : Bool), s.at t = u →
      u.takesWrite i R.QENG_CTRL = true →
      ∃ s', exec (.pause t i p on) s = .next s' ∧
        s'.bit R.QENG_CTRL (2 + (portNo p).val) = on)
  ∧ (∀ (s u : State) (t : Nat) (p : Port), s.at t = u →
      u.domOn 3 = true →
      u.bit R.QENG_CTRL (2 + (portNo p).val) = true →
      (u.port p).reads = [] →
      ∃ s', exec (.fetchQuiesced t p) s = .next s' ∧
        (s'.port p).pp = true)
  ∧ (∀ (s u : State) (t : Nat) (i : Initiator) (on : Bool), s.at t = u →
      u.takesWrite i R.QENG_PS_CTRL = true →
      ∃ s', exec (.hold t i on) s = .next s' ∧
        s' = u.setBit R.QENG_PS_CTRL 0 on)

/-- Power loss as MAON decides it -/
def Obligations.PowerLossDecision : Prop :=
  (∀ (s u : State) (t : Nat), s.at t = u →
      u.maon.powerLossAt = none →
      ∃ s', exec (.powerLoss t) s = .next s' ∧
        s'.maon.powerLossAt = some u.gtc ∧ (∀ k : Fin 4, s'.winh k = true) ∧ s'.fuses = u.fuses ∧ s'.pending = u.pending)

/-- Host transfers, and how the media schedulers take, choose and complete operations -/
def Obligations.SchedulerOperations : Prop :=
  (∀ (s u : State) (t : Nat) (i : Initiator) (c : Fin 4) (w : BitVec 32), s.at t = u →
      u.takesWrite i (R.MSCH_XQ_PROD c) = true →
      ∃ s', exec (.transferSubmit t i c w) s = .next s' ∧
        s' = u.setReg (R.MSCH_XQ_PROD c) w.toNat)
  ∧ (∀ (s u : State) (t : Nat) (c : Fin 4) (status : BitVec 4) (bad : Nat) (blocks : List HostBlock), s.at t = u →
      u.domOn 7 = true →
      u.domOn 3 = true →
      u.rd (R.MSCH_XQ_SIZE c) ≠ 0 →
      u.rd (R.MSCH_XC_SIZE c) ≠ 0 →
      u.rd (R.MSCH_XQ_CONS c) < u.rd (R.MSCH_XQ_SIZE c) →
      u.rd (R.MSCH_XQ_PROD c) < u.rd (R.MSCH_XQ_SIZE c) →
      u.rd (R.MSCH_XQ_CONS c) ≠ u.rd (R.MSCH_XQ_PROD c) →
      ringFull (u.rd (R.MSCH_XC_PROD c)) (u.rd (R.MSCH_XC_CONS c)) (u.rd (R.MSCH_XC_SIZE c)) = false →
      ∃ s', exec (.transferComplete t c status bad blocks) s = .next s' ∧
        s'.rd (R.MSCH_XQ_CONS c) = (u.rd (R.MSCH_XQ_CONS c) + 1) % u.rd (R.MSCH_XQ_SIZE c) ∧ s'.rd (R.MSCH_XC_PROD c) = (u.rd (R.MSCH_XC_PROD c) + 1) % u.rd (R.MSCH_XC_SIZE c))
  ∧ (∀ (s u : State) (t : Nat) (i : Initiator) (n : Fin 4) (w : BitVec 32), s.at t = u →
      u.takesWrite i (R.MSCH_SQ_PROD n) = true →
      ∃ s', exec (.opSubmit t i n w) s = .next s' ∧
        s' = u.setReg (R.MSCH_SQ_PROD n) w.toNat)
  ∧ (∀ (s u : State) (t : Nat) (n : Fin 4) (zone : Zone), s.at t = u →
      u.domOn 7 = true →
      u.bit (R.MSCH_CTRL n) 0 = true →
      u.maon.powerLossAt = none →
      u.rd (R.MSCH_SQ_CONS n) < u.rd (R.MSCH_SQ_SIZE n) →
      u.rd (R.MSCH_SQ_PROD n) < u.rd (R.MSCH_SQ_SIZE n) →
      u.rd (R.MSCH_SQ_PROD n) ≠ u.rd (R.MSCH_SQ_CONS n) →
      (u.msch n).pending.length + (u.msch n).run.length + b2n (u.msch n).pos.isSome < 256 →
      (u.takeRead n).err = false →
      mopBad (u.takeRead n).bytes = false →
      (u.takeZone n).2 = some zone →
      (u.takeMop n).first + (u.takeMop n).count ≤ zone.s →
      ∃ s', exec (.opTake t n) s = .next s' ∧
        s'.rd (R.MSCH_SQ_CONS n) = (u.rd (R.MSCH_SQ_CONS n) + 1) % u.rd (R.MSCH_SQ_SIZE n) ∧ (s'.msch n).pending = (u.msch n).pending ++ [{ u.takeMop n with zone := zone }])
  ∧ (∀ (s u : State) (t : Nat) (n : Fin 4) (ang : Nat) (o : Mop), s.at t = u →
      u.domOn 7 = true →
      u.bit (R.MSCH_CTRL n) 0 = true →
      u.maon.powerLossAt = none →
      u.bit (R.MSCH_CTRL n) 1 = false →
      (u.msch n).cur = none →
      (u.msch n).pos = none →
      u.granted n = false →
      u.pickOp n ang = some o →
      u.present n = some (o.head, o.track) →
      ∃ s', exec (.opSelect t n ang) s = .next s' ∧
        (s'.msch n).cur = some o.seq ∧ (s'.msch n).run.map (fun r => r.op) = (u.msch n).run.map (fun r => r.op) ++ [o] ∧ (s'.msch n).pending = (u.msch n).pending.filter (fun p => p.seq ≠ o.seq))
  ∧ (∀ (s u : State) (t : Nat) (n : Fin 4) (ang : Nat) (o : Mop), s.at t = u →
      u.domOn 7 = true →
      u.bit (R.MSCH_CTRL n) 0 = true →
      u.maon.powerLossAt = none →
      u.bit (R.MSCH_CTRL n) 1 = false →
      (u.msch n).cur = none →
      (u.msch n).pos = none →
      u.granted n = false →
      u.pickOp n ang = some o →
      u.present n ≠ some (o.head, o.track) →
      (u.msch n).run = [] →
      ∃ s', exec (.opSelect t n ang) s = .next s' ∧
        (s'.msch n).pos.map (fun q => (q.1.op, q.2)) = some (o, u.gtc) ∧ (s'.msch n).reqs = (u.msch n).reqs ++ [⟨o.head, o.track, u.gtc⟩])
  ∧ (∀ (s u : State) (t : Nat) (n : Fin 4) (r : OpRun) (t0 : Nat), s.at t = u →
      u.domOn 7 = true →
      (u.msch n).pos = some (r, t0) →
      (u.msch n).settled = false →
      t0 + 1000000 * u.fld (R.MSCH_TIME n) 31 16 ≤ u.gtc →
      ∃ s', exec (.positioningTimeout t n) s = .next s' ∧
        (s'.msch n).pos = none ∧ s'.rd (R.MSCH_CNT_POSFAIL n) = satU 32 (u.rd (R.MSCH_CNT_POSFAIL n) + 1))
  ∧ (∀ (s u : State) (t : Nat) (n : Fin 4) (r : OpRec) (rest : List OpRec), s.at t = u →
      u.domOn 7 = true →
      (u.msch n).recs = r :: rest →
      u.rd (R.MSCH_CQ_SIZE n) ≠ 0 →
      ringFull (u.rd (R.MSCH_CQ_PROD n)) (u.rd (R.MSCH_CQ_CONS n)) (u.rd (R.MSCH_CQ_SIZE n)) = false →
      ∃ s', exec (.opComplete t n) s = .next s' ∧
        (s'.msch n).recs = rest ∧ s'.rd (R.MSCH_CQ_PROD n) = (u.rd (R.MSCH_CQ_PROD n) + 1) % u.rd (R.MSCH_CQ_SIZE n) ∧ s'.bit (R.MSCH_INT n) 0 = true)
  ∧ (∀ (s u : State) (t : Nat) (i : Initiator) (n : Fin 4) (w : BitVec 32) (o : Mop), s.at t = u →
      u.takesWrite i (R.MSCH_CANCEL n) = true →
      (u.msch n).pending = [o] →
      (u.msch n).run = [] →
      (u.msch n).pos = none →
      o.optag = w.toNat % 65536 →
      o.bv = false →
      ∃ s', exec (.mschCancel t i n w) s = .next s' ∧
        (s'.msch n).pending = [] ∧ (s'.msch n).recs.length = (u.msch n).recs.length + 1)
  ∧ (∀ (s u : State) (t : Nat) (n : Fin 4), s.at t = u →
      u.domOn 7 = true →
      u.bit (R.MSCH_CTRL n) 1 = true →
      (u.msch n).run = [] →
      ∃ s', exec (.quiet t n) s = .next s' ∧
        s' = u.setBit (R.MSCH_STATUS n) 11 true)

/-- The schedulers load events and take their records, and the media DMA moves blocks -/
def Obligations.SchedulerEvents : Prop :=
  (∀ (s u : State) (t : Nat) (n : Fin 4) (ang : Nat) (v : State) (r : OpRun) (e : LoadEv) (rest : List LoadEv), s.at t = u →
      v = u.turnTo n ang →
      v.domOn 7 = true →
      v.domOn (16 + n.val) = true →
      v.bit (R.MSCH_CTRL n) 0 = true →
      v.bit (R.MSCH_CTRL n) 1 = false →
      v.linkUp = true →
      v.fld (R.MSCH_CFG n) 9 4 < 256 - (v.sec n).atb.data.length →
      v.maon.powerLossAt = none →
      (u.msch n).run = [r] →
      (u.msch n).pos = none →
      r.todo = e :: rest →
      e.first = true →
      e.sec = none →
      4 * v.rd (R.ATB_LEAD_CNT n) ≤ (e.ang + REV_COUNTS - v.angle n) % REV_COUNTS →
      (e.ang + REV_COUNTS - v.angle n) % REV_COUNTS ≤ v.fld (R.MSCH_CFG n) 2 0 * WEDGE_COUNTS →
      ∃ s', exec (.schedulerEventLoad t n ang) s = .next s' ∧
        s'.pass.events.length = u.pass.events.length + 1 ∧ s'.pass.events.getLast?.map (fun f => (f.event.raw, f.event.typ)) = some (e.ang % 2 ^ 25, e.typ % 16) ∧ ((s'.msch n).run.map (fun r => r.todo)) = [rest])
  ∧ (∀ (s u : State) (t : Nat) (n : Fin 4) (c : CplRec) (rest : List CplRec) (r : OpRun) (e : OutEv), s.at t = u →
      u.domOn 7 = true →
      (u.msch n).notes = c :: rest →
      (u.msch n).run = [r] →
      r.out = [e] →
      e.tag = c.w0.toNat % 65536 →
      e.sec = none →
      r.todo ≠ [] →
      ∃ s', exec (.schedulerRecord t n) s = .next s' ∧
        (s'.msch n).notes = rest ∧ (s'.msch n).run = [{ r with out := [] }])
  ∧ (∀ (s u : State) (t : Nat) (n : Fin 4) (r : OpRun) (e : OutEv), s.at t = u →
      u.domOn 7 = true →
      u.linkUp = true →
      (u.sec n).atb.holdSched = [] →
      (u.msch n).notes = [] →
      (u.msch n).run = [r] →
      r.op.op = 2 →
      r.out = [e] →
      e.ups < u.pass.ups →
      e.sec = none →
      r.todo ≠ [] →
      ∃ s', exec (.schedulerLinkRecover t n) s = .next s' ∧
        (s'.msch n).run = [{ r with out := [] }])
  ∧ (∀ (s u : State) (t : Nat) (n : Fin 4) (x : MediaUp) (rest : List MediaUp) (r : OpRun) (k : Nat), s.at t = u →
      u.domOn 7 = true →
      u.linkUp = true →
      (u.sec n).chan.up = x :: rest →
      x.block = none →
      (u.msch n).run = [r] →
      (u.msch n).runOfSid x.sid = some (r, k) →
      r.waits k = true →
      r.out ≠ [] →
      ∃ s', exec (.mediaDmaReadBlock t n) s = .next s' ∧
        (s'.sec n).chan.up = rest ∧ (s'.msch n).run = [r.setSec k { (r.secs.getD k {}) with word := some x.word.toNat, chk := 0, block := none }])
  ∧ (∀ (s u : State) (t : Nat) (n : Fin 4) (sid : Nat) (rest : List Nat) (r : OpRun) (k : Nat), s.at t = u →
      u.domOn 7 = true →
      u.linkUp = true →
      (u.msch n).wq = sid :: rest →
      (u.msch n).runOfSid sid = some (r, k) →
      (u.blockData n r.op k).err = false →
      (u.blockSide n r.op k).err = false →
      ∃ s', exec (.mediaDmaWriteBlock t n) s = .next s' ∧
        (s'.msch n).wq = rest ∧ (s'.sec n).chan.down.map WBlock.sid = (u.sec n).chan.down.map WBlock.sid ++ [sid])

/-- What the commands of BUF do to buffer memory -/
def Obligations.BufferWords : Prop :=
  (∀ (s u : State) (t : Nat) (i : Initiator) (addr : Nat) (bytes : List (BitVec 8)), s.at t = u →
      u.domOn 7 = true →
      inDram addr = true →
      (addr - dramBase) % 16 = 0 →
      bytes.length = 16 →
      addr - dramBase < u.usable →
      isCore i = false ∨ u.chkOn (addr - dramBase) = false →
      ∃ s', exec (.mergeWrite t i addr bytes) s = .next s' ∧
        s'.dramWord ((addr - dramBase) / 16) = ofBytes bytes ∧ s'.dramSynOf ((addr - dramBase) / 16) = 0)
  ∧ (∀ (s u : State) (t : Nat) (i : Initiator) (addr : Nat) (bytes : List (BitVec 8)), s.at t = u →
      u.domOn 7 = true →
      inDram addr = true →
      0 < bytes.length →
      (addr - dramBase) % 16 + bytes.length < 16 →
      addr - dramBase < u.usable →
      eccClass (u.dramSynOf ((addr - dramBase) / 16)) = .clean →
      ∃ s', exec (.mergeWrite t i addr bytes) s = .next s' ∧
        s'.dramWord ((addr - dramBase) / 16) = ofBytes (overlay (toBytes 16 (u.dramWord ((addr - dramBase) / 16))) ((addr - dramBase) % 16) bytes))
  ∧ (∀ (s u : State) (t : Nat) (w d : Nat) (rest : List (Nat × Nat)), s.at t = u →
      u.domOn 7 = true →
      u.buf.ceQ = (w, d) :: rest →
      ∃ s', exec (.ceWriteBack t) s = .next s' ∧
        s'.dramWord w = d % 2 ^ 128 ∧ s'.dramSynOf w = 0)
  ∧ (∀ (s u : State) (t : Nat) (i : Initiator) (w : BitVec 32), s.at t = u →
      u.takesWrite i R.BUF_FILL_CTRL = true →
      bitOf w.toNat 0 = true →
      u.buf.fill = none →
      u.rd64 R.BUF_FILL_START_LO R.BUF_FILL_START_HI % 16 = 0 →
      u.rd64 R.BUF_FILL_LEN_LO R.BUF_FILL_LEN_HI % 16 = 0 →
      dramBase ≤ u.rd64 R.BUF_FILL_START_LO R.BUF_FILL_START_HI →
      u.rd64 R.BUF_FILL_START_LO R.BUF_FILL_START_HI + u.rd64 R.BUF_FILL_LEN_LO R.BUF_FILL_LEN_HI ≤ dramBase + u.usable →
      ∃ s', exec (.fillGo t i w) s = .next s' ∧
        s'.buf.fill.map FillRun.first = some (u.rd64 R.BUF_FILL_START_LO R.BUF_FILL_START_HI - dramBase) ∧ s'.buf.fill.map FillRun.words = some (u.rd64 R.BUF_FILL_LEN_LO R.BUF_FILL_LEN_HI / 16) ∧ s'.bit R.BUF_STATUS 1 = true)
  ∧ (∀ (s u : State) (t : Nat) (i : Initiator) (f : FillRun), s.at t = u →
      u.takesWrite i R.BUF_FILL_CTRL = true →
      u.buf.fill = some f →
      ∃ s', exec (.fillAbort t i) s = .next s' ∧
        s'.buf.fill = some { f with words := 0 })
  ∧ (∀ (s u : State) (t : Nat) (f : FillRun), s.at t = u →
      u.buf.fill = some f →
      ∃ s', exec (.fillDone t) s = .next s' ∧
        s'.buf.fill = none ∧ s'.bit R.BUF_STATUS 1 = false ∧ s'.bit R.BUF_INT_STATUS 0 = true)
  ∧ (∀ (s u : State) (t : Nat) (w : Nat), s.at t = u →
      u.domOn 7 = true →
      u.bit R.BUF_SCRUB_CFG 0 = true →
      u.maon.powerLossAt = none →
      u.scrubWord = some w →
      ∃ s', exec (.scrubRead t) s = .next s' ∧
        s'.buf.scrubPos = w + 1 ∧ s'.rd R.BUF_SCRUB_POS = w / 65536 % 2 ^ 32)
  ∧ (∀ (s u : State) (t : Nat) (i : Initiator) (k : Nat) (w : BitVec 32), s.at t = u →
      k < 224 →
      u.takesWrite i (R.BUF_INIT k) = true →
      ∃ s', exec (.initSet t i k w) s = .next s' ∧
        s'.rd (R.BUF_INIT k) = u.rd (R.BUF_INIT k) ||| w.toNat)
  ∧ (∀ (s u : State) (t : Nat) (i : Initiator) (w : BitVec 32), s.at t = u →
      u.takesWrite i R.BUF_INIT_CLR = true →
      w.toNat % 8192 < 7168 →
      ∃ s', exec (.initClr t i w) s = .next s' ∧
        s'.bit (R.BUF_INIT (w.toNat % 8192 / 32)) (w.toNat % 8192 % 32) = false)

/-- The dirty table and the dump -/
def Obligations.DirtyTableAndDump : Prop :=
  (∀ (s u : State) (t : Nat) (i : Initiator) (w : BitVec 32) (x c : Nat), s.at t = u →
      u.takesWrite i R.BUF_DT_MARK = true →
      x = w.toNat % 65536 →
      u.buf.dumpStarted = false →
      (u.buf.marks.any (fun m => m.1 == x)) = false →
      u.wordsBad (u.dtAddr x) 4 = false →
      (u.dtRead x).err = false →
      c = bitsOf (wordAt (u.dtRead x).bytes 8) 27 16 →
      c ≠ 0 →
      dwordAt (u.dtRead x).bytes 32 % 4096 = 0 →
      dwordAt (u.dtRead x).bytes 40 % 32 = 0 →
      u.rd R.BUF_DIRTY + dumpSize c ≤ u.rd R.BUF_DIRTY_LIMIT →
      u.rd R.BUF_DIRTY + dumpSize c + 128 ≤ u.rd R.BUF_DUMP_SIZE →
      ∃ s', exec (.dtMark t i w) s = .next s' ∧
        iniGet 4 s'.buf.dtRes i = 0 ∧ (s'.buf.marks.any (fun m => m.1 == x)) = true ∧ s'.rd R.BUF_DIRTY = u.rd R.BUF_DIRTY + dumpSize c)
  ∧ (∀ (s u : State) (t : Nat) (i : Initiator) (w : BitVec 32) (x : Nat) (m : Nat × Nat), s.at t = u →
      u.takesWrite i R.BUF_DT_CLEAN = true →
      x = w.toNat % 65536 →
      u.buf.dumpStarted = false →
      u.buf.marks.find? (fun m => m.1 == x) = some m →
      ∃ s', exec (.dtClean t i w) s = .next s' ∧
        iniGet 4 s'.buf.dtRes i = 0 ∧ (s'.buf.marks.any (fun m => m.1 == x)) = false ∧ s'.rd R.BUF_DIRTY = u.rd R.BUF_DIRTY - dumpSize m.2)
  ∧ (∀ (s u : State) (t : Nat) (i : Initiator), s.at t = u →
      u.takesWrite i R.BUF_DUMP_CTRL = true →
      65536 * u.fld R.BUF_DUMP_BASE 16 0 + u.rd R.BUF_DUMP_SIZE ≤ u.ssCapacity →
      ∃ s', exec (.dumpArm t i) s = .next s' ∧
        s'.bit R.BUF_DUMP_CTRL 0 = true)
  ∧ (∀ (s u : State) (t : Nat) (i : Initiator), s.at t = u →
      u.takesWrite i R.BUF_DUMP_CTRL = true →
      u.fld R.BUF_DUMP_STATUS 1 0 ≠ 1 →
      ∃ s', exec (.dumpDisarm t i) s = .next s' ∧
        s'.bit R.BUF_DUMP_CTRL 0 = false ∧ s'.fld R.BUF_DUMP_STATUS 1 0 = 0 ∧ s'.buf.dumpStarted = false)
  ∧ (∀ (s u : State) (t : Nat) (i : Initiator), s.at t = u →
      u.takesWrite i R.BUF_DUMP_CTRL = true →
      u.lcState = 1 ∨ u.lcState = 2 →
      u.bit R.BUF_DUMP_CTRL 0 = true →
      u.buf.dumpStarted = false →
      ∃ s', exec (.test t i) s = .next s' ∧
        s'.buf.dumpStarted = true ∧ s'.fld R.BUF_DUMP_STATUS 1 0 = 1 ∧ s'.buf.dump.map DumpRun.entries = some u.buf.marks)
  ∧ (∀ (s u : State) (t : Nat), s.at t = u →
      u.domOn 7 = true →
      u.buf.dumpDue.isSome = true →
      u.bit R.BUF_DUMP_CTRL 0 = true →
      u.buf.dumpStarted = false →
      ∃ s', exec (.dumpStart t) s = .next s' ∧
        s'.buf.dumpStarted = true ∧ s'.fld R.BUF_DUMP_STATUS 1 0 = 1 ∧ s'.buf.dumpDue = none)
  ∧ (∀ (s u : State) (t : Nat) (d : DumpRun), s.at t = u →
      u.buf.dump = some d →
      d.base + d.startRec.length + (u.dumpEntries d.entries).bytes.length + 64 ≤ u.ssCapacity →
      ∃ s', exec (.dumpDone t) s = .next s' ∧
        s'.buf.dump = none ∧ s'.fld R.BUF_DUMP_STATUS 1 0 = 2 ∧ s'.bit R.BUF_INT_STATUS 5 = true)
  ∧ (∀ (s u : State) (t : Nat) (d : DumpRun), s.at t = u →
      u.buf.dump = some d →
      ∃ s', exec (.dumpError t) s = .next s' ∧
        s'.buf.dump = none ∧ s'.fld R.BUF_DUMP_STATUS 1 0 = 3 ∧ s'.bit R.BUF_INT_STATUS 6 = true)

/-- What an access of an application core meets in the Map Cache -/
def Obligations.MapCacheAccess : Prop :=
  (∀ (s u : State) (t : Nat) (c : Fin 4) (addr k w : Nat) (m : MLine), s.at t = u →
      inDram addr = true →
      u.cached addr = true →
      u.mapcStalls = false →
      k ≤ 128 - addr % 128 →
      u.wayOf ((addr - dramBase) / 128) = some w →
      u.mline (lineSet ((addr - dramBase) / 128)) w = some m →
      ∃ s', exec (.mapcAccess t c addr (.load k)) s = .next s' ∧
        s'.lastData = (m.data.drop (addr % 128)).take k ∧ s'.rd R.MAPC_CNT_HIT = satU 32 (u.rd R.MAPC_CNT_HIT + 1))
  ∧ (∀ (s u : State) (t : Nat) (c : Fin 4) (addr w : Nat) (b : List (BitVec 8)) (m : MLine), s.at t = u →
      inDram addr = true →
      u.cached addr = true →
      u.mapcStalls = false →
      b.length ≤ 128 - addr % 128 →
      u.wayOf ((addr - dramBase) / 128) = some w →
      u.mline (lineSet ((addr - dramBase) / 128)) w = some m →
      ∃ s', exec (.mapcAccess t c addr (.store b)) s = .next s' ∧
        s'.mline (lineSet ((addr - dramBase) / 128)) w = some { m with dirty := true, data := overlay m.data (addr % 128) b })
  ∧ (∀ (s u : State) (t : Nat) (c : Fin 4) (addr k : Nat), s.at t = u →
      inDram addr = true →
      u.cached addr = true →
      u.mapcStalls = false →
      k ≤ 128 - addr % 128 →
      u.wayOf ((addr - dramBase) / 128) = none →
      u.inPocket ((addr - dramBase) / 128) = none →
      ∃ s', exec (.mapcAccess t c addr (.load k)) s = .next s' ∧
        s'.mapc.miss = some ⟨c, addr, .load k, u.gtc⟩ ∧ s'.rd R.MAPC_CNT_MISS = satU 32 (u.rd R.MAPC_CNT_MISS + 1))
  ∧ (∀ (s u : State) (t : Nat) (x : MAccess) (k : Nat) (m : MLine), s.at t = u →
      u.domOn 8 = true →
      u.mapc.miss = some x →
      x.op = .load k →
      u.missLine x = some m →
      u.mapc.wait = [] →
      ∃ s', exec (.mapcFillComplete t) s = .next s' ∧
        s'.mapc.miss = none ∧ s'.lastData = (m.data.drop (x.addr % 128)).take k)

/-- The commands of the Map Cache and of Pocket -/
def Obligations.MapCacheCommands : Prop :=
  (∀ (s u : State) (t : Nat) (i : Initiator), s.at t = u →
      u.takesWrite i R.MAPC_OP_CMD = true →
      u.bit R.MAPC_STATUS 1 = false →
      u.bit R.MAPC_STATUS 2 = false →
      ∃ s', exec (.clean t i) s = .next s' ∧
        s'.mapc.op = some ⟨1, u.rd64 R.MAPC_OP_ADDR_LO R.MAPC_OP_ADDR_HI, u.rd R.MAPC_OP_LEN, 0⟩ ∧ s'.bit R.MAPC_STATUS 2 = true)
  ∧ (∀ (s u : State) (t : Nat) (i : Initiator), s.at t = u →
      u.takesWrite i R.MAPC_OP_CMD = true →
      u.bit R.MAPC_STATUS 1 = false →
      u.bit R.MAPC_STATUS 2 = false →
      ∃ s', exec (.inval t i) s = .next s' ∧
        s'.mapc.op = some ⟨2, u.rd64 R.MAPC_OP_ADDR_LO R.MAPC_OP_ADDR_HI, u.rd R.MAPC_OP_LEN, 0⟩ ∧ s'.bit R.MAPC_STATUS 2 = true)
  ∧ (∀ (s u : State) (t : Nat) (i : Initiator), s.at t = u →
      u.takesWrite i R.MAPC_OP_CMD = true →
      u.bit R.MAPC_STATUS 1 = false →
      u.bit R.MAPC_STATUS 2 = false →
      ∃ s', exec (.discard t i) s = .next s' ∧
        s'.mapc.op = some ⟨3, u.rd64 R.MAPC_OP_ADDR_LO R.MAPC_OP_ADDR_HI, u.rd R.MAPC_OP_LEN, 0⟩ ∧ s'.bit R.MAPC_STATUS 2 = true)
  ∧ (∀ (s u : State) (t : Nat) (i : Initiator), s.at t = u →
      u.takesWrite i R.MAPC_OP_CMD = true →
      u.bit R.MAPC_STATUS 1 = false →
      u.bit R.MAPC_STATUS 2 = false →
      ∃ s', exec (.flushAll t i) s = .next s' ∧
        s'.mapc.op = some ⟨4, u.rd64 R.MAPC_OP_ADDR_LO R.MAPC_OP_ADDR_HI, u.rd R.MAPC_OP_LEN, 0⟩ ∧ s'.bit R.MAPC_STATUS 2 = true)
  ∧ (∀ (s u : State) (t : Nat) (i : Initiator) (way : BitVec 3), s.at t = u →
      u.takesWrite i R.MAPC_OP_CMD = true →
      u.bit R.MAPC_STATUS 1 = false →
      u.bit R.MAPC_STATUS 2 = false →
      way.toNat < 6 →
      u.mapcGrant i = true →
      ∃ s', exec (.preload t i way) s = .next s' ∧
        s'.mapc.op = some ⟨5, u.rd64 R.MAPC_OP_ADDR_LO R.MAPC_OP_ADDR_HI, u.rd R.MAPC_OP_LEN, way.toNat⟩ ∧ s'.bit R.MAPC_STATUS 2 = true)
  ∧ (∀ (s u : State) (t : Nat) (o : MapcOp), s.at t = u →
      u.domOn 8 = true →
      u.mapc.op = some o →
      u.mapc.miss = none →
      ∃ s', exec (.mapcOpDone t) s = .next s' ∧
        s'.mapc.op = none ∧ s'.bit R.MAPC_STATUS 2 = false ∧ (o.op = 4 → s'.mapc.lines = [] ∧ s'.mapc.pocket = []))
  ∧ (∀ (s u : State) (t : Nat) (i : Initiator) (w : BitVec 32), s.at t = u →
      u.takesWrite i R.MAPC_LOCK = true →
      u.mapcGrant i = true →
      u.mapc.op = none →
      u.mapc.disabling = false →
      ∃ s', exec (.mapcLock t i w) s = .next s' ∧
        s'.rd R.MAPC_LOCK = w.toNat % 64)
  ∧ (∀ (s u : State) (t : Nat) (i : Initiator), s.at t = u →
      u.takesWrite i R.MAPC_CTRL = true →
      u.bit R.MAPC_STATUS 0 = true →
      u.mapc.disabling = false →
      ∃ s', exec (.mapcDisable t i) s = .next s' ∧
        s'.mapc.disabling = true ∧ s'.bit R.MAPC_CTRL 0 = false ∧ s'.bit R.MAPC_STATUS 1 = true)
  ∧ (∀ (s u : State) (t : Nat), s.at t = u →
      u.domOn 8 = true →
      u.mapc.disabling = true →
      u.mapc.op = none →
      u.mapc.miss = none →
      u.mapc.wait = [] →
      ∃ s', exec (.mapcDisableDone t) s = .next s' ∧
        s'.mapc.lines = [] ∧ s'.mapc.pocket = [] ∧ s'.mapc.disabling = false ∧ s'.bit R.MAPC_STATUS 0 = u.bit R.MAPC_CTRL 0)
  ∧ (∀ (s u : State) (t : Nat) (i : Initiator), s.at t = u →
      u.takesWrite i R.MAPC_CTRL = true →
      u.mapc.disabling = false →
      u.bit R.MAPC_STATUS 3 = false →
      ∃ s', exec (.mapcEnable t i) s = .next s' ∧
        s'.bit R.MAPC_CTRL 0 = true ∧ s'.bit R.MAPC_STATUS 0 = true)
  ∧ (∀ (s u : State) (t : Nat) (i : Initiator), s.at t = u →
      u.takesWrite i R.MAPC_CTRL = true →
      u.bit R.MAPC_CTRL 1 = true →
      ∃ s', exec (.pocketDisable t i) s = .next s' ∧
        s'.mapc.pocketOff = true ∧ s'.bit R.MAPC_CTRL 1 = false)
  ∧ (∀ (s u : State) (t : Nat), s.at t = u →
      u.domOn 8 = true →
      u.mapc.pocketOff = true →
      ∃ s', exec (.pocketDisableDone t) s = .next s' ∧
        s'.mapc.pocket = [] ∧ s'.mapc.pocketOff = false ∧ s'.mapc.pocketOn = u.bit R.MAPC_CTRL 1)

/-- The jobs of Squeeze -/
def Obligations.SqueezeJobs : Prop :=
  (∀ (s u : State) (t : Nat) (c : Fin 8) (k : Nat), s.at t = u →
      u.domOn 9 = true →
      u.sqz.ctx[c].ring = none →
      u.ctxFenced .sqz c = false →
      u.nextRing .sqz (ctxDir c) = some k →
      k < 64 →
      u.rd (R.SQZ_R_BASE_LO k + 8) ≠ 0 →
      ∃ s', exec (.sqzJobStart t c) s = .next s' ∧
        s'.sqz.ctx[c].ring = some k ∧ s'.rd (R.SQZ_R_BASE_LO k + 16) = (u.rd (R.SQZ_R_BASE_LO k + 16) % u.rd (R.SQZ_R_BASE_LO k + 8) + 1) % u.rd (R.SQZ_R_BASE_LO k + 8))
  ∧ (∀ (s u : State) (t : Nat) (c : Fin 8), s.at t = u →
      u.domOn 9 = true →
      u.sqz.ctx[c].ring.isSome = true →
      u.sqz.ctx[c].rec_ = none →
      (parseSqz u.sqz.ctx[c].desc).dir = 0 →
      ∃ s', exec (.sqzJobEnd t c) s = .next s' ∧
        s'.sqz.ended = u.sqz.ended + 1 ∧ s'.rd R.SQZ_CNT_CJOBS = satU 32 (u.rd R.SQZ_CNT_CJOBS + 1))
  ∧ (∀ (s u : State) (t : Nat) (c : Fin 8) (k j : Nat) (b : List Byte), s.at t = u →
      u.domOn 9 = true →
      u.sqz.ctx[c].ring = some k →
      u.sqz.ctx[c].rec_ = some (b, j) →
      ∀ d : Fin 8, d ≠ c → u.sqz.ctx[d].ring ≠ some k →
      k < 64 →
      u.rd (R.SQZ_R_BASE_LO k + 28) ≠ 0 →
      ringFull (u.rd (R.SQZ_R_BASE_LO k + 32)) (u.rd (R.SQZ_R_BASE_LO k + 36)) (u.rd (R.SQZ_R_BASE_LO k + 28)) = false →
      ∃ s', exec (.sqzCompletionRecord t c) s = .next s' ∧
        s'.sqz.ctx[c] = {} ∧ s'.rd (R.SQZ_R_BASE_LO k + 32) = (u.rd (R.SQZ_R_BASE_LO k + 32) + 1) % u.rd (R.SQZ_R_BASE_LO k + 28) ∧ s'.bit (R.SQZ_RING_INT (k / 32)) (k % 32) = true)
  ∧ (∀ (s u : State) (t : Nat) (r : Fin 64), s.at t = u →
      u.domOn 9 = true →
      u.ringEnabled .sqz r = false →
      u.ringRuns .sqz r = false →
      ∃ s', exec (.sqzRingStopped t r) s = .next s' ∧
        s'.bit (R.SQZ_R_BASE_LO r + 44) 1 = true)

/-- The jobs of AES-XTS -/
def Obligations.AesJobs : Prop :=
  (∀ (s u : State) (t : Nat) (e : Fin 2) (k : Nat), s.at t = u →
      u.domOn 10 = true →
      u.aes.ctx[aesCtx e].ring = none →
      u.ctxFenced .aes (aesCtx e) = false →
      u.nextRing .aes 0 = some k →
      k < 8 →
      u.rd (R.CRYP_J_BASE_LO k + 8) ≠ 0 →
      ∃ s', exec (.aesJobStart t e) s = .next s' ∧
        s'.aes.ctx[aesCtx e].ring = some k ∧ s'.rd (R.CRYP_J_BASE_LO k + 16) = (u.rd (R.CRYP_J_BASE_LO k + 16) % u.rd (R.CRYP_J_BASE_LO k + 8) + 1) % u.rd (R.CRYP_J_BASE_LO k + 8))
  ∧ (∀ (s u : State) (t : Nat) (e : Fin 2), s.at t = u →
      u.domOn 10 = true →
      u.aes.ctx[aesCtx e].ring.isSome = true →
      u.aes.ctx[aesCtx e].rec_ = none →
      ∃ s', exec (.aesJobEnd t e) s = .next s' ∧
        s'.aes.ended = u.aes.ended + 1)
  ∧ (∀ (s u : State) (t : Nat) (e : Fin 2) (k j : Nat) (b : List Byte), s.at t = u →
      u.domOn 10 = true →
      u.aes.ctx[aesCtx e].ring = some k →
      u.aes.ctx[aesCtx e].rec_ = some (b, j) →
      ∀ d : Fin 8, d ≠ aesCtx e → u.aes.ctx[d].ring ≠ some k →
      k < 8 →
      u.rd (R.CRYP_J_BASE_LO k + 28) ≠ 0 →
      ringFull (u.rd (R.CRYP_J_BASE_LO k + 32)) (u.rd (R.CRYP_J_BASE_LO k + 36)) (u.rd (R.CRYP_J_BASE_LO k + 28)) = false →
      ∃ s', exec (.aesCompletionRecord t e) s = .next s' ∧
        s'.aes.ctx[aesCtx e] = {} ∧ s'.rd (R.CRYP_J_BASE_LO k + 32) = (u.rd (R.CRYP_J_BASE_LO k + 32) + 1) % u.rd (R.CRYP_J_BASE_LO k + 28) ∧ s'.bit R.CRYP_INT_STATUS k = true)

/-- The key-slot commands -/
def Obligations.KeySlots : Prop :=
  (∀ (s u : State) (t : Nat) (i : Initiator) (wk : BitVec 2) (k : Nat), s.at t = u →
      u.takesWrite i R.CRYP_KS_CMD = true →
      u.cryp.ksOps = [] →
      k = bitsOf (iniGet 0 u.cryp.ksSel i) 11 0 →
      ∃ s', exec (.ksLoad t i wk) s = .next s' ∧
        s'.keySlot k = (match (u.wk wk.toNat).bind (fun w => kwUnwrap w 8 (stagedBytes (iniGet [] u.cryp.ksBlob i) 18)) with
        | some key => if key.take 32 = key.drop 32 then u.keySlot k else ⟨true, bitsOf (iniGet 0 u.cryp.ksSel i) 27 16, ((u.keySlot k).kepoch + 1) % 1048576, key.take 32, key.drop 32⟩
        | none => u.keySlot k)
      ∧ s'.cryp.ksRes = (match (u.wk wk.toNat).bind (fun w => kwUnwrap w 8 (stagedBytes (iniGet [] u.cryp.ksBlob i) 18)) with
        | some key => if key.take 32 = key.drop 32 then (2, 0) else (0, 0)
        | none => (1, 0))
      ∧ s'.bit R.CRYP_KS_RES 0 = true)
  ∧ (∀ (s u : State) (t : Nat) (i : Initiator) (k : Nat), s.at t = u →
      u.takesWrite i R.CRYP_KS_CMD = true →
      u.cryp.ksOps = [] →
      k = bitsOf (iniGet 0 u.cryp.ksSel i) 11 0 →
      ∃ s', exec (.ksErase t i) s = .next s' ∧
        (s'.keySlot k).valid = false ∧ (s'.keySlot k).kepoch = ((u.keySlot k).kepoch + 1) % 1048576 ∧ (s'.keySlot k).key1 = [] ∧ (s'.keySlot k).key2 = [])
  ∧ (∀ (s u : State) (t : Nat) (i : Initiator) (g : Nat), s.at t = u →
      u.takesWrite i R.CRYP_KS_CMD = true →
      u.cryp.ksOps = [] →
      g = bitsOf (iniGet 0 u.cryp.ksSel i) 27 16 →
      ∃ s', exec (.eraseGroup t i) s = .next s' ∧
        s'.groupSlots g = [] ∧ s'.cryp.ksRes = (0, (u.groupSlots g).length))
  ∧ (∀ (s u : State) (t : Nat) (i : Initiator) (k : Nat), s.at t = u →
      u.takesWrite i R.CRYP_KS_CMD = true →
      u.cryp.ksOps = [] →
      k = bitsOf (iniGet 0 u.cryp.ksSel i) 11 0 →
      (u.keySlot k).valid = true →
      ∃ s', exec (.setOwner t i) s = .next s' ∧
        s'.keySlot k = { u.keySlot k with owner := bitsOf (iniGet 0 u.cryp.ksSel i) 27 16 })
  ∧ (∀ (s u : State) (t : Nat) (o : KsOp), s.at t = u →
      u.domOn 10 = true →
      u.cryp.ksOps = [o] →
      ∃ s', exec (.ksDone t) s = .next s' ∧
        s'.cryp.ksOps = [] ∧ s'.bit R.CRYP_KS_RES 0 = false ∧ s'.fld R.CRYP_KS_RES 2 1 = u.cryp.ksRes.1 % 4 ∧ s'.bit R.CRYP_INT_STATUS 8 = true)

/-- The wrapping keys and the random-number generator -/
def Obligations.WrappingKeysAndRandomNumbers : Prop :=
  (∀ (s u : State) (t : Nat) (i : Initiator) (w : BitVec 32), s.at t = u →
      u.takesWrite i R.CRYP_WK_CMD = true →
      2 ≤ bitsOf w.toNat 5 4 →
      bitsOf w.toNat 3 2 < 2 →
      ∃ s', exec (.wkLoad t i w) s = .next s' ∧
        s'.wk (bitsOf w.toNat 5 4) = (match (u.wk (bitsOf w.toNat 3 2)).bind (fun k => kwUnwrap k 4 (stagedBytes u.cryp.wkBlob 10)) with
        | some key => some key
        | none => u.wk (bitsOf w.toNat 5 4))
      ∧ s'.fld R.CRYP_WK_RES 2 1 = (match (u.wk (bitsOf w.toNat 3 2)).bind (fun k => kwUnwrap k 4 (stagedBytes u.cryp.wkBlob 10)) with
        | some _ => 0
        | none => 1))
  ∧ (∀ (s u : State) (t : Nat) (i : Initiator) (w : BitVec 32), s.at t = u →
      u.takesWrite i R.CRYP_WK_CMD = true →
      2 ≤ bitsOf w.toNat 5 4 →
      ∃ s', exec (.wkClear t i w) s = .next s' ∧
        s'.wk (bitsOf w.toNat 5 4) = none ∧ s'.fld R.CRYP_WK_RES 2 1 = 0)
  ∧ (∀ (s u : State) (t : Nat) (i : Initiator) (w : BitVec 32) (key : List Nat), s.at t = u →
      u.takesWrite i R.CRYP_WK_CMD = true →
      u.wk (bitsOf w.toNat 3 2) = some key →
      inDram (u.rd64 R.CRYP_WK_SRC_LO R.CRYP_WK_SRC_HI) = true →
      (u.busRead 8 (u.rd64 R.CRYP_WK_SRC_LO R.CRYP_WK_SRC_HI) 64).err = false →
      ∃ s', exec (.wrap t i w) s = .next s' ∧
        s' = ((u.busRead 8 (u.rd64 R.CRYP_WK_SRC_LO R.CRYP_WK_SRC_HI) 64).st.busWrite (u.rd64 R.CRYP_WK_DST_LO R.CRYP_WK_DST_HI) ((kwWrap key 8 ((u.busRead 8 (u.rd64 R.CRYP_WK_SRC_LO R.CRYP_WK_SRC_HI) 64).bytes.map BitVec.toNat)).map (BitVec.ofNat 8))).wkResult 0)
  ∧ (∀ (s u : State) (t : Nat) (i : Initiator), s.at t = u →
      u.takesWrite i R.CRYP_RNG_CTRL = true →
      ∃ s', exec (.reseed t i) s = .next s' ∧
        s'.cryp.rngCount = 0)
  ∧ (∀ (s u : State) (t : Nat) (i : Initiator), s.at t = u →
      u.takesWrite i R.CRYP_RNG_CTRL = true →
      ∃ s', exec (.clrFail t i) s = .next s' ∧
        s'.cryp.rngTest = true)
  ∧ (∀ (s u : State) (t : Nat), s.at t = u →
      u.domOn 10 = true →
      u.cryp.rngTest = true →
      ∃ s', exec (.rngStartupTestDone t true) s = .next s' ∧
        s'.cryp.rngTest = false ∧ s'.bit R.CRYP_RNG_STATUS 1 = false ∧ s'.bit R.CRYP_RNG_STATUS 0 = true)
  ∧ (∀ (s u : State) (t : Nat), s.at t = u →
      u.domOn 10 = true →
      ∃ s', exec (.rngHealthFail t) s = .next s' ∧
        s'.bit R.CRYP_RNG_STATUS 1 = true ∧ s'.bit R.CRYP_RNG_STATUS 0 = false ∧ s'.fld R.CRYP_RNG_STATUS 31 16 = satU 16 (u.fld R.CRYP_RNG_STATUS 31 16 + 1))
  ∧ (∀ (s u : State) (t : Nat) (i : Initiator), s.at t = u →
      u.domOn 10 = true →
      u.bit R.CRYP_RNG_STATUS 1 = false →
      ∃ s', exec (.rngRead t i) s = .next s' ∧
        s'.lastRead = Config.freeWord u.free ∧ s'.free = u.free + 1 ∧ s'.cryp.rngCount = if u.cryp.rngCount + 1 = 65536 then 0 else u.cryp.rngCount + 1)

/-- Meters, epochs, caps and the verify engines -/
def Obligations.MetersAndVerify : Prop :=
  (∀ (s u : State) (t : Nat) (i : Initiator) (w : BitVec 32) (g m : Nat), s.at t = u →
      u.takesWrite i R.MTR_CHG_AMT = true →
      u.domOn 11 = true →
      u.bit R.MTR_CTRL 0 = true →
      g = bitsOf (iniGet 0 u.mtr.chgSel i) 11 0 →
      m = bitsOf (iniGet 0 u.mtr.chgSel i) 14 12 →
      m = 3 ∨ m = 7 →
      ∃ s', exec (.meterCharge t i w) s = .next s' ∧
        spGet 0 s'.mtr.bank.vals (8 * g + m) = satU 64 (spGet 0 u.mtr.bank.vals (8 * g + m) + w.toNat))
  ∧ (∀ (s u : State) (t : Nat), s.at t = u →
      u.domOn 11 = true →
      u.bit R.MTR_CTRL 0 = true →
      u.boundary ≤ (u.gtc : Int) →
      ∃ s', exec (.epochBoundary t) s = .next s' ∧
        s'.mtr.closing.length = u.mtr.closing.length + 1 ∧ s'.mtr.bank.opened = u.boundary.toNat ∧ s'.mtr.bank.vals = [])
  ∧ (∀ (s u : State) (t : Nat) (i : Initiator) (w : BitVec 32), s.at t = u →
      u.takesWrite i R.MTR_ORIGIN_LO = true →
      ∃ s', exec (.mtrOriginWrite t i w) s = .next s' ∧
        s'.mtr.origin = w.toNat + 2 ^ 32 * u.rd R.MTR_ORIGIN_HI)
  ∧ (∀ (s u : State) (t : Nat) (i : Initiator) (on : Bool), s.at t = u →
      u.takesWrite i R.MTR_CTRL = true →
      ∃ s', exec (.meterEnable t i on) s = .next s' ∧
        s'.bit R.MTR_CTRL 0 = on)
  ∧ (∀ (s u : State) (t : Nat) (b : Bank) (rest : List Bank), s.at t = u →
      u.domOn 11 = true →
      u.mtr.closing = b :: rest →
      ∃ s', exec (.meterLogWritten t) s = .next s' ∧
        s'.mtr.closing = rest ∧ s'.rd R.MTR_LOG_SEQ = (u.rd R.MTR_LOG_SEQ + 1) % 2 ^ 32)
  ∧ (∀ (s u : State) (t : Nat) (g : Nat), s.at t = u →
      u.domOn 11 = true →
      ∃ s', exec (.capRefill t) s = .next s' ∧
        (s'.capOf g).lvlCmd = refill (u.capOf g).rateCmd (u.capOf g).burstCmd (u.capOf g).lvlCmd ∧ (s'.capOf g).lvlKib = refill (u.capOf g).rateKib (u.capOf g).burstKib (u.capOf g).lvlKib ∧ (s'.capOf g).lvlAct = refill (u.capOf g).rateAct (u.capOf g).burstAct (u.capOf g).lvlAct)
  ∧ (∀ (s u : State) (t : Nat) (i : Initiator) (n : Fin 4) (on : Bool), s.at t = u →
      u.takesWrite i (R.BV_CTRL n) = true →
      ∃ s', exec (.bvEnable t i n on) s = .next s' ∧
        s'.bit (R.BV_CTRL n) 0 = on)
  ∧ (∀ (s u : State) (t : Nat) (i : Initiator) (n : Fin 4), s.at t = u →
      u.takesWrite i (R.BV_CTRL n) = true →
      ∃ s', exec (.bvRestart t i n) s = .next s' ∧
        s'.rd (R.BV_POS_SECT n) = 0 ∧ s'.fld (R.BV_POS n) 23 0 = u.fld (R.BV_FIRST n) 23 0 ∧ s'.fld (R.BV_POS n) 26 24 = (u.bvHead n 0).getD 0)
  ∧ (∀ (s u : State) (t : Nat) (n : Fin 4), s.at t = u →
      u.bvReady n = true →
      u.domOn 7 = true →
      (u.msch n).bvPending = false →
      (u.msch n).pending = [] →
      (u.msch n).run = [] →
      (u.msch n).pos = none →
      (u.msch n).idleAt + u.fld (R.BV_CFG n) 31 24 * 1000000 ≤ u.gtc →
      u.bit (R.MSCH_CTRL n) 1 = false →
      u.granted n = false →
      (u.bvFind n 9 (u.fld (R.BV_POS n) 26 24) (u.fld (R.BV_POS n) 23 0) (u.fld (R.BV_POS_SECT n) 11 0)).2.isSome = true →
      ∃ s', exec (.bvSubmit t n) s = .next s' ∧
        (s'.msch n).bvPending = true ∧ (s'.msch n).pending.map (fun o => (o.op, o.bv)) = [(3, true)])

/-- The mailbox channels -/
def Obligations.MailboxChannels : Prop :=
  (∀ (s u : State) (t : Nat) (i : Initiator) (ch : Fin 16), s.at t = u →
      mbOwner ch i = true →
      u.ringAccepted ch = true →
      u.mbRunning ch = false →
      (u.chan ch).kept = none →
      ∃ s', exec (.mailboxRing t i ch) s = .next s' ∧
        s'.fld (R.MB_STAT ch) 1 0 = 1 ∧ s'.mbRunning ch = true ∧ (s'.chan ch).wait = true)
  ∧ (∀ (s u : State) (t : Nat) (i : Initiator) (ch : Fin 16) (r : List Nat), s.at t = u →
      mbOwner ch i = true →
      u.ringAccepted ch = true →
      u.mbRunning ch = false →
      u.wounserUp = true →
      u.maon.powerLossAt = none →
      (u.chan ch).kept = some r →
      keptSeq r = u.fld (R.MB_REQ ch 0) 31 16 →
      ∃ s', exec (.mailboxRing t i ch) s = .next s' ∧
        s'.fld (R.MB_STAT ch) 1 0 = 2 ∧ s'.bit (R.MB_STAT ch) 3 = true ∧ (s'.chan ch).wait = false)
  ∧ (∀ (s u : State) (t : Nat) (ch : Fin 16), s.at t = u →
      u.fld (R.MB_STAT ch) 1 0 = 1 →
      (u.chan ch).busyAt + 100000000 * u.fld (R.MB_CFG ch) 23 16 ≤ u.gtc →
      ∃ s', exec (.mailboxTimeout t ch) s = .next s' ∧
        s'.fld (R.MB_STAT ch) 1 0 = 3 ∧ s'.fld (R.MB_RSP ch 0) 15 8 = 11)
  ∧ (∀ (s u : State) (t : Nat) (ch : Fin 16) (n : Fin 4), s.at t = u →
      u.wounserUp = true →
      (u.chan ch).run = some (.unload n) →
      u.motionEnds n = false →
      u.parked n = true →
      ∃ s', exec (.mailboxComplete t ch) s = .next s' ∧
        s'.answered ch mbOK = true)
  ∧ (∀ (s u : State) (t : Nat) (ch : Fin 16) (x t0 : Nat), s.at t = u →
      (u.chan ch).chal = some (x, t0) →
      t0 + 60000000000 ≤ u.gtc →
      ∃ s', exec (.challengeLapse t ch) s = .next s' ∧
        s' = u.onMbChan ch (fun c => { c with chal := none }))
  ∧ (∀ (s u : State) (t : Nat), s.at t = u →
      u.wounserUp = false →
      u.domOn 4 = true →
      u.sump.ccoreReset = false →
      u.fld R.PWR_BOOT_STATUS 3 0 = 3 →
      ∃ s', exec (.wounserRestart t) s = .next s' ∧
        s'.wounserUp = true)

/-- The general mailbox commands and those of the spindle -/
def Obligations.MailboxBasics : Prop :=
  (∀ (s u : State) (t : Nat) (ch : Fin 16), s.at t = u →
      u.mbGoes ch 0x01 false true = true →
      ∃ s', exec (.info t ch) s = .next s' ∧
        s'.answered ch mbOK = true ∧ s'.rd (R.MB_RSP ch 1) = u.rd R.MB_VER % 2 ^ 31 ∧ s'.rd (R.MB_RSP ch 3) = u.rd R.LCS_STATE)
  ∧ (∀ (s u : State) (t : Nat) (ch : Fin 16) (n : Fin 4), s.at t = u →
      u.mbGoes ch 0x02 false true = true →
      ∃ s', exec (.status t ch) s = .next s' ∧
        s'.answered ch mbOK = true ∧ s'.rd (R.MB_RSP ch (2 + n)) = u.statWord n % 2 ^ 32 ∧ s'.rd (R.MB_RSP ch 7) = b2n u.safeHolds + 2 * b2n u.maon.powerLossAt.isSome)
  ∧ (∀ (s u : State) (t : Nat) (ch : Fin 16), s.at t = u →
      u.mbGoes ch 0x60 false true = true →
      ∃ s', exec (.lcGet t ch) s = .next s' ∧
        s'.answered ch mbOK = true ∧ s'.rd (R.MB_RSP ch 1) = u.rd R.LCS_STATE ∧ s'.rd (R.MB_RSP ch 2) = u.fld R.LCS_STATE 9 8)
  ∧ (∀ (s u : State) (t : Nat) (ch : Fin 16), s.at t = u →
      u.mbGoes ch 0x80 false true = true →
      ∃ s', exec (.ownGet t ch) s = .next s' ∧
        s'.answered ch mbOK = true ∧ s'.fld (R.MB_RSP ch 1) 4 0 = u.ownMask)
  ∧ (∀ (s u : State) (t : Nat) (ch : Fin 16), s.at t = u →
      u.mbGoes ch 0x10 (State.noSpin u) (true) = true →
      u.linkUp = true →
      u.domOn 15 = true →
      u.rpmBad ch = false →
      u.safeHolds = false →
      u.spin_ = spOFF →
      u.held 8 = false →
      u.speedOk (u.mbReq ch 1 % 2 ^ 14) = true →
      u.maon.powerLossAt = none →
      ∃ s', exec (.spinStart t ch) s = .next s' ∧
        s'.answered ch mbOK = true ∧ s'.spin_ = spASSESS ∧ s'.fld R.SP_TGT 13 0 = u.mbReq ch 1 % 2 ^ 14)
  ∧ (∀ (s u : State) (t : Nat) (ch : Fin 16), s.at t = u →
      u.mbGoes ch 0x13 (State.noSpin u) (true) = true →
      u.linkUp = true →
      u.domOn 15 = true →
      u.rpmBad ch = false →
      u.safeHolds = false →
      u.speedOk (u.mbReq ch 1 % 2 ^ 14) = true →
      ∃ s', exec (.spinSpeed t ch) s = .next s' ∧
        s'.answered ch mbOK = true ∧ s'.fld R.SP_TGT 13 0 = u.mbReq ch 1 % 2 ^ 14)
  ∧ (∀ (s u : State) (t : Nat) (ch : Fin 16), s.at t = u →
      u.mbGoes ch 0x11 (State.noSpin u) (true) = true →
      u.linkUp = true →
      u.domOn 15 = true →
      u.allParked = true →
      u.peerStopped = true →
      u.spin_ = spSPEED ∨ u.spin_ = spRUN →
      ∃ s', exec (.spinStop t ch) s = .next s' ∧
        s'.answered ch mbOK = true ∧ s'.spin_ = if u.bit R.SP_STATUS 10 then spZVBRAKE else spDECEL)
  ∧ (∀ (s u : State) (t : Nat) (ch : Fin 16), s.at t = u →
      u.mbGoes ch 0x12 (State.noSpin u) (true) = true →
      u.linkUp = true →
      u.domOn 15 = true →
      u.allParked = true →
      u.peerStopped = true →
      u.spin_ ≠ spFAULT →
      u.spin_ ≠ spGEN →
      ∃ s', exec (.spinCoast t ch) s = .next s' ∧
        s'.answered ch mbOK = true ∧ s'.spin_ = spOFF)
  ∧ (∀ (s u : State) (t : Nat) (ch : Fin 16), s.at t = u →
      u.mbGoes ch 0x14 false true = true →
      u.domOn 15 = true →
      addrBad (u.mbAddr ch 1) 68 = false →
      u.spin_ = spOFF →
      (u.mbBytes ch 1 68).err = false →
      spinBlockOk (u.mbBytes ch 1 68).bytes = true →
      ∃ s', exec (.spinCfg t ch) s = .next s' ∧
        s'.answered ch mbOK = true ∧ s'.maon.th1 = BitVec.ofNat 32 (wordAt (u.mbBytes ch 1 68).bytes 48) ∧ s'.maon.plCfg = BitVec.ofNat 32 (wordAt (u.mbBytes ch 1 68).bytes 52))

/-- The mailbox commands of the actuators -/
def Obligations.MailboxActuators : Prop :=
  (∀ (s u : State) (t : Nat) (ch : Fin 16) (n : Fin 4), s.at t = u →
      u.mbGoes ch 0x20 (State.noSect ch u) (true) = true →
      n = u.mbSect ch →
      u.safeHolds = false →
      u.fenced n = false →
      u.domOn 15 = true →
      u.domOn (16 + n) = true →
      u.spin_ = spRUN →
      u.bit R.SP_STATUS 4 = true →
      u.parked n = true →
      u.retracting n = false →
      u.atbState n = stMASTER →
      u.psetBare n (u.defPset n) = false →
      u.held 8 = false →
      u.held n = false →
      u.motionRuns n = false →
      ∃ s', exec (.actLoad t ch) s = .next s' ∧
        (s'.chan ch).run = some (.load n) ∧ (s'.sec n).load.map (fun l => (l.t0, l.step)) = some (u.gtc, 2))
  ∧ (∀ (s u : State) (t : Nat) (n : Fin 4) (l : LoadRun), s.at t = u →
      (u.sec n).load = some l →
      u.wounserUp = true →
      u.linkUp = true →
      u.atbState n ≠ stMASTER →
      l.step = 2 →
      8 ≤ l.good →
      ∃ s', exec (.loadHandoff t n) s = .next s' ∧
        (s'.sec n).load = some { l with step := 4 } ∧ (s'.sec n).loop.pend.map (fun p => p.1.toNat % 4) = some 1)
  ∧ (∀ (s u : State) (t : Nat) (n : Fin 4) (l : LoadRun) (c : Fin 16), s.at t = u →
      (u.sec n).load = some l →
      u.wounserUp = true →
      u.atbState n = stMASTER →
      l.t0 + 100000000 ≤ u.gtc →
      c.val = l.ch % 16 →
      ∃ s', exec (.loadTimeout t n) s = .next s' ∧
        (s'.sec n).load = none ∧ s'.answered c mbFAILED = true)
  ∧ (∀ (s u : State) (t : Nat) (ch : Fin 16) (n : Fin 4), s.at t = u →
      u.mbGoes ch 0x21 (State.noSect ch u) (true) = true →
      n = u.mbSect ch →
      u.fenced n = false →
      u.domOn (16 + n) = true →
      u.parked n = false →
      u.motionRuns n = false →
      ∃ s', exec (.actUnload t ch) s = .next s' ∧
        (s'.chan ch).run = some (.unload n))
  ∧ (∀ (s u : State) (t : Nat) (ch : Fin 16) (n : Fin 4), s.at t = u →
      u.mbGoes ch 0x22 (State.noSect ch u) (true) = true →
      n = u.mbSect ch →
      u.safeHolds = false →
      u.fenced n = false →
      u.domOn (16 + n) = true →
      u.parked n = false →
      u.retracting n = false →
      u.psetBare n (bitsOf (u.mbReq ch 1) 7 6) = false →
      u.motionRuns n = false →
      u.mschHolds n = false →
      ∃ s', exec (.actSeek t ch) s = .next s' ∧
        (s'.chan ch).run = some (.seek n u.gtc (bitsOf (u.mbReq ch 1) 4 2) (u.mbReq ch 2 % 2 ^ 24 * 65536 + u.mbReq ch 3 % 65536)))
  ∧ (∀ (s u : State) (t : Nat) (ch : Fin 16) (n : Fin 4), s.at t = u →
      u.mbGoes ch 0x23 (State.noSect ch u) (true) = true →
      n = u.mbSect ch →
      u.linkUp = true →
      u.safeHolds = false →
      u.fenced n = false →
      u.domOn (16 + n) = true →
      u.rd (R.ATB_LEAD_CNT n) ≠ 0xFFFFFFFF →
      ∃ s', exec (.actMjog t ch) s = .next s' ∧
        s'.answered ch mbOK = true ∧ s'.pass.events.length = u.pass.events.length + 1 ∧ s'.pass.events.getLast?.map (fun f => (f.sec, f.event.typ, f.w2.toNat % 65536)) = some (n, tyMICROJOG, u.mbReq ch 2 % 65536))
  ∧ (∀ (s u : State) (t : Nat) (ch : Fin 16) (n : Fin 4), s.at t = u →
      u.mbGoes ch 0x24 (State.noSect ch u) (true) = true →
      n = u.mbSect ch →
      u.linkUp = true →
      u.domOn (16 + n) = true →
      ∃ s', exec (.actOcClr t ch) s = .next s' ∧
        s'.answered ch mbOK = true ∧ s'.bit (R.ACT_STATUS n) 8 = false ∧ (s'.sec n).act.ocRun = 0)
  ∧ (∀ (s u : State) (t : Nat) (ch : Fin 16) (n : Fin 4), s.at t = u →
      u.mbGoes ch 0x25 false true = true →
      n = u.mbSect ch →
      u.domOn (16 + n) = true →
      regOk (R.RT_CFG n) (u.mbReq ch 3) = true →
      regOk (R.RT_TIME n) (u.mbReq ch 4) = true →
      ∃ s', exec (.actParams t ch) s = .next s' ∧
        s'.answered ch mbOK = true ∧ s'.defPset n = bitsOf (u.mbReq ch 1) 5 4 ∧ s'.mbox.act[n].parkTrack = u.mbReq ch 2 % 2 ^ 24)
  ∧ (∀ (s u : State) (t : Nat) (n : Fin 4) (ang e : Nat) (r : PosReq) (rest : List PosReq), s.at t = u →
      u.linkUp = true →
      u.wounserUp = true →
      u.plRuns = false →
      (u.sec n).load = none →
      (u.sec n).msch.reqs = r :: rest →
      (u.turnTo n ang).reqIgnored n r = false →
      (u.turnTo n ang).bandChanges n r = false →
      (u.turnTo n ang).ahead n = some e →
      ∃ s', exec (.positioningLoad t n ang) s = .next s' ∧
        (s'.sec n).msch.reqs = rest ∧ s'.pass.events.getLast?.map (fun f => (f.sec, f.event.raw, f.event.typ)) = some (n, e % REV_COUNTS, tySETPOINT))

/-- The mailbox commands that load tables and values -/
def Obligations.MailboxTables : Prop :=
  (∀ (s u : State) (t : Nat) (ch : Fin 16) (d : Nat) (x : LedgeRec), s.at t = u →
      u.mbGoes ch 0x30 false true = true →
      u.mbReq ch 3 % 64 = 1 →
      addrBad (u.mbAddr ch 1) 80 = false →
      (u.mbBytes ch 1 80).err = false →
      parseLedge ((u.mbBytes ch 1 80).bytes.take 80) = some (d, x) →
      d < 32 →
      ∃ s', exec (.ldLedge t ch) s = .next s' ∧
        s'.answered ch mbOK = true ∧ s'.rd (R.MB_RSP ch 1) = 0 ∧ (s'.sec (headOf d).1).ledge[(headOf d).2] = some x)
  ∧ (∀ (s u : State) (t : Nat) (ch : Fin 16) (z : ZoneTable), s.at t = u →
      u.mbGoes ch 0x31 false true = true →
      u.mbTableOk ch 6 (fun z => 20 + 16 * min z 257) = true →
      halfAt (u.mbTableBytes ch 6 (fun z => 20 + 16 * min z 257)).bytes 4 < 32 →
      parseZoneTable (halfAt (u.mbTableBytes ch 6 (fun z => 20 + 16 * min z 257)).bytes 4) u.maxRpm (u.mbTableBytes ch 6 (fun z => 20 + 16 * min z 257)).bytes = some z →
      ∃ s', exec (.ldZone t ch) s = .next s' ∧
        s'.answered ch mbOK = true ∧ (s'.sec (headOf (halfAt (u.mbTableBytes ch 6 (fun z => 20 + 16 * min z 257)).bytes 4)).1).zoneNew[(headOf (halfAt (u.mbTableBytes ch 6 (fun z => 20 + 16 * min z 257)).bytes 4)).2] = some z)
  ∧ (∀ (s u : State) (t : Nat) (ch : Fin 16), s.at t = u →
      u.mbGoes ch 0x32 false true = true →
      ∃ s', exec (.ldChcal t ch) s = .next s' ∧
        (u.mbTableOk ch 6 (fun k => chCalLen (min k 9)) = true ∧ ((u.mbTableBytes ch 6 (fun k => chCalLen (min k 9))).st.loadChCal (u.mbTableBytes ch 6 (fun k => chCalLen (min k 9))).bytes).isSome = true →
        s'.answered ch mbOK = true ∧ (findKey (halfAt (u.mbTableBytes ch 6 (fun k => chCalLen (min k 9))).bytes 4) s'.mbox.chcal).isSome = true))
  ∧ (∀ (s u : State) (t : Nat) (ch : Fin 16) (n : Fin 4) (k : Fin 512), s.at t = u →
      u.mbGoes ch 0x33 (false) (State.loopLevel ch u) = true →
      n = u.mbSect ch →
      u.linkUp = true →
      u.domOn (16 + n) = true →
      addrBad (u.mbAddr ch 2) 2180 = false →
      u.loopMode n = 2 →
      ∃ s', exec (.ldLoop t ch) s = .next s' ∧
        ((u.mbBytes ch 2 2180).err = false ∧ loopImageOk (u.mbBytes ch 2 2180).bytes = true →
        s'.answered ch mbOK = true ∧ s'.rd (R.LOOP_BANK n k) = regValue (R.LOOP_BANK n k) (u.rd (R.LOOP_BANK n k)) (wordAt (u.mbBytes ch 2 2180).bytes (128 + 4 * k.val))))
  ∧ (∀ (s u : State) (t : Nat) (ch : Fin 16) (n : Fin 4) (j : Fin 4), s.at t = u →
      u.mbGoes ch 0x34 false true = true →
      n = u.mbSect ch →
      u.linkUp = true →
      u.domOn (16 + n) = true →
      psetOk ((List.range 4).map (fun k => u.mbReq ch (2 + k))) = true →
      ∃ s', exec (.setPset t ch) s = .next s' ∧
        s'.answered ch mbOK = true ∧ s'.rd (R.PG_SET n (4 * bitsOf (u.mbReq ch 1) 3 2 + j.val)) = regValue (R.PG_SET n (4 * bitsOf (u.mbReq ch 1) 3 2 + j.val)) (u.rd (R.PG_SET n (4 * bitsOf (u.mbReq ch 1) 3 2 + j.val))) (u.mbReq ch (2 + j.val)))
  ∧ (∀ (s u : State) (t : Nat) (ch : Fin 16), s.at t = u →
      u.mbGoes ch 0x35 false true = true →
      u.linkUp = true →
      u.domOn 14 = true →
      u.mbReq ch 1 ≠ 0 →
      u.mbReq ch 1 ≤ 20000 →
      u.mbReq ch 3 ≤ u.mbReq ch 1 →
      u.mbReq ch 2 < 65536 →
      ∃ s', exec (.setBudget t ch) s = .next s' ∧
        s'.answered ch mbOK = true ∧ s'.rd R.LE_ISUP = regValue R.LE_ISUP (u.rd R.LE_ISUP) (u.mbReq ch 1) ∧ s'.rd R.LE_ISPIN_RES = regValue R.LE_ISPIN_RES (u.rd R.LE_ISPIN_RES) (u.mbReq ch 2) ∧ s'.rd R.LE_FOLLOW_CAP = regValue R.LE_FOLLOW_CAP (u.rd R.LE_FOLLOW_CAP) (u.mbReq ch 3))
  ∧ (∀ (s u : State) (t : Nat) (ch : Fin 16) (k : Fin 16), s.at t = u →
      u.mbGoes ch 0x36 (false) (State.loopsLevel ch u) = true →
      u.linkUp = true →
      u.domOn 14 = true →
      ∃ s', exec (.ldCpl t ch) s = .next s' ∧
        s'.answered ch mbOK = true ∧ s'.bit R.LE_STATUS 4 = true ∧ s'.fld (R.LE_CPL k) 15 0 = u.mbReq ch (1 + k.val / 2) / 2 ^ (16 * (k.val % 2)) % 65536)
  ∧ (∀ (s u : State) (t : Nat) (ch : Fin 16), s.at t = u →
      u.mbGoes ch 0x37 false true = true →
      u.linkUp = true →
      u.domOn 14 = true →
      regOk R.LE_PERIOD (u.mbReq ch 1) = true →
      u.allParked = true →
      ∃ s', exec (.setPeriod t ch) s = .next s' ∧
        s'.answered ch mbOK = true ∧ s'.rd R.LE_PERIOD = regValue R.LE_PERIOD (u.rd R.LE_PERIOD) (u.mbReq ch 1))
  ∧ (∀ (s u : State) (t : Nat) (ch : Fin 16), s.at t = u →
      u.mbGoes ch 0x38 false true = true →
      ∃ s', exec (.saveCal t ch true) s = .next s' ∧
        s'.answered ch (if ((u.mbTake ch).slotStore 6 (slotImage ((u.mbTake ch).saveBlocks (u.mbReq ch 1)))).isSome then mbOK else mbFAILED) = true)

/-- Challenges, tokens and Expert Grants -/
def Obligations.GrantsAndTokens : Prop :=
  (∀ (s u : State) (t : Nat) (ch : Fin 16), s.at t = u →
      u.mbGoes ch 0x40 false true = true →
      u.bit R.CRYP_RNG_STATUS 1 = false →
      ∃ s', exec (.grChal t ch) s = .next s' ∧
        s'.answered ch mbOK = true ∧ (s'.chan ch).chal.map (fun c => c.2) = some u.gtc)
  ∧ (∀ (s u : State) (t : Nat) (ch : Fin 16) (k : Nat), s.at t = u →
      u.mbGoes ch 0x41 false true = true →
      u.mbReq ch 1 % 256 % 16 = 0 →
      u.mbReq ch 1 % 256 ≤ 144 →
      bitsOf (u.mbReq ch 1) 15 8 ≤ 48 →
      u.mbReq ch 1 % 256 + bitsOf (u.mbReq ch 1) 15 8 ≤ 160 →
      k < bitsOf (u.mbReq ch 1) 15 8 →
      ∃ s', exec (.grToken t ch) s = .next s' ∧
        s'.answered ch mbOK = true ∧ spGet 0 (s'.chan ch).token (u.mbReq ch 1 % 256 + k) = u.mbReq ch (2 + k / 4) / 2 ^ (8 * (k % 4)) % 256)
  ∧ (∀ (s u : State) (t : Nat) (ch : Fin 16) (g : Fin 31) (f : Nat) (n : Fin 4), s.at t = u →
      u.mbGoes ch 0x42 (State.grantForeign ch u) (true) = true →
      u.mbGrant ch = some g →
      u.fld (R.MB_STAT ch) 10 8 < 4 →
      f = u.mbReq ch 1 % 8 →
      n.val = bitsOf (u.mbReq ch 1) 5 4 →
      u.lcState = 3 → u.grantToken ch = true →
      f ≤ 1 → u.fenced n = false ∧ u.domOn (16 + n) = true →
      f = 2 → u.domOn 15 = true ∧ u.allParked = true ∧ u.peerStopped = true →
      f = 0 → (u.sec n).load = none ∧ u.retracting n = false →
      u.atLimit f = false →
      u.holder g = 0 →
      ∃ s', exec (.grReq t ch) s = .next s' ∧
        s'.answered ch mbOK = true ∧ s'.holder g = (if ch.val ≤ 11 then u.fld (R.MB_STAT ch) 10 8 + 1 else 5) ∧ s'.grantCh g = ch ∧ (s'.chan ch).chal = none)
  ∧ (∀ (s u : State) (t : Nat) (ch : Fin 16) (g : Fin 31), s.at t = u →
      u.mbGoes ch 0x43 (State.notHolder ch u) (true) = true →
      u.mbGrant ch = some g →
      u.held g = true →
      u.mbReq ch 1 % 8 = 4 → u.xunitUsed (bitsOf (u.mbReq ch 1) 7 4) = false →
      ∃ s', exec (.grRel t ch) s = .next s' ∧
        s'.answered ch mbOK = true ∧ s'.holder g = 6)
  ∧ (∀ (s u : State) (t : Nat) (ch : Fin 16) (g : Fin 31), s.at t = u →
      u.mbGoes ch 0x44 false true = true →
      u.mbGrant ch = some g →
      ∃ s', exec (.grQuery t ch) s = .next s' ∧
        s'.answered ch mbOK = true ∧ s'.rd (R.MB_RSP ch 1) = u.rd (R.MB_GRANT g))
  ∧ (∀ (s u : State) (t : Nat) (ch : Fin 16) (g : Fin 31), s.at t = u →
      u.mbGoes ch 0x45 (State.xrwDenied ch u) (State.xrwLevel ch u) = true →
      u.mbGrant ch = some g →
      u.xrwAddr ch % 4 = 0 →
      u.xrwWrites ch = false →
      ∃ s', exec (.xrw t ch) s = .next s' ∧
        s'.answered ch mbOK = true ∧ s'.rd (R.MB_RSP ch 1) = ((u.mbTake ch).ccRead (u.xrwAddr ch)).2 % 2 ^ 32)
  ∧ (∀ (s u : State) (t : Nat) (ch : Fin 16) (g : Fin 31), s.at t = u →
      u.mbGoes ch 0x45 (State.xrwDenied ch u) (State.xrwLevel ch u) = true →
      u.mbGrant ch = some g →
      u.xrwAddr ch % 4 = 0 →
      u.xrwWrites ch = true →
      ∃ s', exec (.xrw t ch) s = .next s' ∧
        s'.answered ch mbOK = true ∧ s'.rd (R.MB_RSP ch 1) = (((u.mbTake ch).ccWrite (u.xrwAddr ch) (lanes (u.mbReq ch 5 % 16) ((u.mbTake ch).peek .cc (u.xrwAddr ch)) (u.mbReq ch 4))).ccRead (u.xrwAddr ch)).2 % 2 ^ 32)
  ∧ (∀ (s u : State) (t : Nat) (g : Fin 31) (e : Nat), s.at t = u →
      u.wounserUp = true →
      findKey g.val u.mbox.expiry = some e →
      e ≤ u.gtc →
      u.held g = true →
      ∃ s', exec (.grantExpiry t g) s = .next s' ∧
        s'.holder g = 6 ∧ s'.rd (R.MB_NOTICE (u.grantCh g)) % 256 = 1)
  ∧ (∀ (s u : State) (t : Nat) (g : Fin 31) (e : Nat), s.at t = u →
      u.wounserUp = true →
      findKey g.val u.mbox.expiry = some e →
      e ≤ u.gtc + 10000000000 →
      u.mbox.warned.contains g.val = false →
      u.held g = true →
      ∃ s', exec (.grantExpiryWarn t g) s = .next s' ∧
        s'.mbox.warned.contains g.val = true ∧ s'.rd (R.MB_NOTICE (u.grantCh g)) % 256 = 2 ∧ s'.holder g = u.holder g)
  ∧ (∀ (s u : State) (t : Nat) (g : Fin 31), s.at t = u →
      u.wounserUp = true →
      u.holder g = 6 →
      ∃ s', exec (.grantRestore t g) s = .next s' ∧
        s'.rd (R.MB_GRANT g) = 0)

/-- The mailbox commands of safety, of the life cycle, of images and of ownership -/
def Obligations.SafetyAndLifeCycleCommands : Prop :=
  (∀ (s u : State) (t : Nat) (ch : Fin 16), s.at t = u →
      u.mbGoes ch 0x50 false true = true →
      ∃ s', exec (.safeEnter t ch) s = .next s' ∧
        s'.answered ch mbOK = true ∧ s'.safe = true ∧ s'.sump.safeLine = true)
  ∧ (∀ (s u : State) (t : Nat) (ch : Fin 16), s.at t = u →
      u.mbGoes ch 0x51 false true = true →
      u.safeHolds = true →
      u.safeExitOk = true →
      ∃ s', exec (.safeExit t ch) s = .next s' ∧
        s'.answered ch mbOK = true ∧ s'.safe = false ∧ s'.sump.safeLine = false ∧ s'.maon.safe = false)
  ∧ (∀ (s u : State) (t : Nat) (ch : Fin 16) (x : FUnit), s.at t = u →
      u.mbGoes ch 0x52 false true = true →
      u.mbUnit ch = some x →
      ∃ s', exec (.fence t ch) s = .next s' ∧
        s'.answered ch mbOK = true ∧ s'.unitFenced x = true)
  ∧ (∀ (s u : State) (t : Nat) (ch : Fin 16) (x : FUnit), s.at t = u →
      u.mbGoes ch 0x53 false true = true →
      u.mbUnit ch = some x →
      u.unitFault x = false →
      ∃ s', exec (.unfence t ch) s = .next s' ∧
        s'.answered ch mbOK = true ∧ s'.unitFenced x = false)
  ∧ (∀ (s u : State) (t : Nat) (ch : Fin 16) (to_ : Nat) (keys : List Nat), s.at t = u →
      u.mbGoes ch 0x61 false true = true →
      u.mbox.lc = none →
      to_ = u.mbReq ch 1 →
      to_ ≤ 5 →
      transition u.fuses.state to_ = some keys →
      u.transitionReady to_ = true →
      keys ≠ [] → u.lcToken ch = true →
      u.bit R.CRYP_RNG_STATUS 1 = false →
      ∃ s', exec (.lcMove t ch) s = .next s' ∧
        (s'.chan ch).run = some (.move to_) ∧ s'.mbox.lc = some ⟨ch, to_, none⟩ ∧ (s'.chan ch).chal = none)
  ∧ (∀ (s u : State) (t : Nat) (r : LcRun), s.at t = u →
      u.wounserUp = true →
      u.mbox.lc = some r →
      r.done = none →
      u.plRuns = false →
      u.allParked = true →
      u.fld R.BUF_DUMP_STATUS 1 0 ≠ 1 →
      ∃ s', exec (.lcFuseProgram t true) s = .next s' ∧
        s'.mbox.lc = some { r with done := some u.gtc } ∧ s'.answered r.ch mbOK = true ∧ s'.fuses.scrap = (u.fuses.scrap || r.to_ == 5) ∧ s'.fuses.lcc = u.fuses.lcc + (if r.to_ = 5 then 0 else 1))
  ∧ (∀ (s u : State) (t : Nat) (r : LcRun) (t0 : Nat), s.at t = u →
      u.wounserUp = true →
      u.mbox.lc = some r →
      r.done = some t0 →
      t0 + 1000000 ≤ u.gtc →
      ∃ s', exec (.lcReset t) s = .next s' ∧
        s'.mbox.lc = none ∧ s'.sump.chipResetSw = true)
  ∧ (∀ (s u : State) (t : Nat) (ch : Fin 16), s.at t = u →
      u.mbGoes ch 0x62 false true = true →
      u.mbReq ch 4 % 4 ≠ 3 →
      u.mbReq ch 3 ≠ 0 →
      addrBad (u.mbAddr ch 1) (u.mbReq ch 3) = false →
      u.mbReq ch 3 ≤ imgMax (u.mbReq ch 4 % 4) →
      (u.mbBytes ch 1 (u.mbReq ch 3)).err = false →
      ∃ s', exec (.imgLoad t ch true) s = .next s' ∧
        s'.answered ch (if (u.mbBytes ch 1 (u.mbReq ch 3)).st.imgOk (u.mbReq ch 4 % 4) (u.mbBytes ch 1 (u.mbReq ch 3)).bytes = false then mbREJECTED
        else if ((u.mbBytes ch 1 (u.mbReq ch 3)).st.installImage (u.mbReq ch 4 % 4) (u.mbBytes ch 1 (u.mbReq ch 3)).bytes true).isSome then mbOK else mbFAILED) = true)
  ∧ (∀ (s u : State) (t : Nat), s.at t = u →
      u.domOn 5 = true →
      u.domOn 7 = true →
      u.domOn 12 = true →
      u.wounserUp = true →
      u.bootStage = 2 ∨ (u.bootStage = 4 ∧ u.pwr.winFw = true) →
      1 ≤ u.lcState →
      u.lcState ≤ 4 →
      ∃ s', exec (.appRelease t) s = .next s' ∧
        s'.bootStage = (if u.bootFirmware.isSome then 3 else 4) ∧ s'.pwr.appRun[0] = (u.bootFirmware.isSome || u.pwr.appRun[0]))
  ∧ (∀ (s u : State) (t : Nat) (ch : Fin 16), s.at t = u →
      u.mbGoes ch 0x81 (State.pairRefuses ch 0x81 u) (true) = true →
      ch ≠ 15 →
      ∃ s', exec (.ownTake t ch) s = .next s' ∧
        (s'.chan ch).run = some (.take (u.mbReq ch 1 % 32) u.gtc) ∧ s'.fld R.ROPE_OWN 4 0 = u.fld R.ROPE_OWN 4 0 ||| (u.mbReq ch 1 % 32))
  ∧ (∀ (s u : State) (t : Nat) (ch : Fin 16), s.at t = u →
      u.mbGoes ch 0x82 (State.pairRefuses ch 0x82 u) (true) = true →
      ch ≠ 15 →
      ((List.finRange 4).any (fun n => maskSec (u.mbReq ch 1 % 32) n && u.bit (R.MSCH_CTRL n) 0)) = false →
      bitOf (u.mbReq ch 1 % 32) 0 = false →
      ∃ s', exec (.ownGive t ch) s = .next s' ∧
        (s'.chan ch).run = some (.give (u.mbReq ch 1 % 32) u.gtc))
  ∧ (∀ (s u : State) (t : Nat) (ch : Fin 16) (mask t0 : Nat), s.at t = u →
      u.wounserUp = true →
      (u.chan ch).run = some (.take mask t0) →
      t0 + 25000000 ≤ u.gtc →
      ∃ s', exec (.ownTakeTimeout t ch) s = .next s' ∧
        s'.answered ch mbOK = true ∧ s'.rd (R.MB_RSP ch 1) = mask &&& u.ownMask)
  ∧ (∀ (s u : State) (t : Nat) (ch : Fin 16), s.at t = u →
      u.mbGoes ch 0x83 (State.notPaired u) (true) = true →
      ∃ s', exec (.plReport t ch) s = .next s' ∧
        s'.answered ch mbOK = true ∧ s'.mbox.plReport = some (u.mbReq ch 1))

/-- Flowstone: triggers, records, sealing and clearing -/
def Obligations.FlowstoneCommands : Prop :=
  (∀ (s u : State) (t : Nat) (i : Initiator) (w : BitVec 32) (d : Nat), s.at t = u →
      u.takesWrite i R.FLOW_SWTRIG = true →
      u.flowOn = true →
      d = w.toNat % 64 →
      u.flowDefOn d 0 = true →
      u.bit R.FLOW_STATUS 2 = false →
      u.flow.fifo.length < 16 →
      ∃ s', exec (.flowSwtrig t i w) s = .next s' ∧
        s'.flow.fifo = u.flow.fifo ++ [⟨d, 0, u.gtc, u.rd R.FLOW_SWTRIG_VAL, 0⟩] ∧ s'.bit (R.FLOW_DEF_W0 d) 0 = !u.bit (R.FLOW_DEF_W0 d) 3)
  ∧ (∀ (s u : State) (t : Nat) (x : Trig) (rest : List Trig) (k : Nat), s.at t = u →
      u.domOn 11 = true →
      u.flow.fifo = x :: rest →
      u.flow.run = none →
      u.sealed = false →
      u.badWord x.def_ = none →
      u.bit R.FLOW_CFG 0 = false →
      k < (u.defRun x.def_).2 →
      ∃ s', exec (.flowRecordStart t) s = .next s' ∧
        s'.flow.fifo = rest ∧ s'.flow.missed = 0 ∧ s'.flow.run.map (fun r => (r.seq, 4 * r.words.length, r.words[8 + k]?)) =
        some (u.nextSeq, recLen (u.defRun x.def_).2, some (BitVec.ofNat 32 (u.fifoPop.recRead (u.listAddr ((u.defRun x.def_).1 + k))).1)))
  ∧ (∀ (s u : State) (t : Nat) (r : FlowRun) (k : Nat) (v : Word), s.at t = u →
      u.domOn 11 = true →
      u.flow.run = some r →
      r.words[k]? = some v →
      r.ofs % 4 = 0 →
      r.ofs + 4 * r.words.length ≤ ringBytes →
      ∃ s', exec (.flowRecordEnd t) s = .next s' ∧
        s'.flow.run = none ∧ s'.flow.recs = u.flow.recs ++ [⟨r.ofs, 4 * r.words.length, r.seq⟩] ∧ s'.rd R.FLOW_HEAD_SEQ = r.seq % 2 ^ 32
        ∧ s'.reg (R.FLOW_RING (r.ofs / 4 + k)) = v)
  ∧ (∀ (s u : State) (t : Nat), s.at t = u →
      u.domOn 11 = true →
      ∃ s', exec (.flowBackgroundCheck t .corrected) s = .next s' ∧
        s'.rd R.FLOW_CNT_CE = satU 32 (u.rd R.FLOW_CNT_CE + 1))
  ∧ (∀ (s u : State) (t : Nat) (mem : Fin 4) (word : Nat), s.at t = u →
      u.domOn 11 = true →
      u.sealed = false →
      mem ≠ 3 →
      ∃ s', exec (.flowBackgroundCheck t (.uncorrectable mem word)) s = .next s' ∧
        s'.sealed = true ∧ s'.flow.fifo = [] ∧ s'.flow.run = none)
  ∧ (∀ (s u : State) (t : Nat) (i : Initiator), s.at t = u →
      u.takesWrite i R.FLOW_CTRL = true →
      u.sealed = true →
      ∃ s', exec (.unseal t i) s = .next s' ∧
        s'.flow.unsealing = true)
  ∧ (∀ (s u : State) (t : Nat), s.at t = u →
      u.domOn 11 = true →
      u.flow.unsealing = true →
      ∃ s', exec (.unsealDone t) s = .next s' ∧
        s'.sealed = false ∧ s'.flow.unsealing = false ∧ s'.flow.recs = [] ∧ s'.rd R.FLOW_HEAD_SEQ = 0)
  ∧ (∀ (s u : State) (t : Nat) (i : Initiator), s.at t = u →
      u.takesWrite i R.FLOW_CTRL = true →
      u.flowIdle = true →
      ∃ s', exec (.flowClear t i) s = .next s' ∧
        s'.flow.recs = [] ∧ s'.flow.wr = 0 ∧ s'.rd R.FLOW_HEAD_SEQ = 0 ∧ s'.rd R.FLOW_OLD_OFS = 0)
  ∧ (∀ (s u : State) (t : Nat) (i : Initiator) (k : Fin 8), s.at t = u →
      u.takesWrite i R.FLOW_CTRL = true →
      ∃ s', exec (.lwClr t i) s = .next s' ∧
        s'.reg (R.FLOW_LW k) = resetOf (R.FLOW_LW k))

/-- The counter unit: overflow, sums, snapshot, dump, reads -/
def Obligations.CounterCommands : Prop :=
  (∀ (s u : State) (t : Nat) (k : Fin 128), s.at t = u →
      u.pmuOn = true →
      u.bit (R.PMU_EVSEL k) 10 = true →
      (k.val % 2 == 1 && u.bit (R.PMU_EVSEL k) 11) = false →
      (k.val % 2 == 0 && u.bit (R.PMU_EVSEL (k.val + 1)) 11) = false →
      2 ^ 48 ≤ u.pmuCnt k + 1023 →
      u.pmuCnt k < 2 ^ 48 →
      ∃ s', exec (.counterOverflow t k) s = .next s' ∧
        s'.bit (R.PMU_OVF (k.val / 32)) (k.val % 32) = true ∧ s'.pmuCnt k < 1023)
  ∧ (∀ (s u : State) (t : Nat), s.at t = u →
      u.linkUp = true →
      ∃ s', exec (.pmuMdieSums t) s = .next s' ∧
        s'.flow.msums = [] ∧ (u.pmuOn = false → s' = u.onFlow (fun f => { f with msums := [] })))
  ∧ (∀ (s u : State) (t : Nat) (i : Initiator) (k : Fin 128), s.at t = u →
      u.takesWrite i R.PMU_SNAP = true →
      u.gtc < 2 ^ 64 →
      ∃ s', exec (.snap t i) s = .next s' ∧
        s'.rd64 (R.PMU_SNP_LO k) (R.PMU_SNP_HI k) = u.pmuCnt k ∧ s'.rd64 R.PMU_SNAP_GTC_LO R.PMU_SNAP_GTC_HI = u.gtc ∧ s'.pmuCnt k = u.pmuCnt k)
  ∧ (∀ (s u : State) (t : Nat) (i : Initiator), s.at t = u →
      u.takesWrite i R.PMU_SNAP = true →
      ∃ s', exec (.mlostClr t i) s = .next s' ∧
        s' = u.setBit R.PMU_STATUS 2 false)
  ∧ (∀ (s u : State) (t : Nat), s.at t = u →
      u.domOn 11 = true →
      u.bit R.PMU_CTRL 2 = true →
      u.flow.dumpAt ≤ u.gtc →
      ∃ s', exec (.pmuDump t) s = .next s' ∧
        s'.rd R.PMU_DUMP_SEQ = (u.rd R.PMU_DUMP_SEQ + 1) % 2 ^ 32 ∧ s'.flow.dumpAt = u.flow.dumpAt + 1000000 * u.fld R.PMU_DUMP_PERIOD 15 0)
  ∧ (∀ (s u : State) (t : Nat) (i : Initiator) (k : Fin 128), s.at t = u →
      u.domOn 11 = true →
      u.latched i (R.PMU_CNT_LO k + 1) ≠ 1 →
      ∃ s', exec (.pmuCntRead t i k) s = .next s' ∧
        s'.lastRead = u.reg (R.PMU_CNT_LO k) ∧ s'.latched i (R.PMU_CNT_HI k) = u.rd (R.PMU_CNT_HI k))

/-- Rope: link, pairing, heartbeats, messages -/
def Obligations.RopeLink : Prop :=
  (∀ (s u : State) (t : Nat) (flit : BitVec 144), s.at t = u →
      u.domOn 13 = true →
      u.ropeUp = true →
      eccLinkClass (chk (flit.toNat / 65536) ^^^ (flit.toNat % 65536)) = .clean →
      ∃ s', exec (.ropeFlitReceive t flit) s = .next s' ∧
        s' = u.onRope (fun r => { r with rx := { r.rx with replays := 0 } }))
  ∧ (∀ (s u : State) (t : Nat) (flit : BitVec 144), s.at t = u →
      u.domOn 13 = true →
      u.ropeUp = true →
      eccLinkClass (chk (flit.toNat / 65536) ^^^ (flit.toNat % 65536)) = .ue →
      u.rope.rx.replays < 8 →
      ∃ s', exec (.ropeFlitReceive t flit) s = .next s' ∧
        s'.rd R.ROPE_CNT_REPLAY = satU 32 (u.rd R.ROPE_CNT_REPLAY + 1) ∧ s'.rope.rx.replays = u.rope.rx.replays + 1 ∧ s'.ropeUp = true)
  ∧ (∀ (s u : State) (t : Nat), s.at t = u →
      u.domOn 13 = true →
      u.ropeUp = false →
      ∃ s', exec (.ropeLinkUp t) s = .next s' ∧
        s'.ropeUp = true ∧ s'.rope.txq = [] ∧ s'.toPeer = u.toPeer ++ u.rope.txq.map RopeTx.msg)
  ∧ (∀ (s u : State) (t : Nat) (i : Initiator), s.at t = u →
      u.takesWrite i R.ROPE_CMD = true →
      u.ropeUp = true →
      ∃ s', exec (.ropeRetrain t i) s = .next s' ∧
        s'.ropeUp = false ∧ s'.paired = false ∧ s'.rope.downAt = some u.gtc)
  ∧ (∀ (s u : State) (t : Nat) (p : PeerId), s.at t = u →
      u.domOn 13 = true →
      u.bit R.ROPE_CTRL 0 = true →
      u.ropeUp = true →
      u.bit R.ROPE_STATUS 4 = false →
      p.en = true →
      p.lc = u.lcState →
      p.major = u.fld R.MB_VER 30 16 →
      ∃ s', exec (.pair t p) s = .next s' ∧
        s'.paired = true ∧ s'.rope.hbAt = u.gtc ∧ s'.rd (R.ROPE_PEER_ID 0) = p.devid % 2 ^ 32)
  ∧ (∀ (s u : State) (t : Nat) (i : Initiator) (w : BitVec 32), s.at t = u →
      u.takesWrite i R.ROPE_HB_KICK = true →
      w = 0x4B43#32 →
      ∃ s', exec (.ropeHbKick t i w) s = .next s' ∧
        s'.rope.kickAt = some u.gtc)
  ∧ (∀ (s u : State) (t : Nat) (k : Nat), s.at t = u →
      u.domOn 13 = true →
      u.ropeUp = true →
      u.rope.kickAt = some k →
      u.bit R.ROPE_CTRL 2 = true →
      u.gtc ≤ k + 1000000 →
      ∃ s', exec (.heartbeatSend t) s = .next s' ∧
        s' = { u with toPeer := u.toPeer ++ [.heartbeat] })
  ∧ (∀ (s u : State) (t : Nat), s.at t = u →
      u.domOn 13 = true →
      u.ropeUp = true →
      ∃ s', exec (.heartbeatReceive t) s = .next s' ∧
        s'.suspect = false ∧ s'.rope.hbAt = u.gtc)
  ∧ (∀ (s u : State) (t : Nat), s.at t = u →
      u.domOn 13 = true →
      u.suspect = false →
      u.paired = true →
      u.rope.hbAt + 150000 ≤ u.gtc →
      ∃ s', exec (.heartbeatLoss t) s = .next s' ∧
        s'.suspect = true ∧ s'.rd R.ROPE_CNT_HBMISS = satU 32 (u.rd R.ROPE_CNT_HBMISS + 1))
  ∧ (∀ (s u : State) (t : Nat), s.at t = u →
      u.domOn 13 = true →
      u.ropeUp = true →
      ∃ s', exec (.peerSafeReceive t) s = .next s' ∧
        s'.bit R.ROPE_STATUS 5 = true ∧ (u.wounserUp = true ∧ u.ownsSpin = false ∧ u.allParked = false → s'.safe = true))
  ∧ (∀ (s u : State) (t : Nat) (i : Initiator) (w3 : BitVec 32), s.at t = u →
      u.takesWrite i (R.ROPE_TXMSG 3) = true →
      u.ropeUp = true →
      ∃ s', exec (.ropeMessageSend t i w3) s = .next s' ∧
        s' = { u with toPeer := u.toPeer ++ [.msg ((List.range 3).map (fun k => BitVec.ofNat 32 (spGet 0 u.rope.txw k)) ++ [w3])] })
  ∧ (∀ (s u : State) (t : Nat) (i : Initiator) (w3 : BitVec 32), s.at t = u →
      u.takesWrite i (R.ROPE_TXMSG 3) = true →
      u.ropeUp = false →
      u.rope.txq.length < 16 →
      ∃ s', exec (.ropeMessageSend t i w3) s = .next s' ∧
        s'.toPeer = u.toPeer ∧ s'.rope.txq.length = u.rope.txq.length + 1)
  ∧ (∀ (s u : State) (t : Nat) (w0 w1 w2 w3 : BitVec 32), s.at t = u →
      u.domOn 13 = true →
      u.ropeUp = true →
      u.rope.rxq.length < 16 →
      ∃ s', exec (.ropeMessageReceive t w0 w1 w2 w3) s = .next s' ∧
        s'.rope.rxq = u.rope.rxq ++ [[w0, w1, w2, w3]] ∧ s'.bit R.ROPE_INT_STATUS 3 = true)
  ∧ (∀ (s u : State) (t : Nat) (i : Initiator) (m : List Word) (r : List (List Word)), s.at t = u →
      u.takesWrite i R.ROPE_RXMSG_POP = true →
      u.rope.rxq = m :: r →
      ∃ s', exec (.ropeRxmsgPop t i) s = .next s' ∧
        s'.rope.rxq = r)
  ∧ (∀ (s u : State) (t : Nat) (lane : Fin 2), s.at t = u →
      u.domOn 13 = true →
      u.ropeUp = true →
      ∃ s', exec (.ropeLaneLockLoss t lane) s = .next s' ∧
        s'.ropeUp = false ∧ s'.paired = false ∧ s'.bit R.ROPE_STATUS (8 + lane) = false)

/-- Ownership of the spindle and the sections -/
def Obligations.Ownership : Prop :=
  (∀ (s u : State) (t : Nat) (i : Initiator) (w : BitVec 32), s.at t = u →
      u.takesWrite i R.ROPE_OWN_REQ = true →
      ∃ s', exec (.ownReqWrite t i w) s = .next s' ∧
        s'.rd R.ROPE_OWN_REQ = w.toNat % 32 ∧ s'.fld R.ROPE_OWN 4 0 = w.toNat % 32 ∧ ∀ k : Fin 5, s'.owned k = u.owned k)
  ∧ (∀ (s u : State) (t : Nat) (n : Fin 5), s.at t = u →
      u.owned n = false →
      u.suspect = false →
      n ≠ 0 →
      ∃ s', exec (.ownGntChange t n true) s = .next s' ∧
        s'.owned n = true ∧ s'.bit R.ROPE_INT_STATUS 2 = true ∧ ∀ k : Fin 5, k ≠ n → s'.owned k = u.owned k)
  ∧ (∀ (s u : State) (t : Nat) (n : Fin 5), s.at t = u →
      u.owned n = true →
      n ≠ 0 →
      ∃ s', exec (.ownGntChange t n false) s = .next s' ∧
        s'.owned n = false ∧ s'.parked (unitSec n) = true ∧ s'.winh (unitSec n) = true ∧ s'.loopMode (unitSec n) = 2)
  ∧ (∀ (s u : State) (t : Nat) (n : Fin 5), s.at t = u →
      u.owned n = true →
      n = 0 →
      ∃ s', exec (.ownGntChange t n false) s = .next s' ∧
        s'.owned 0 = false ∧ s'.spin_ = spOFF)
  ∧ (∀ (s u : State) (t : Nat) (n : Fin 5) (b : Bool), s.at t = u →
      ∃ s', exec (.peerSafeNChange t n b) s = .next s' ∧
        s' = u.setBit R.ROPE_OWN (16 + n) b)

/-- Mirror jobs over Rope -/
def Obligations.MirrorJobs : Prop :=
  (∀ (s u : State) (t : Nat) (c : Fin 4) (w : List Nat), s.at t = u →
      0 < u.rd (R.ROPE_MQ_SIZE c) →
      u.domOn 13 = true →
      u.rope.mir[c] = none →
      u.rd (R.ROPE_MQ_PROD c) % u.rd (R.ROPE_MQ_SIZE c) ≠ u.rd (R.ROPE_MQ_CONS c) % u.rd (R.ROPE_MQ_SIZE c) →
      u.domOn 5 = true →
      w = u.mirHead c →
      mirOp w ≠ 2 →
      mirOp w ≠ 3 →
      mirOk w = false →
      ∃ s', exec (.copy t c) s = .next s' ∧
        s'.rd (R.ROPE_MQ_CONS c) = ringNext (u.rd (R.ROPE_MQ_CONS c) % u.rd (R.ROPE_MQ_SIZE c)) (u.rd (R.ROPE_MQ_SIZE c)) ∧ s'.rope.mir[c] = some ⟨w.getD 0 0 / 65536, some 4⟩)
  ∧ (∀ (s u : State) (t : Nat) (c : Fin 4) (w : List Nat), s.at t = u →
      0 < u.rd (R.ROPE_MQ_SIZE c) →
      u.domOn 13 = true →
      u.rope.mir[c] = none →
      u.rd (R.ROPE_MQ_PROD c) % u.rd (R.ROPE_MQ_SIZE c) ≠ u.rd (R.ROPE_MQ_CONS c) % u.rd (R.ROPE_MQ_SIZE c) →
      w = u.mirHead c →
      mirOp w = 1 →
      mirOk w = true →
      u.paired = true →
      u.suspect = false →
      (u.busRead 5 (w.getD 4 0 + 2 ^ 32 * w.getD 5 0) (w.getD 2 0)).err = false →
      ∃ s', exec (.copy t c) s = .next s' ∧
        s'.rd (R.ROPE_MQ_CONS c) = ringNext (u.rd (R.ROPE_MQ_CONS c) % u.rd (R.ROPE_MQ_SIZE c)) (u.rd (R.ROPE_MQ_SIZE c)) ∧ s'.rope.mir[c] = some ⟨w.getD 0 0 / 65536, none⟩)
  ∧ (∀ (s u : State) (t : Nat) (c : Fin 4) (w : List Nat), s.at t = u →
      0 < u.rd (R.ROPE_MQ_SIZE c) →
      u.domOn 13 = true →
      u.rope.mir[c] = none →
      u.rd (R.ROPE_MQ_PROD c) % u.rd (R.ROPE_MQ_SIZE c) ≠ u.rd (R.ROPE_MQ_CONS c) % u.rd (R.ROPE_MQ_SIZE c) →
      w = u.mirHead c →
      mirOp w = 2 →
      mirOk w = true →
      u.paired = false ∨ u.suspect = true →
      ∃ s', exec (.copyMark t c) s = .next s' ∧
        s'.rd (R.ROPE_MQ_CONS c) = ringNext (u.rd (R.ROPE_MQ_CONS c) % u.rd (R.ROPE_MQ_SIZE c)) (u.rd (R.ROPE_MQ_SIZE c)) ∧ s'.rope.mir[c] = some ⟨w.getD 0 0 / 65536, some 3⟩ ∧ s'.toPeer = u.toPeer)
  ∧ (∀ (s u : State) (t : Nat) (c : Fin 4) (w : List Nat), s.at t = u →
      0 < u.rd (R.ROPE_MQ_SIZE c) →
      u.domOn 13 = true →
      u.rope.mir[c] = none →
      u.rd (R.ROPE_MQ_PROD c) % u.rd (R.ROPE_MQ_SIZE c) ≠ u.rd (R.ROPE_MQ_CONS c) % u.rd (R.ROPE_MQ_SIZE c) →
      w = u.mirHead c →
      mirOp w = 3 →
      mirOk w = true →
      u.paired = true →
      u.suspect = false →
      u.ropeUp = true →
      ∃ s', exec (.mirrorClean t c) s = .next s' ∧
        s'.rd (R.ROPE_MQ_CONS c) = ringNext (u.rd (R.ROPE_MQ_CONS c) % u.rd (R.ROPE_MQ_SIZE c)) (u.rd (R.ROPE_MQ_SIZE c)) ∧ s'.rope.mir[c] = some ⟨w.getD 0 0 / 65536, none⟩ ∧ s'.toPeer = u.toPeer ++ [.clean (w.getD 1 0 % 65536)])
  ∧ (∀ (s u : State) (t : Nat) (c : Fin 4) (status : BitVec 4) (res : BitVec 32) (m : MirRun), s.at t = u →
      u.rope.mir[c] = some m →
      u.domOn 13 = true →
      ringFull (u.rd (R.ROPE_MC_PROD c)) (u.rd (R.ROPE_MC_CONS c)) (u.rd (R.ROPE_MC_SIZE c)) = false →
      ∃ s', exec (.mirrorComplete t c status res) s = .next s' ∧
        s'.rope.mir[c] = none ∧ s'.bit R.ROPE_INT_STATUS 4 = true)

/-- Command Window commands -/
def Obligations.CommandWindow : Prop :=
  (∀ (s u : State) (t : Nat) (i : Initiator), s.at t = u →
      u.pathOn i = true →
      u.cwBusy = false →
      u.cwLocked (pathCode i) = false →
      u.cwRefusal 1 = 0 →
      u.fuses.devid.length = 16 →
      ∃ s', exec (.identify t i) s = .next s' ∧
        s'.fld R.CW_STATUS 2 0 = 2 ∧ s'.rd R.CW_ERROR = 0 ∧ s'.rd (R.CW_DATA 4) = u.rd R.LCS_REV ∧ s'.rd (R.CW_DATA 5) = u.rd R.LCS_STATE ∧ s'.rd (R.CW_DATA 6) = u.rd R.MB_VER)
  ∧ (∀ (s u : State) (t : Nat) (i : Initiator), s.at t = u →
      u.pathOn i = true →
      u.cwBusy = false →
      u.cwLocked (pathCode i) = false →
      u.cwRefusal 0x10 = 0 →
      ∃ s', exec (.ssRead t i) s = .next s' ∧
        s'.rd R.CW_STATUS = 1 + 16 * (pathCode i - 1) + 64 * b2n (u.bit R.CW_STATUS 6) + 256 * 0x10 ∧ s'.rd R.CW_ERROR = 0 ∧ s'.mgmt.cwAt = u.gtc)
  ∧ (∀ (s u : State) (t : Nat) (i : Initiator), s.at t = u →
      u.pathOn i = true →
      u.cwBusy = false →
      u.cwLocked (pathCode i) = false →
      u.cwRefusal 0x11 = 0 →
      ∃ s', exec (.ssWrite t i) s = .next s' ∧
        s'.rd R.CW_STATUS = 1 + 16 * (pathCode i - 1) + 64 * b2n (u.bit R.CW_STATUS 6) + 256 * 0x11 ∧ s'.rd R.CW_ERROR = 0 ∧ s'.mgmt.cwAt = u.gtc)
  ∧ (∀ (s u : State) (t : Nat) (i : Initiator), s.at t = u →
      u.pathOn i = true →
      u.cwBusy = false →
      u.cwLocked (pathCode i) = false →
      u.cwRefusal 0x12 = 0 →
      ∃ s', exec (.ssErase t i) s = .next s' ∧
        s'.rd R.CW_STATUS = 1 + 16 * (pathCode i - 1) + 64 * b2n (u.bit R.CW_STATUS 6) + 256 * 0x12 ∧ s'.rd R.CW_ERROR = 0 ∧ s'.mgmt.cwAt = u.gtc)
  ∧ (∀ (s u : State) (t : Nat) (i : Initiator), s.at t = u →
      u.pathOn i = true →
      u.cwBusy = false →
      u.cwLocked (pathCode i) = false →
      u.cwRefusal 0x20 = 0 →
      ∃ s', exec (.imgStage t i) s = .next s' ∧
        s'.rd R.CW_STATUS = 1 + 16 * (pathCode i - 1) + 64 * b2n (u.bit R.CW_STATUS 6) + 256 * 0x20 ∧ s'.rd R.CW_ERROR = 0 ∧ s'.mgmt.cwAt = u.gtc)
  ∧ (∀ (s u : State) (t : Nat) (i : Initiator), s.at t = u →
      u.pathOn i = true →
      u.cwBusy = false →
      u.cwLocked (pathCode i) = false →
      u.cwRefusal 0x21 = 0 →
      ∃ s', exec (.imgCommit t i) s = .next s' ∧
        s'.rd R.CW_STATUS = 1 + 16 * (pathCode i - 1) + 64 * b2n (u.bit R.CW_STATUS 6) + 256 * 0x21 ∧ s'.rd R.CW_ERROR = 0 ∧ s'.mgmt.cwAt = u.gtc)
  ∧ (∀ (s u : State) (t : Nat) (i : Initiator), s.at t = u →
      u.pathOn i = true →
      u.cwBusy = false →
      u.cwLocked (pathCode i) = false →
      u.cwRefusal 0x30 = 0 →
      ∃ s', exec (.physRead t i) s = .next s' ∧
        s'.rd R.CW_STATUS = 1 + 16 * (pathCode i - 1) + 64 * b2n (u.bit R.CW_STATUS 6) + 256 * 0x30 ∧ s'.rd R.CW_ERROR = 0 ∧ s'.mgmt.cwAt = u.gtc)
  ∧ (∀ (s u : State) (t : Nat) (i : Initiator) (c : Nat), s.at t = u →
      u.pathOn i = true →
      u.cwBusy = false →
      u.cwLocked (pathCode i) = false →
      u.cwRefusal 0x10 = c →
      c ≠ 0 →
      ∃ s', exec (.ssRead t i) s = .next s' ∧
        s'.fld R.CW_STATUS 2 0 = 3 ∧ s'.rd R.CW_ERROR = c)
  ∧ (∀ (s u : State) (t : Nat) (i : Initiator) (op : BitVec 8) (k : Nat) (r : List Nat), s.at t = u →
      u.pathOn i = true →
      u.cwBusy = false →
      u.cwLocked (pathCode i) = false →
      0x80 ≤ op.toNat →
      u.cwRefusal op.toNat = 0 →
      u.lowestFree u.reserved 1 0 1024 = k :: r →
      ∃ s', exec (.driveFirmwareOpcode t i op) s = .next s' ∧
        s'.fld R.CW_STATUS 2 0 = 1 ∧ s'.mgmt.cwSlot = some k ∧ s'.rd R.CW_FW_SLOT = k ∧ (s'.slot? k).isSome = true)
  ∧ (∀ (s u : State) (t : Nat) (i : Initiator) (w : BitVec 32), s.at t = u →
      u.pathOn i = true →
      w.toNat % 4 = pathCode i →
      u.cwLock = 0 →
      ∃ s', exec (.cwLock t i w) s = .next s' ∧
        s'.cwLock = pathCode i ∧ s'.mgmt.cwTouch = u.gtc)
  ∧ (∀ (s u : State) (t : Nat) (i : Initiator) (w : BitVec 32), s.at t = u →
      u.pathOn i = true →
      w.toNat % 4 = 0 →
      u.cwLock = pathCode i →
      ∃ s', exec (.cwLock t i w) s = .next s' ∧
        s'.cwLock = 0)
  ∧ (∀ (s u : State) (t : Nat), s.at t = u →
      u.cwLock ≠ 0 →
      u.cwBusy = false →
      u.mgmt.cwTouch + 10000000000 ≤ u.gtc →
      ∃ s', exec (.cwLockTimeout t) s = .next s' ∧
        s'.cwLock = 0)

/-- How a Command Window command ends -/
def Obligations.CommandWindowEnds : Prop :=
  (∀ (s u : State) (t : Nat) (res : BitVec 32) (bytes : List (BitVec 8)) (k : Fin 1024), s.at t = u →
      u.cwBusy = true →
      u.cwServer = true →
      u.fld R.BUF_DUMP_STATUS 1 0 ≠ 1 →
      u.fld R.CW_STATUS 15 8 = 0x10 →
      ∃ s', exec (.cwComplete t true res bytes) s = .next s' ∧
        s'.fld R.CW_STATUS 2 0 = 2 ∧ s'.rd (R.CW_DATA k) = wordAt (u.ssBytes u.cwAddr 4096) (4 * k))
  ∧ (∀ (s u : State) (t : Nat) (res : BitVec 32) (bytes : List (BitVec 8)), s.at t = u →
      u.cwBusy = true →
      u.cwServer = true →
      u.fld R.BUF_DUMP_STATUS 1 0 ≠ 1 →
      u.fld R.CW_STATUS 15 8 = 0x11 →
      ∃ s', exec (.cwComplete t true res bytes) s = .next s' ∧
        s'.fld R.CW_STATUS 2 0 = 2 ∧ s'.store = (u.ssProgram u.cwAddr u.cwData).store)
  ∧ (∀ (s u : State) (t : Nat) (res : BitVec 32) (bytes : List (BitVec 8)) (a : Nat), s.at t = u →
      u.cwBusy = true →
      u.cwServer = true →
      u.fld R.BUF_DUMP_STATUS 1 0 ≠ 1 →
      u.fld R.CW_STATUS 15 8 = 0x12 →
      ∃ s', exec (.cwComplete t true res bytes) s = .next s' ∧
        s'.fld R.CW_STATUS 2 0 = 2 ∧ Memory.read erasedByte s'.store a = if u.cwAddr ≤ a ∧ a < u.cwAddr + 65536 * u.fld R.CW_COUNT 15 0 then erasedByte else Memory.read erasedByte u.store a)
  ∧ (∀ (s u : State) (t : Nat) (res : BitVec 32) (bytes : List (BitVec 8)), s.at t = u →
      u.cwBusy = true →
      u.cwServer = true →
      u.fld R.BUF_DUMP_STATUS 1 0 ≠ 1 →
      u.fld R.CW_STATUS 15 8 = 0x10 →
      ∃ s', exec (.cwComplete t false res bytes) s = .next s' ∧
        s'.fld R.CW_STATUS 2 0 = 3 ∧ s'.rd R.CW_ERROR = 7 ∧ s'.store = u.store)
  ∧ (∀ (s u : State) (t : Nat), s.at t = u →
      u.cwBusy = true →
      u.mgmt.cwAt + 1000000000 * u.fld R.CW_CFG 15 8 ≤ u.gtc →
      ∃ s', exec (.cwTimeout t) s = .next s' ∧
        s'.fld R.CW_STATUS 2 0 = 3 ∧ s'.rd R.CW_ERROR = 9)
  ∧ (∀ (s u : State) (t : Nat) (i : Initiator), s.at t = u →
      u.pathOn i = true →
      u.cwBusy = true →
      ∃ s', exec (.cwAbort t i) s = .next s' ∧
        s'.irqs = u.irqs ++ [⟨if u.fld R.CW_STATUS 15 8 < 0x80 then .cc else appTarget (u.fld R.QENG_CTRL 7 6), .unit 177⟩])
  ∧ (∀ (s u : State) (t : Nat) (i : Initiator), s.at t = u →
      u.takesWrite i R.CW_SVC = true →
      ∃ s', exec (.cwSvcOn t i) s = .next s' ∧
        s' = u.setBit R.CW_STATUS 6 true)
  ∧ (∀ (s u : State) (t : Nat) (i : Initiator), s.at t = u →
      u.takesWrite i R.CW_SVC = true →
      u.mgmt.cwSlot = none →
      ∃ s', exec (.cwSvcOff t i) s = .next s' ∧
        s' = u.setBit R.CW_STATUS 6 false)
  ∧ (∀ (s u : State) (t : Nat) (i : Initiator) (k : Nat), s.at t = u →
      u.takesWrite i R.CW_SVC = true →
      u.mgmt.cwSlot = some k →
      ∃ s', exec (.cwSvcOff t i) s = .next s' ∧
        s'.bit R.CW_STATUS 6 = false ∧ s'.fld R.CW_STATUS 2 0 = 4 ∧ s'.mgmt.cwSlot = none)
  ∧ (∀ (s u : State) (t : Nat) (i : Initiator) (w : BitVec 32) (k : Nat), s.at t = u →
      u.takesWrite i R.CW_FW_DONE = true →
      2 ≤ w.toNat % 8 →
      w.toNat % 8 ≤ 4 →
      u.mgmt.cwLate = [] →
      u.mgmt.cwSlot = some k →
      ∃ s', exec (.cwFwDone t i w) s = .next s' ∧
        s'.fld R.CW_STATUS 2 0 = w.toNat % 8 ∧ s'.rd R.CW_ERROR = u.rd R.CW_FW_ERROR ∧ s'.rd R.CW_RES = u.rd R.CW_FW_RES ∧ s'.mgmt.cwSlot = none)

/-- Chimney: packets and the messages that the management core serves -/
def Obligations.ChimneyMessages : Prop :=
  (∀ (s u : State) (t : Nat) (p : MctpPacket), s.at t = u →
      u.chmServes = true →
      u.chmAddressed p.bytes = true →
      u.chmUnwrap p.bytes = none →
      ∃ s', exec (.mctpPacket t p) s = .next s' ∧
        s'.rd R.CHM_CNT_DROP = satU 32 (u.rd R.CHM_CNT_DROP + 1) ∧ s'.mgmt = u.mgmt)
  ∧ (∀ (s u : State) (t : Nat) (p : MctpPacket) (b : List Byte), s.at t = u →
      u.chmServes = true →
      u.chmAddressed p.bytes = true →
      u.chmUnwrap p.bytes = some b →
      byteAt b 1 = 0 →
      bitsOf (byteAt b 3) 7 6 = 3 →
      byteAt b 4 % 128 ≠ 0x7E →
      (b.drop 4).length ≤ u.mgmt.unit →
      (b.drop 4).length ≤ 4104 →
      ∃ s', exec (.mctpPacket t p) s = .next s' ∧
        s'.mgmt.rx = u.mgmt.rx ++ [b.drop 4] ∧ s'.rd R.CHM_CNT_RX = satU 32 (u.rd R.CHM_CNT_RX + 1))
  ∧ (∀ (s u : State) (t : Nat) (e : BitVec 8), s.at t = u →
      u.chmServes = true →
      e ≠ 0 →
      e ≠ 0xFF →
      ∃ s', exec (.setEndpointId t e) s = .next s' ∧
        s'.fld R.CHM_STATUS 15 8 = e.toNat ∧ s'.bit R.CHM_STATUS 1 = true ∧ s'.mgmt.sent = u.mgmt.sent ++ [.control 1 0 [0, e.toNat, 0]])
  ∧ (∀ (s u : State) (t : Nat), s.at t = u →
      u.chmServes = true →
      ∃ s', exec (.getEndpointId t) s = .next s' ∧
        s'.mgmt.sent = u.mgmt.sent ++ [.control 2 0 [u.fld R.CHM_STATUS 15 8, 0, 0]])
  ∧ (∀ (s u : State) (t : Nat), s.at t = u →
      u.chmServes = true →
      ∃ s', exec (.getEndpointUuid t) s = .next s' ∧
        s'.mgmt.sent = u.mgmt.sent ++ [.control 3 0 ((toBytes 16 Config.chmUuid.toNat).map (fun b => b.toNat))])
  ∧ (∀ (s u : State) (t : Nat), s.at t = u →
      u.chmServes = true →
      ∃ s', exec (.getMctpVersionSupport t) s = .next s' ∧
        s'.mgmt.sent = u.mgmt.sent ++ [.control 4 0 (Config.mctpVersions.length :: Config.mctpVersions.map (fun w => w.toNat))])
  ∧ (∀ (s u : State) (t : Nat), s.at t = u →
      u.chmServes = true →
      ∃ s', exec (.getMessageTypeSupport t) s = .next s' ∧
        s'.mgmt.sent = u.mgmt.sent ++ [.control 5 0 [2, 4, 0x7E]])
  ∧ (∀ (s u : State) (t : Nat) (d : BitVec 8), s.at t = u →
      u.chmServes = true →
      d.toNat ≤ 1 →
      ∃ s', exec (.readNvmeMiDataStructure t d) s = .next s' ∧
        s'.mgmt.sent = u.mgmt.sent ++ [.mi 0 ((Config.miData d.toNat).map (fun b => b.toNat))])
  ∧ (∀ (s u : State) (t : Nat), s.at t = u →
      u.chmServes = true →
      u.hlthFresh = true →
      ∃ s', exec (.nvmSubsystemHealthStatusPoll t) s = .next s' ∧
        s'.mgmt.sent = u.mgmt.sent ++ [.mi 0 [1, u.fld R.CHM_HLTH0 7 0, u.fld R.CHM_HLTH0 15 8, u.fld R.CHM_HLTH0 23 16, u.fld R.CHM_HLTH1 15 0]])
  ∧ (∀ (s u : State) (t : Nat), s.at t = u →
      u.chmServes = true →
      u.hlthFresh = false →
      ∃ s', exec (.nvmSubsystemHealthStatusPoll t) s = .next s' ∧
        s'.mgmt.sent = u.mgmt.sent ++ [.mi 0 [0, u.fld R.CHM_HLTH0 7 0, u.junctionDeg, u.fld R.CHM_HLTH0 23 16, u.fld R.CHM_HLTH1 15 0]])
  ∧ (∀ (s u : State) (t : Nat), s.at t = u →
      u.chmServes = true →
      ∃ s', exec (.configurationGet t 3#8) s = .next s' ∧
        s'.mgmt.sent = u.mgmt.sent ++ [.mi 0 [u.mgmt.unit]])
  ∧ (∀ (s u : State) (t : Nat), s.at t = u →
      u.chmServes = true →
      ∃ s', exec (.configurationGet t 1#8) s = .next s' ∧
        s'.mgmt.sent = u.mgmt.sent ++ [.mi 0 [u.mgmt.freq]])
  ∧ (∀ (s u : State) (t : Nat) (v : Nat), s.at t = u →
      u.chmServes = true →
      1 ≤ v →
      v ≤ 3 →
      ∃ s', exec (.configurationSet t 1#8 v) s = .next s' ∧
        s'.mgmt.freq = v ∧ s'.mgmt.sent = u.mgmt.sent ++ [.mi 0 []])
  ∧ (∀ (s u : State) (t : Nat) (v : Nat), s.at t = u →
      u.chmServes = true →
      64 ≤ v →
      v ≤ 256 →
      ∃ s', exec (.configurationSet t 3#8 v) s = .next s' ∧
        s'.mgmt.unit = v ∧ s'.mgmt.sent = u.mgmt.sent ++ [.mi 0 []])
  ∧ (∀ (s u : State) (t : Nat) (ofs len : Nat), s.at t = u →
      u.chmServes = true →
      u.vpdWaits = false →
      ofs + len ≤ 512 →
      ∃ s', exec (.vpdRead t ofs len) s = .next s' ∧
        s'.mgmt.sent = u.mgmt.sent ++ [match u.vpdBase with
        | some a => .mi 0 ((u.ssBytes (a + ofs) len).map (fun x => x.toNat))
        | none => .mi 2 []])
  ∧ (∀ (s u : State) (t : Nat) (ofs : Nat) (bytes : List (BitVec 8)) (x : Nat), s.at t = u →
      u.chmServes = true →
      u.vpdWaits = false →
      ofs + bytes.length ≤ 512 →
      ∃ s', exec (.vpdWrite t ofs bytes) s = .next s' ∧
        s'.mgmt.sent = u.mgmt.sent ++ [.mi (if u.vpdBase.isSome then 0 else 2) []] ∧ Memory.read erasedByte s'.store x =
        match u.vpdBase with
        | some a => if a ≤ x ∧ x < a + 512 then (overlay (u.ssBytes a 512) ofs bytes).getD (x - a) erasedByte
            else if a ≤ x ∧ x < a + 65536 then erasedByte else Memory.read erasedByte u.store x
        | none => Memory.read erasedByte u.store x)
  ∧ (∀ (s u : State) (t : Nat), s.at t = u →
      u.chmServes = true →
      u.domOn 3 = true →
      ∃ s', exec (.nvmeMiReset t) s = .next s' ∧
        (s'.port .a).nssro = true ∧ (s'.port .b).nssro = true)
  ∧ (∀ (s u : State) (t : Nat) (a : BitVec 7), s.at t = u →
      u.chmServes = true →
      u.i3c = true →
      ∃ s', exec (.dynamicAddressAssign t a) s = .next s' ∧
        s'.fld R.CHM_STATUS 22 16 = a.toNat)
  ∧ (∀ (s u : State) (t : Nat), s.at t = u →
      ∃ s', exec (.smbusTimeout t) s = .next s' ∧
        s' = u)
  ∧ (∀ (s u : State) (t : Nat) (i : Initiator) (w : BitVec 32), s.at t = u →
      u.takesWrite i R.CHM_HLTH0 = true →
      ∃ s', exec (.healthUpdate t i w) s = .next s' ∧
        s'.rd R.CHM_HLTH0 = w.toNat % 2 ^ 24 ∧ s'.mgmt.hlthAt = u.gtc ∧ s'.mgmt.fresh = true)
  ∧ (∀ (s u : State) (t : Nat), s.at t = u →
      u.chmServes = true →
      u.hlthLate = true →
      ∃ s', exec (.healthStale t) s = .next s' ∧
        s' = u.onMgmt (fun m => { m with fresh := false }))

/-- Chimney: forwarded requests and vendor messages -/
def Obligations.ChimneyVendorMessages : Prop :=
  (∀ (s u : State) (t : Nat) (b : List (BitVec 8)), s.at t = u →
      u.chmServes = true →
      u.fwdOn = true →
      u.bit R.CHM_FWD_CTRL 0 = false →
      b.length ≤ 4104 →
      ∃ s', exec (.forwardRequest t b) s = .next s' ∧
        s'.rd R.CHM_FWD_CTRL = 1 + 65536 * b.length ∧ s'.mgmt.fwdAt = u.gtc ∧ s'.mgmt.more = false)
  ∧ (∀ (s u : State) (t : Nat) (i : Initiator) (w : BitVec 32), s.at t = u →
      u.takesWrite i R.CHM_FWD_RLEN = true →
      u.bit R.CHM_FWD_CTRL 0 = true →
      0 < w.toNat % 8192 →
      w.toNat % 8192 ≤ 4104 →
      u.mgmt.fwdQ = [] →
      ∃ s', exec (.forwardResponse t i w) s = .next s' ∧
        s'.bit R.CHM_FWD_CTRL 0 = false ∧ s'.mgmt.sent.length = u.mgmt.sent.length + 1)
  ∧ (∀ (s u : State) (t : Nat), s.at t = u →
      u.chmServes = true →
      u.bit R.CHM_FWD_CTRL 0 = true →
      u.mgmt.more = false →
      u.mgmt.fwdAt + 100000000 ≤ u.gtc →
      ∃ s', exec (.moreProcessingRequired t) s = .next s' ∧
        s'.mgmt.sent = u.mgmt.sent ++ [.mi 1 []] ∧ s'.mgmt.more = true ∧ s'.bit R.CHM_FWD_CTRL 0 = true)
  ∧ (∀ (s u : State) (t : Nat), s.at t = u →
      u.chmServes = true →
      u.bit R.CHM_FWD_CTRL 0 = true →
      u.mgmt.fwdQ = [] →
      u.mgmt.fwdAt + 5000000000 ≤ u.gtc →
      ∃ s', exec (.forwardTimeout t) s = .next s' ∧
        s'.mgmt.sent = u.mgmt.sent ++ [.mi 2 []] ∧ s'.bit R.CHM_FWD_CTRL 0 = false)
  ∧ (∀ (s u : State) (t : Nat) (ofs len : Nat), s.at t = u →
      u.chmServes = true →
      u.vdmOk = true →
      vdmRange false ofs len = true →
      ∃ s', exec (.regRead t ofs len) s = .next s' ∧
        s'.mgmt.sent = u.mgmt.sent ++ [.vendor 1 0 ofs len (u.cwReads (ofs) (len / 4) []).2])
  ∧ (∀ (s u : State) (t : Nat) (ofs len : Nat), s.at t = u →
      u.chmServes = true →
      u.vdmOk = true →
      vdmRange true ofs len = true →
      ∃ s', exec (.dataRead t ofs len) s = .next s' ∧
        s'.mgmt.sent = u.mgmt.sent ++ [.vendor 3 0 ofs len (u.cwReads (0x1000 + ofs) (len / 4) []).2])
  ∧ (∀ (s u : State) (t : Nat) (ofs len : Nat) (w : List (BitVec 32)), s.at t = u →
      u.chmServes = true →
      u.vdmOk = true →
      vdmRange false ofs len = true →
      4 * w.length = len →
      ∃ s', exec (.regWrite t ofs len w) s = .next s' ∧
        s'.mgmt.sent = u.mgmt.sent ++ [.vendor 2 (u.cwWrites (ofs) w 0).2 ofs len []])
  ∧ (∀ (s u : State) (t : Nat) (ofs len : Nat) (w : List (BitVec 32)), s.at t = u →
      u.chmServes = true →
      u.vdmOk = true →
      vdmRange true ofs len = true →
      4 * w.length = len →
      ∃ s', exec (.dataWrite t ofs len w) s = .next s' ∧
        s'.mgmt.sent = u.mgmt.sent ++ [.vendor 4 (u.cwWrites (0x1000 + ofs) w 0).2 ofs len []])
  ∧ (∀ (s u : State) (t : Nat) (ofs len : Nat) (w : List (BitVec 32)) (k : Nat) (v : BitVec 32), s.at t = u →
      u.chmServes = true →
      u.vdmOk = true →
      vdmRange true ofs len = true →
      4 * w.length = len →
      u.cwBusy = false →
      u.cwLocked 3 = false →
      w[k]? = some v →
      ∃ s', exec (.dataWrite t ofs len w) s = .next s' ∧
        s'.reg (R.CW_DATA (ofs / 4 + k)) = v)
  ∧ (∀ (s u : State) (t : Nat) (w : List (BitVec 32)) (k : Nat) (v : BitVec 32), s.at t = u →
      u.chmServes = true →
      u.vdmOk = true →
      w.length = 16 →
      u.wounserUp = true →
      u.mbRunning 14 = false →
      u.mgmt.mboxWait = false →
      (u.chan 14).kept = none →
      w[k]? = some v →
      ∃ s', exec (.mbox t w) s = .next s' ∧
        s'.mgmt.mboxWait = true ∧ s'.mbRunning 14 = true ∧ s'.reg (R.MB_REQ 14 k) = v)
  ∧ (∀ (s u : State) (t : Nat), s.at t = u →
      u.chmServes = true →
      u.mgmt.mboxWait = true →
      2 ≤ u.fld (R.MB_STAT 14) 1 0 →
      ∃ s', exec (.mboxResponse t) s = .next s' ∧
        s'.mgmt.sent = u.mgmt.sent ++ [.vendor 5 0 0 64 ((List.range 16).map (fun k => u.rd (R.MB_RSP 14 k)))] ∧ s'.mgmt.mboxWait = false)
  ∧ (∀ (s u : State) (t : Nat) (i : Initiator), s.at t = u →
      u.takesWrite i R.PWR_RST_CTRL = true →
      (iniIsCc i || iniIsApp i) = true →
      ∃ s', exec (.mgmtReset t i) s = .next s' ∧
        s'.mgmt.asm = [] ∧ s'.mgmt.rx = [] ∧ s'.bit R.PWR_MWDOG_CFG 31 = false ∧ s'.cwLock ≠ 3)
  ∧ (∀ (s u : State) (t : Nat), s.at t = u →
      u.bit R.PWR_MWDOG_CFG 31 = true →
      u.pwr.mwdogAt + 1000000 * u.pwr.mwdogTmo ≤ u.gtc →
      ∃ s', exec (.mwdogExpiry t) s = .next s' ∧
        s'.bit R.PWR_RST_CAUSE 6 = true ∧ s'.mgmt.rx = [] ∧ s'.bit R.PWR_MWDOG_CFG 31 = false)

/-- What a register or memory access by address does -/
def Obligations.RegisterAccess : Prop :=
  (∀ (s u : State) (t : Nat) (i : Initiator) (a : Nat) (k : Nat) (d : BitVec 32) (x : Nat), s.at t = u →
      u.reaches i a = true →
      placeOf a = .sram →
      1 ≤ k →
      k ≤ 4 →
      u.domOn 5 = true →
      a + k ≤ 0x20400000 →
      ∃ s', exec (.registerWrite t i a k d) s = .next s' ∧
        Memory.read unlistedByte s'.sram x =
        if a - 0x20000000 ≤ x ∧ x < a - 0x20000000 + k then (toBytes 4 d.toNat).getD (x - (a - 0x20000000)) 0 else Memory.read unlistedByte u.sram x)
  ∧ (∀ (s u : State) (t : Nat) (i : Initiator) (a : Nat) (k : Nat) (d : BitVec 32) (x : Nat), s.at t = u →
      u.reaches i a = true →
      placeOf a = .ccSram →
      1 ≤ k →
      k ≤ 4 →
      i = .cc →
      ∃ s', exec (.registerWrite t i a k d) s = .next s' ∧
        Memory.read unlistedByte s'.ccSram x =
        if a - 0x10000000 ≤ x ∧ x < a - 0x10000000 + k then (toBytes 4 d.toNat).getD (x - (a - 0x10000000)) 0 else Memory.read unlistedByte u.ccSram x)
  ∧ (∀ (s u : State) (t : Nat) (i : Initiator) (a : Nat) (d : BitVec 32) (b : Blk) (n k : Nat) (r : RegRow), s.at t = u →
      u.reaches i a = true →
      accessFaults i a = false →
      inMWindow a = true →
      u.linkUp = true →
      a % 4 = 0 →
      regAt a = some (b, n, r, k) →
      b ≠ .atb ∨ r.off ≠ 0x20 →
      ∃ s', exec (.registerWrite t i a 4 d) s = .next s' ∧
        s'.pass.posted = u.pass.posted ++ [⟨i, a, d⟩] ∧ s'.regs = u.regs)
  ∧ (∀ (s u : State) (t : Nat) (i : Initiator) (a : Nat) (d : BitVec 32) (n k : Nat) (r : RegRow), s.at t = u →
      u.reaches i a = true →
      a % 4 = 0 →
      u.addrOn a = true →
      regAt a = some (.xfer, n, r, k) →
      u.verdict ⟨i, .xfer, n, offOf a, a, r, d.toNat⟩ = .take →
      ∃ s', exec (.registerWrite t i a 4 d) s = .next s' ∧
        s'.reg a = BitVec.ofNat 32 (applyFields (u.rd a) d.toNat r.fields).1)
  ∧ (∀ (s u : State) (t : Nat) (i : Initiator) (a : Nat) (b : Blk) (n k : Nat) (r : RegRow), s.at t = u →
      u.reaches i a = true →
      a % 4 = 0 →
      inMWindow a = false →
      u.addrOn a = true →
      regAt a = some (b, n, r, k) →
      r.has .rc = true →
      hiOf a = none →
      isHi a = false →
      b = .buf ∨ b = .passh ∨ b = .flow →
      ∃ s', exec (.registerReadClear t i a 4) s = .next s' ∧
        s'.lastRead = BitVec.ofNat 32 (u.peek i a) ∧ s'.reg a = BitVec.ofNat 32 (clearRc (u.rd a) r.fields))
  ∧ (∀ (s u : State) (t : Nat) (i : Initiator) (a : Nat) (hi : Nat) (b : Blk) (n k : Nat) (r : RegRow), s.at t = u →
      u.reaches i a = true →
      a % 4 = 0 →
      inMWindow a = false →
      u.addrOn a = true →
      regAt a = some (b, n, r, k) →
      b = .pwr ∨ b = .mtr →
      hiOf a = some hi →
      ∃ s', exec (.loRead t i a) s = .next s' ∧
        s'.lastRead = BitVec.ofNat 32 (u.peek i a) ∧ s'.latched i hi = u.peek i hi % 2 ^ 32)
  ∧ (∀ (s u : State) (t : Nat) (i : Initiator) (a : Nat) (k : Nat) (w : Bool) (b : Blk) (n o : Nat), s.at t = u →
      u.reaches i a = true →
      placeOf a = .block b n o →
      inWord a k = false →
      ∃ s', exec (.unalignedAccess t i a k w) s = .next s' ∧
        s'.regs = u.regs ∧ (w = false → s'.lastRead = 0#32))

/-- R10: narrow and straddling accesses to registers -/
def Obligations.NarrowAndStraddlingAccesses : Prop :=
  ∀ (s u : State) (t : Nat) (i : Initiator) (a k : Nat) (b : Blk) (n o : Nat), s.at t = u → u.reaches i a = true →
    placeOf a = .block b n o → 1 ≤ k → (inMWindow a = true → u.linkUp = true) →
    (k ≠ 4 ∨ inWord a k = false → ∃ src, ∀ d, exec (.registerWrite t i a k d) s = .next (u.protocol src 0))
    ∧ (inWord a k = false → ∃ src, exec (.registerReadClear t i a k) s = .next { u.protocol src 0 with lastRead := 0#32 }
        ∧ exec (.unalignedAccess t i a k true) s = .next (u.protocol src 0)
        ∧ exec (.unalignedAccess t i a k false) s = .next { u.protocol src 0 with lastRead := 0#32 })
    ∧ (inWord a k = true →
        u.regRead i a k = { u.regRead i (a / 4 * 4) 4 with lastRead := BitVec.ofNat 32 (narrow (u.regRead i (a / 4 * 4) 4).lastRead.toNat a k) }
        ∧ (inMWindow a = false → exec (.registerReadClear t i a k) s = .next (u.regRead i a k)))

/-- R11: unassigned offsets -/
def Obligations.UnassignedOffsets : Prop :=
  ∀ (s u : State) (t : Nat) (i : Initiator) (a : Nat) (b : Blk) (n o : Nat), s.at t = u → u.reaches i a = true →
    placeOf a = .block b n o → regAt a = none → u.addrOn a = true → a % 4 = 0 →
    (∀ w, u.regArrive i a w = u) ∧ (u.regRead i a 4).lastRead = 0#32
    ∧ (inMWindow a = false → (∀ d, exec (.registerWrite t i a 4 d) s = .next u)
        ∧ ∃ s', exec (.registerReadClear t i a 4) s = .next s' ∧ s'.lastRead = 0#32 ∧ s'.sump = u.sump)

/-- An access of a core outside the map ends with an access fault -/
def Obligations.AccessFaults : Prop :=
  (∀ (s : State) (t : Nat) (i : Initiator) (a : Nat), coreIni i = true → placeOf a = .hole ∨ (placeOf a = .ccSram ∧ i ≠ .cc) →
    (∀ k d, exec (.registerWrite t i a k d) s = .fault (.access a)) ∧ (∀ k, exec (.registerReadClear t i a k) s = .fault (.access a))
    ∧ exec (.loRead t i a) s = .fault (.access a) ∧ ∀ k w, exec (.unalignedAccess t i a k w) s = .fault (.access a))
  ∧ ∀ a, (0x40000 ≤ a ∧ a < 0x10000000) ∨ (0x100E00000 ≤ a ∧ a < 0x101000000) ∨ (0x101800000 ≤ a ∧ a < 0x102000000) ∨ 0x600000000 ≤ a →
    placeOf a = .hole

/-- R531: the sub-blocks of an actuator section -/
def Obligations.SectionAddresses : Prop :=
  ∀ (n : Fin 4) (o : Nat), o < 0x40000 →
    placeOf (0x101200000 + 0x100000 * n + 0x0 + o) = .block .chan n o ∧ placeOf (0x101200000 + 0x100000 * n + 0x40000 + o) = .block .atb n o
    ∧ placeOf (0x101200000 + 0x100000 * n + 0x80000 + o) = .block .loop n o ∧ placeOf (0x101200000 + 0x100000 * n + 0xC0000 + o) = .block .act n o

/-- R308: writes to a busy Map Cache -/
def Obligations.MapCacheBusyWrites : Prop :=
  ∀ (s u : State) (t : Nat) (i : Initiator), s.at t = u →
    (u.takesWrite i R.MAPC_OP_CMD = true → u.bit R.MAPC_STATUS 2 = true ∨ u.bit R.MAPC_STATUS 1 = true →
      exec (.clean t i) s = .next (u.protocol 48 0) ∧ exec (.inval t i) s = .next (u.protocol 48 0)
      ∧ exec (.discard t i) s = .next (u.protocol 48 0) ∧ exec (.flushAll t i) s = .next (u.protocol 48 0)
      ∧ (∀ way, exec (.preload t i way) s = .next (u.protocol 48 0))
      ∧ ∀ d, exec (.registerWrite t i R.MAPC_OP_CMD 4 d) s = .next (u.protocol 48 0))
    ∧ (u.takesWrite i R.MAPC_LOCK = true → (∃ o, u.mapc.op = some o ∧ o.op = 5) →
      (∀ w, exec (.mapcLock t i w) s = .next (u.protocol 48 0)) ∧ ∀ d, exec (.registerWrite t i R.MAPC_LOCK 4 d) s = .next (u.protocol 48 0))

/-- R412: several definitions of one happening -/
def Obligations.TriggerOrder : Prop :=
  ∀ (u : State), u.flowOn = true → u.bit R.FLOW_STATUS 2 = false →
    (∀ src kind addr, u.flow.fifo.length + ((List.range 64).filter (u.flowTakes src kind)).length ≤ 16 →
      (u.flowFault src kind addr).flow.fifo = u.flow.fifo ++ ((List.range 64).filter (u.flowTakes src kind)).map (fun d =>
          ⟨d, 2, u.gtc, addr % 2 ^ 32, addr / 2 ^ 32 % 65536 + kind % 64 * 65536 + src % 1024 * 4194304⟩)
      ∧ ∀ d, d < 64 → u.flowTakes src kind d = true →
          (u.flowFault src kind addr).bit (R.FLOW_DEF_W0 d) 0 = !u.bit (R.FLOW_DEF_W0 d) 3)
    ∧ ∀ n, u.flow.fifo.length + ((List.range 64).filter (u.flowCounts n)).length ≤ 16 →
      (u.flowCounter n).flow.fifo = u.flow.fifo ++ ((List.range 64).filter (u.flowCounts n)).map (fun d => ⟨d, 3, u.gtc, n, 0⟩)
      ∧ ∀ d, d < 64 → u.flowCounts n d = true → (u.flowCounter n).bit (R.FLOW_DEF_W0 d) 0 = !u.bit (R.FLOW_DEF_W0 d) 3

/-- What a write of bytes by an engine stores -/
def Obligations.StoredBytes : Prop :=
  (∀ (s : State) (a x : Nat) (b : List Byte), 0x20000000 ≤ a → a + b.length ≤ 0x20400000 → s.domOn 5 = true →
    Memory.read unlistedByte (s.busWrite a b).sram x =
      (if a - 0x20000000 ≤ x ∧ x < a - 0x20000000 + b.length then b.getD (x - (a - 0x20000000)) 0#8 else Memory.read unlistedByte s.sram x)
    ∧ (s.busWrite a b).dram = s.dram ∧ (s.busWrite a b).store = s.store ∧ (s.busWrite a b).ccSram = s.ccSram)
  ∧ (∀ (s : State) (o : Nat) (b : List Byte), o + b.length ≤ s.usable → s.domOn 7 = true →
    (∀ x, o ≤ x → x < o + b.length → Memory.read unlistedByte (s.busWrite (dramBase + o) b).dram x = b.getD (x - o) 0#8)
    ∧ (∀ w, 16 * w + 16 ≤ o ∨ o + b.length ≤ 16 * w →
        (s.busWrite (dramBase + o) b).dramWord w = s.dramWord w ∧ (s.busWrite (dramBase + o) b).dramSynOf w = s.dramSynOf w)
    ∧ (s.busWrite (dramBase + o) b).sram = s.sram ∧ (s.busWrite (dramBase + o) b).store = s.store ∧ (s.busWrite (dramBase + o) b).ccSram = s.ccSram)
  ∧ ∀ (s : State) (lo hi size prod len : Nat) (b : List Byte),
    (s.ringWrite lo hi size prod b len).sameMemory (s.busWrite (s.rd64 lo hi + len * s.rd prod) b)

/-- Where records are stored -/
def Obligations.RecordStores : Prop :=
  (∀ (s u : State) (t : Nat) (n : Fin 4) (r : OpRec) (rest : List OpRec), s.at t = u →
      u.domOn 7 = true →
      (u.msch n).recs = r :: rest →
      ringFull (u.rd (R.MSCH_CQ_PROD n)) (u.rd (R.MSCH_CQ_CONS n)) (u.rd (R.MSCH_CQ_SIZE n)) = false →
      ∃ s', exec (.opComplete t n) s = .next s' ∧
        s'.sameMemory (u.busWrite (u.rd64 (R.MSCH_CQ_BASE_LO n) (R.MSCH_CQ_BASE_HI n) + 32 * u.rd (R.MSCH_CQ_PROD n)) (wordsToBytes r.words)))
  ∧ (∀ (s u : State) (t : Nat) (c : Fin 4) (r : DispRec) (rest : List DispRec), s.at t = u →
      u.domOn 3 = true →
      ringFull (u.rd (R.QENG_DISP_PROD c)) (u.rd (R.QENG_DISP_CONS c)) (u.rd (R.QENG_DISP_SIZE c)) = false →
      firstRec (u.bit R.QENG_PS_CTRL 0) u.qeng.dispQ[c] = some (r, rest) →
      ∃ s', exec (.dispatchRecord t c) s = .next s' ∧
        s'.sameMemory (u.busWrite (u.rd64 (R.QENG_DISP_BASE_LO c) (R.QENG_DISP_BASE_HI c) + 16 * u.rd (R.QENG_DISP_PROD c)) (wordsToBytes [r.w0.toNat, r.w1.toNat, r.w2.toNat, r.w3.toNat])))
  ∧ (∀ (s u : State) (t : Nat) (c : Fin 4) (status : BitVec 4) (res : BitVec 32) (m : MirRun), s.at t = u →
      u.rope.mir[c] = some m →
      u.domOn 13 = true →
      m.status = none →
      ringFull (u.rd (R.ROPE_MC_PROD c)) (u.rd (R.ROPE_MC_CONS c)) (u.rd (R.ROPE_MC_SIZE c)) = false →
      ∃ s', exec (.mirrorComplete t c status res) s = .next s' ∧
        s'.sameMemory (u.busWrite (u.rd64 (R.ROPE_MC_BASE_LO c) (R.ROPE_MC_BASE_HI c) + 16 * u.rd (R.ROPE_MC_PROD c))
        (wordsToBytes [m.tag + 65536 * (status.toNat % 4), res.toNat, u.gtc % 2 ^ 32, u.gtc / 2 ^ 32])))

/-- A step runs the command at the front of the queue -/
def Obligations.StepRunsFrontCommand : Prop :=
  ∀ (s : State) (c : Instr) (rest : List Instr), s.pending = c :: rest → step s = exec c { s with pending := rest }

/-- An empty queue, and the time of a command -/
def Obligations.IdleStepAndTime : Prop :=
  (∀ s : State, s.pending = [] → step s = .next s)
  ∧ (∀ (s : State) (t : Nat), (s.at t).gtc = if s.gtcRun then max s.gtc t else s.gtc)
  ∧ (∀ (s : State) (t : Nat) (p : Part), p.same s (s.at t))
  ∧ ∀ (s : State) (t a : Nat), blkOf a ≠ some .flow → blkOf a ≠ some .pmu → (s.at t).reg a = s.reg a

/-- The part after power-on reset -/
def Obligations.ResetState : Prop :=
  State.reset.gtc = 0 ∧ State.reset.gtcRun = false ∧ State.reset.pending = [] ∧ State.reset.canon = true
  ∧ (∀ a, State.reset.reg a = resetOf a) ∧ ∀ d : Fin 20, State.reset.domOn d = decide (d = 0 ∨ d = 4 ∨ d = 14)

/-- Every step keeps the register file and the memories in canonical form -/
def Obligations.StepKeepsCanonicalForm : Prop :=
  ∀ s s' : State, s.canon = true → step s = .next s' → s'.canon = true

/-- No step takes back a fuse -/
def Obligations.NoStepClearsAFuse : Prop :=
  ∀ s s' : State, step s = .next s' → s.fuses.keptIn s'.fuses

/-- Which commands may change a memory -/
def Obligations.MemoryFrame : Prop :=
  ∀ (p : Part) (c : Instr) (s s' : State), p ∈ [Part.dram, .sram, .ccSram, .store] → p.setBy c = false → exec c s = .next s' → p.same s s'

/-- Which commands may change the state of a unit -/
def Obligations.UnitFrame : Prop :=
  ∀ (p : Part) (c : Instr) (s s' : State), p ∉ [Part.dram, .sram, .ccSram, .store] → p.setBy c = false → exec c s = .next s' → p.same s s'

/-- Commands whose registers lie in one block -/
def Obligations.RegisterFrame : Prop :=
  ∀ (c : Instr) (s s' : State) (a : Nat) (b : Blk), anyBlock c = false → (blocksOf c).length ≤ 2 → exec c s = .next s' →
    blkOf a = some b → b ≠ .flow → b ≠ .pmu → b ∉ blocksOf c → s'.reg a = s.reg a

/-- Commands whose registers lie in several blocks -/
def Obligations.RegisterFrameWide : Prop :=
  ∀ (c : Instr) (s s' : State) (a : Nat) (b : Blk), anyBlock c = false → (blocksOf c).length > 2 → exec c s = .next s' →
    blkOf a = some b → b ≠ .flow → b ≠ .pmu → b ∉ blocksOf c → s'.reg a = s.reg a
end

