-- ==== Sys2Proof/Laws/Sparse.lean ====
section
/-! SUPPORT. The canonical sparse maps: a read after a write, and that every update keeps the form. -/

namespace Sys2Proof.Machine

open Sys2Proof

variable {α : Type}

/-! ### Reading -/

theorem spGet_spIns_same (d : α) (a : Nat) (v : α) :
    ∀ l : List (Nat × α), (∀ p ∈ l, p.1 ≠ a) → spGet d (spIns a v l) a = v
  | [], _ => by simp [spIns, spGet]
  | (k, w) :: r, h => by
    have hk : k ≠ a := h (k, w) (by simp)
    unfold spIns
    split
    · simp [spGet]
    · simp only [spGet, if_neg hk]
      exact spGet_spIns_same d a v r (fun p hp => h p (by simp [hp]))

theorem spGet_spIns_ne (d : α) (a b : Nat) (v : α) (h : b ≠ a) :
    ∀ l : List (Nat × α), spGet d (spIns a v l) b = spGet d l b
  | [] => by simp [spIns, spGet, Ne.symm h]
  | (k, w) :: r => by
    unfold spIns
    split
    · simp [spGet, Ne.symm h]
    · simp only [spGet, spGet_spIns_ne d a b v h r]

theorem spDel_ne (a : Nat) : ∀ (l : List (Nat × α)), ∀ p ∈ spDel a l, p.1 ≠ a
  | [], p, hp => by simp [spDel] at hp
  | (k, w) :: r, p, hp => by
    unfold spDel at hp
    split at hp
    · exact spDel_ne a r p hp
    · rcases List.mem_cons.mp hp with rfl | hp
      · assumption
      · exact spDel_ne a r p hp

theorem spGet_spDel_same (d : α) (a : Nat) : ∀ l : List (Nat × α), spGet d (spDel a l) a = d
  | [] => rfl
  | (k, w) :: r => by
    unfold spDel
    split
    · exact spGet_spDel_same d a r
    · simp only [spGet]; rw [if_neg (by assumption)]; exact spGet_spDel_same d a r

theorem spGet_spDel_ne (d : α) (a b : Nat) (h : b ≠ a) : ∀ l : List (Nat × α), spGet d (spDel a l) b = spGet d l b
  | [] => rfl
  | (k, w) :: r => by
    unfold spDel
    split
    · rename_i hk; subst hk; simp only [spGet, if_neg (Ne.symm h)]; exact spGet_spDel_ne d k b h r
    · simp only [spGet, spGet_spDel_ne d a b h r]

/-- A read of the key just written gives the value written. -/
@[simp] theorem spGet_spPut_same [DecidableEq α] (d : α) (l : List (Nat × α)) (a : Nat) (v : α) :
    spGet d (spPut d l a v) a = v := by
  unfold spPut
  split
  · rename_i hv; rw [spGet_spDel_same, hv]
  · exact spGet_spIns_same d a v _ (spDel_ne a l)

/-- A write leaves every other key alone, whatever default the reader has for it. -/
theorem spGet_spPut_ne [DecidableEq α] (d e : α) (l : List (Nat × α)) (a b : Nat) (v : α) (h : b ≠ a) :
    spGet e (spPut d l a v) b = spGet e l b := by
  unfold spPut
  split
  · exact spGet_spDel_ne e a b h l
  · rw [spGet_spIns_ne e a b v h, spGet_spDel_ne e a b h]

/-! ### The canonical form -/

theorem spWfFrom_mono [DecidableEq α] (d : Nat → α) (lo lo' : Nat) (h : lo' ≤ lo) (l : List (Nat × α))
    (hl : spWfFrom d lo l = true) : spWfFrom d lo' l = true := by
  cases l with
  | nil => rfl
  | cons p r =>
    obtain ⟨k, v⟩ := p
    simp only [spWfFrom, Bool.and_eq_true, decide_eq_true_eq] at hl ⊢
    exact ⟨⟨by omega, hl.1.2⟩, hl.2⟩

/-- Dropping entries keeps the form. -/
theorem spWfFrom_filter [DecidableEq α] (d : Nat → α) (f : Nat × α → Bool) :
    ∀ (l : List (Nat × α)) (lo : Nat), spWfFrom d lo l = true → spWfFrom d lo (l.filter f) = true
  | [], _, _ => rfl
  | (k, v) :: r, lo, h => by
    simp only [spWfFrom, Bool.and_eq_true, decide_eq_true_eq] at h
    have ih := spWfFrom_filter d f r (k + 1) h.2
    rw [List.filter_cons]
    split
    · simp only [spWfFrom, Bool.and_eq_true, decide_eq_true_eq]; exact ⟨h.1, ih⟩
    · exact spWfFrom_mono d (k + 1) lo (by omega) _ ih

theorem spDel_eq_filter (a : Nat) : ∀ l : List (Nat × α), spDel a l = l.filter (fun p => decide (p.1 ≠ a))
  | [] => rfl
  | (k, w) :: r => by
    by_cases hk : k = a <;> simp [spDel, hk, spDel_eq_filter a r]

theorem spWfFrom_spDel [DecidableEq α] (d : Nat → α) (a lo : Nat) (l : List (Nat × α)) (h : spWfFrom d lo l = true) :
    spWfFrom d lo (spDel a l) = true := by
  rw [spDel_eq_filter]; exact spWfFrom_filter d _ l lo h

theorem spWfFrom_spIns [DecidableEq α] (d : Nat → α) (a : Nat) (v : α) (hv : v ≠ d a) :
    ∀ (l : List (Nat × α)) (lo : Nat), lo ≤ a → (∀ p ∈ l, p.1 ≠ a) → spWfFrom d lo l = true →
      spWfFrom d lo (spIns a v l) = true
  | [], lo, hlo, _, _ => by simp [spIns, spWfFrom, hlo, hv]
  | (k, w) :: r, lo, hlo, hne, h => by
    have hk : k ≠ a := hne (k, w) (by simp)
    simp only [spWfFrom, Bool.and_eq_true, decide_eq_true_eq] at h
    unfold spIns
    split
    · simp only [spWfFrom, Bool.and_eq_true, decide_eq_true_eq]
      exact ⟨⟨hlo, hv⟩, ⟨by omega, h.1.2⟩, h.2⟩
    · simp only [spWfFrom, Bool.and_eq_true, decide_eq_true_eq]
      exact ⟨h.1, spWfFrom_spIns d a v hv r (k + 1) (by omega) (fun p hp => hne p (by simp [hp])) h.2⟩

/-- A write keeps the form. -/
theorem spWf_spPut [DecidableEq α] (d : Nat → α) (l : List (Nat × α)) (a : Nat) (v : α) (h : spWf d l = true) :
    spWf d (spPut (d a) l a v) = true := by
  unfold spWf spPut
  split
  · exact spWfFrom_spDel d a 0 l h
  · rename_i hv
    exact spWfFrom_spIns d a v hv _ 0 (Nat.zero_le _) (spDel_ne a l) (spWfFrom_spDel d a 0 l h)

/-- Dropping entries keeps the form. -/
theorem spWf_filter [DecidableEq α] (d : Nat → α) (f : Nat × α → Bool) (l : List (Nat × α)) (h : spWf d l = true) :
    spWf d (l.filter f) = true := spWfFrom_filter d f l 0 h

@[simp] theorem spWf_nil [DecidableEq α] (d : Nat → α) : spWf d [] = true := rfl

end Sys2Proof.Machine
end

