-- ==== Sys2Proof/Laws/Memory.lean ====
section
/-! SUPPORT. The memories and the register file: a read after a write, the canonical form kept by every operation, and the form
at reset. -/

namespace Sys2Proof.Machine

open Sys2Proof

/-! ### One memory -/

@[simp] theorem Memory.read_write_same (d : Byte) (m : List Host.Cell) (a : Nat) (b : Byte) :
    Memory.read d (Memory.write d m a b) a = b := spGet_spPut_same d m a b

theorem Memory.read_write_ne (d : Byte) (m : List Host.Cell) (a a' : Nat) (b : Byte) (h : a' ≠ a) :
    Memory.read d (Memory.write d m a b) a' = Memory.read d m a' := spGet_spPut_ne d d m a a' b h

theorem Memory.wf_write (d : Byte) (m : List Host.Cell) (a : Nat) (b : Byte) (h : Memory.wf d m = true) :
    Memory.wf d (Memory.write d m a b) = true := spWf_spPut (fun _ => d) m a b h

theorem Memory.wf_writeBytes (d : Byte) : ∀ (bs : List Byte) (m : List Host.Cell) (a : Nat), Memory.wf d m = true →
    Memory.wf d (Memory.writeBytes d m a bs) = true
  | [], _, _, h => h
  | b :: r, m, a, h => Memory.wf_writeBytes d r _ _ (Memory.wf_write d m a b h)

theorem Memory.wf_filter (d : Byte) (m : List Host.Cell) (f : Host.Cell → Bool) (h : Memory.wf d m = true) :
    Memory.wf d (m.filter f) = true := spWf_filter (fun _ => d) f m h

/-- Outside the bytes written every byte reads as before. -/
theorem Memory.read_writeBytes_outside (d : Byte) : ∀ (bs : List Byte) (m : List Host.Cell) (a a' : Nat),
    (a' < a ∨ a + bs.length ≤ a') → Memory.read d (Memory.writeBytes d m a bs) a' = Memory.read d m a'
  | [], _, _, _, _ => rfl
  | b :: r, m, a, a', h => by
    simp only [List.length_cons] at h
    rw [Memory.writeBytes, Memory.read_writeBytes_outside d r _ _ _ (by omega), Memory.read_write_ne _ _ _ _ _ (by omega)]

/-- Inside the bytes written every byte reads as written. -/
theorem Memory.read_writeBytes_inside (d : Byte) : ∀ (bs : List Byte) (m : List Host.Cell) (a k : Nat) (b : Byte),
    bs[k]? = some b → Memory.read d (Memory.writeBytes d m a bs) (a + k) = b
  | [], _, _, _, _, h => by simp at h
  | c :: r, m, a, 0, b, h => by
    rw [Memory.writeBytes, Memory.read_writeBytes_outside d r _ _ _ (by omega)]
    simp at h; subst h; exact Memory.read_write_same d m a c
  | c :: r, m, a, k + 1, b, h => by
    rw [Memory.writeBytes, show a + (k + 1) = (a + 1) + k by omega]
    exact Memory.read_writeBytes_inside d r _ (a + 1) k b (by simpa using h)

/-! ### The register file -/

@[simp] theorem State.reg_setReg_same (s : State) (a v : Nat) : (s.setReg a v).reg a = BitVec.ofNat 32 v :=
  spGet_spPut_same _ _ _ _

theorem State.reg_setReg_ne (s : State) (a b v : Nat) (h : b ≠ a) : (s.setReg a v).reg b = s.reg b :=
  spGet_spPut_ne _ _ _ _ _ _ h

@[simp] theorem State.rd_setReg_same (s : State) (a v : Nat) : (s.setReg a v).rd a = v % 2 ^ 32 := by
  simp [State.rd]

theorem State.rd_setReg_ne (s : State) (a b v : Nat) (h : b ≠ a) : (s.setReg a v).rd b = s.rd b := by
  simp [State.rd, State.reg_setReg_ne s a b v h]

theorem State.reg_setFld_ne (s : State) (a b hi lo v : Nat) (h : b ≠ a) : (s.setFld a hi lo v).reg b = s.reg b :=
  State.reg_setReg_ne _ _ _ _ h

theorem State.reg_setBit_ne (s : State) (a b k : Nat) (v : Bool) (h : b ≠ a) : (s.setBit a k v).reg b = s.reg b :=
  State.reg_setReg_ne _ _ _ _ h

theorem State.reg_bump_ne (s : State) (a b : Nat) (h : b ≠ a) : (s.bump a).reg b = s.reg b :=
  State.reg_setReg_ne _ _ _ _ h

/-- A register of the range is back at its reset value; every other keeps its value. -/
theorem spGet_filter_key {α : Type} (d : α) (f : Nat → Bool) (a : Nat) : ∀ l : List (Nat × α),
    spGet d (l.filter (fun p => f p.1)) a = if f a = true then spGet d l a else d
  | [] => by simp [spGet]
  | (k, v) :: r => by
    have ih := spGet_filter_key d f a r
    by_cases hk : k = a
    · subst hk
      by_cases hf : f k = true <;> simp [hf, spGet] at ih ⊢
      exact ih
    · by_cases hf : f k = true <;> simp [hf, spGet, hk] at ih ⊢ <;> exact ih

theorem State.reg_resetRegs (s : State) (f : Nat → Bool) (a : Nat) :
    (s.resetRegs f).reg a = if f a = true then resetOf a else s.reg a := by
  unfold State.reg State.resetRegs
  rw [spGet_filter_key (resetOf a) (fun k => !f k) a s.regs]
  cases f a <;> simp

/-! ### The canonical form of the whole state -/

/-- The six facts that `State.canon` joins. -/
theorem State.canon_iff (s : State) : s.canon = true ↔
    spWf resetOf s.regs = true ∧ Memory.wf unlistedByte s.dram = true ∧ spWf (fun _ => unwrittenSyn) s.dramSyn = true
      ∧ Memory.wf unlistedByte s.sram = true ∧ Memory.wf unlistedByte s.ccSram = true ∧ Memory.wf erasedByte s.store = true := by
  simp only [State.canon, Bool.and_eq_true, and_assoc]

/-- Writing a register keeps the form. -/
theorem State.canon_setReg (s : State) (a v : Nat) (h : s.canon = true) : (s.setReg a v).canon = true := by
  rw [State.canon_iff] at h ⊢
  exact ⟨spWf_spPut resetOf s.regs a _ h.1, h.2⟩

theorem State.canon_setFld (s : State) (a hi lo v : Nat) (h : s.canon = true) : (s.setFld a hi lo v).canon = true :=
  State.canon_setReg _ _ _ h

theorem State.canon_setBit (s : State) (a k : Nat) (b : Bool) (h : s.canon = true) : (s.setBit a k b).canon = true :=
  State.canon_setReg _ _ _ h

theorem State.canon_bumpBy (s : State) (a k : Nat) (h : s.canon = true) : (s.bumpBy a k).canon = true :=
  State.canon_setReg _ _ _ h

theorem State.canon_bump (s : State) (a : Nat) (h : s.canon = true) : (s.bump a).canon = true :=
  State.canon_setReg _ _ _ h

theorem State.canon_setReg64 (s : State) (lo hi v : Nat) (h : s.canon = true) : (s.setReg64 lo hi v).canon = true :=
  State.canon_setReg _ _ _ (State.canon_setReg _ _ _ h)

theorem State.canon_resetRange (s : State) (lo hi : Nat) (h : s.canon = true) : (s.resetRange lo hi).canon = true := by
  rw [State.canon_iff] at h ⊢
  exact ⟨spWf_filter resetOf _ s.regs h.1, h.2⟩

theorem State.canon_resetRegs (s : State) (f : Nat → Bool) (h : s.canon = true) : (s.resetRegs f).canon = true := by
  rw [State.canon_iff] at h ⊢
  exact ⟨spWf_filter resetOf _ s.regs h.1, h.2⟩

/-- Storing a word of the DRAM keeps the form. -/
theorem State.canon_storeWord (s : State) (w d sy : Nat) (h : s.canon = true) : (s.storeWord w d sy).canon = true := by
  rw [State.canon_iff] at h ⊢
  exact ⟨h.1, Memory.wf_writeBytes _ _ _ _ h.2.1, spWf_spPut (fun _ => unwrittenSyn) s.dramSyn w _ h.2.2.1, h.2.2.2⟩

/-- Writing bytes for an engine keeps the form when its writes into DRAM words do. -/
theorem State.canon_sram (s : State) (a : Nat) (b : List Byte) (h : s.canon = true) :
    State.canon { s with sram := Memory.writeBytes unlistedByte s.sram a b } = true := by
  rw [State.canon_iff] at h ⊢
  exact ⟨h.1, h.2.1, h.2.2.1, Memory.wf_writeBytes _ _ _ _ h.2.2.2.1, h.2.2.2.2⟩

/-- After reset the register file and every memory list nothing, which is the form. -/
@[simp] theorem State.canon_reset : State.reset.canon = true := rfl

/-- The form depends on the register file and the memories alone. -/
theorem State.canon_congr (s s' : State) (hr : s'.regs = s.regs) (hd : s'.dram = s.dram) (hy : s'.dramSyn = s.dramSyn)
    (hs : s'.sram = s.sram) (hc : s'.ccSram = s.ccSram) (ht : s'.store = s.store) : s'.canon = s.canon := by
  simp only [State.canon, hr, hd, hy, hs, hc, ht]

end Sys2Proof.Machine
end

