-- ==== Sys2Proof/Laws/Bits.lean ====
section
/-! SUPPORT. Fields of words held as numbers: reading the field just written, reading another field, bytes and numbers. -/

namespace Sys2Proof.Machine

open Sys2Proof

/-- A number as the parts that a field [hi:lo] of it cuts. -/
theorem putBits_eq (x lo w v : Nat) :
    x - x / 2 ^ lo % 2 ^ w * 2 ^ lo + v % 2 ^ w * 2 ^ lo
      = 2 ^ lo * (2 ^ w * (x / 2 ^ lo / 2 ^ w) + v % 2 ^ w) + x % 2 ^ lo := by
  have h1 := Nat.div_add_mod x (2 ^ lo)
  have h2 := Nat.div_add_mod (x / 2 ^ lo) (2 ^ w)
  generalize x / 2 ^ lo = q at h1 h2 ⊢
  generalize x % 2 ^ lo = r at h1 ⊢
  generalize q / 2 ^ w = p at h2 ⊢
  generalize q % 2 ^ w = m at h2 ⊢
  generalize v % 2 ^ w = y
  generalize 2 ^ w = B at h2 ⊢
  generalize 2 ^ lo = A at h1 ⊢
  subst h1 h2
  rw [Nat.mul_add, Nat.mul_add, Nat.mul_comm m A, Nat.mul_comm y A]
  omega

/-- The field just written reads as written, cut to its width. -/
theorem bitsOf_putBits (x hi lo v : Nat) : bitsOf (putBits x hi lo v) hi lo = v % 2 ^ (hi + 1 - lo) := by
  unfold bitsOf putBits bitsOf
  rw [putBits_eq, Nat.mul_add_div (Nat.two_pow_pos lo), Nat.div_eq_of_lt (Nat.mod_lt _ (Nat.two_pow_pos lo)), Nat.add_zero,
    Nat.mul_add_mod, Nat.mod_mod]

/-- Writing a field inside a 32-bit word leaves a 32-bit word. -/
theorem putBits_lt (x hi lo v : Nat) (h : lo ≤ hi) (hh : hi < 32) (hx : x < 2 ^ 32) : putBits x hi lo v < 2 ^ 32 := by
  unfold putBits bitsOf
  rw [putBits_eq]
  have hC : (2 : Nat) ^ 32 = 2 ^ lo * (2 ^ (hi + 1 - lo) * 2 ^ (31 - hi)) := by
    rw [← Nat.pow_add, ← Nat.pow_add]; congr 1; omega
  have hq : x / 2 ^ lo / 2 ^ (hi + 1 - lo) < 2 ^ (31 - hi) := by
    rw [Nat.div_div_eq_div_mul, Nat.div_lt_iff_lt_mul (Nat.mul_pos (Nat.two_pow_pos _) (Nat.two_pow_pos _))]
    rw [hC] at hx
    calc x < 2 ^ lo * (2 ^ (hi + 1 - lo) * 2 ^ (31 - hi)) := hx
      _ = 2 ^ (31 - hi) * (2 ^ lo * 2 ^ (hi + 1 - lo)) := by rw [← Nat.mul_assoc, Nat.mul_comm]
  have hv := Nat.mod_lt v (Nat.two_pow_pos (hi + 1 - lo))
  have hr := Nat.mod_lt x (Nat.two_pow_pos lo)
  rw [hC]
  generalize x / 2 ^ lo / 2 ^ (hi + 1 - lo) = q at hq ⊢
  generalize v % 2 ^ (hi + 1 - lo) = y at hv ⊢
  generalize x % 2 ^ lo = r at hr ⊢
  generalize 2 ^ (hi + 1 - lo) = B at hv ⊢
  generalize 2 ^ (31 - hi) = C at hq ⊢
  generalize 2 ^ lo = A at hr ⊢
  have h1 : B * q + y + 1 ≤ B * C := by
    have := Nat.mul_le_mul_left B (show q + 1 ≤ C from hq)
    rw [Nat.mul_add, Nat.mul_one] at this
    omega
  have h2 := Nat.mul_le_mul_left A h1
  rw [Nat.mul_add, Nat.mul_one] at h2
  omega

/-- The field just written in a register reads as written, cut to its width. -/
theorem State.fld_setFld_same (s : State) (a hi lo v : Nat) (h : lo ≤ hi) (hh : hi < 32) :
    (s.setFld a hi lo v).fld a hi lo = v % 2 ^ (hi + 1 - lo) := by
  unfold State.fld State.setFld
  rw [State.rd_setReg_same, Nat.mod_eq_of_lt (putBits_lt (s.rd a) _ _ _ h hh (s.reg a).isLt), bitsOf_putBits]

/-- The bit just written in a register reads as written. -/
theorem State.bit_setBit_same (s : State) (a k : Nat) (b : Bool) (hk : k < 32) : (s.setBit a k b).bit a k = b := by
  have h := State.fld_setFld_same s a k k (b2n b) (Nat.le_refl k) hk
  unfold State.fld bitsOf at h
  unfold State.bit State.setBit bitOf
  have e : k + 1 - k = 1 := by omega
  rw [e] at h
  rw [Nat.pow_one] at h
  rw [h]
  cases b <;> rfl

/-- A field or bit of another register is unchanged. -/
theorem State.fld_setFld_ne (s : State) (a b hi lo hi' lo' v : Nat) (h : b ≠ a) :
    (s.setFld a hi lo v).fld b hi' lo' = s.fld b hi' lo' := by
  simp only [State.fld, State.rd, State.reg_setFld_ne s a b hi lo v h]

theorem State.bit_setReg_ne (s : State) (a b v k : Nat) (h : b ≠ a) : (s.setReg a v).bit b k = s.bit b k := by
  simp only [State.bit, State.rd, State.reg_setReg_ne s a b v h]

/-! ### Bytes and numbers -/

@[simp] theorem toBytes_length (k x : Nat) : (toBytes k x).length = k := by simp [toBytes]

theorem ofBytes_lt : ∀ l : List Byte, ofBytes l < 256 ^ l.length
  | [] => by simp [ofBytes]
  | b :: r => by
    have := ofBytes_lt r
    have hb : b.toNat < 256 := b.isLt
    simp only [ofBytes, List.length_cons, Nat.pow_succ]
    omega

theorem Memory.length_readBytes (d : Byte) (m : List Host.Cell) (a n : Nat) : (Memory.readBytes d m a n).length = n := by
  simp [Memory.readBytes]

end Sys2Proof.Machine
end

