-- ==== Sys2Proof/Laws/State.lean ====
section
/-! SUPPORT. What each plain update of State leaves in each field. Every lemma holds by unfolding: later proofs cite them through
simp and unfold no record update. -/

namespace Sys2Proof.Machine

/-! ### setReg -/

section
variable (s : State) (a v : Nat)

@[simp] theorem State.setReg_pending : (s.setReg a v).pending = s.pending := rfl
@[simp] theorem State.setReg_gtc : (s.setReg a v).gtc = s.gtc := rfl
@[simp] theorem State.setReg_gtcRun : (s.setReg a v).gtcRun = s.gtcRun := rfl
@[simp] theorem State.setReg_free : (s.setReg a v).free = s.free := rfl
@[simp] theorem State.setReg_hiLatch : (s.setReg a v).hiLatch = s.hiLatch := rfl
@[simp] theorem State.setReg_lastRead : (s.setReg a v).lastRead = s.lastRead := rfl
@[simp] theorem State.setReg_irqs : (s.setReg a v).irqs = s.irqs := rfl
@[simp] theorem State.setReg_toHost : (s.setReg a v).toHost = s.toHost := rfl
@[simp] theorem State.setReg_dram : (s.setReg a v).dram = s.dram := rfl
@[simp] theorem State.setReg_dramSyn : (s.setReg a v).dramSyn = s.dramSyn := rfl
@[simp] theorem State.setReg_sram : (s.setReg a v).sram = s.sram := rfl
@[simp] theorem State.setReg_ccSram : (s.setReg a v).ccSram = s.ccSram := rfl
@[simp] theorem State.setReg_store : (s.setReg a v).store = s.store := rfl
@[simp] theorem State.setReg_pass : (s.setReg a v).pass = s.pass := rfl
@[simp] theorem State.setReg_sump : (s.setReg a v).sump = s.sump := rfl
@[simp] theorem State.setReg_maon : (s.setReg a v).maon = s.maon := rfl
@[simp] theorem State.setReg_buf : (s.setReg a v).buf = s.buf := rfl
@[simp] theorem State.setReg_pwr : (s.setReg a v).pwr = s.pwr := rfl
@[simp] theorem State.setReg_leM : (s.setReg a v).leM = s.leM := rfl
@[simp] theorem State.setReg_leSh : (s.setReg a v).leSh = s.leSh := rfl
@[simp] theorem State.setReg_spin : (s.setReg a v).spin = s.spin := rfl
@[simp] theorem State.setReg_flow : (s.setReg a v).flow = s.flow := rfl
@[simp] theorem State.setReg_mtr : (s.setReg a v).mtr = s.mtr := rfl
@[simp] theorem State.setReg_qeng : (s.setReg a v).qeng = s.qeng := rfl
@[simp] theorem State.setReg_mapc : (s.setReg a v).mapc = s.mapc := rfl
@[simp] theorem State.setReg_lastData : (s.setReg a v).lastData = s.lastData := rfl
@[simp] theorem State.setReg_sqz : (s.setReg a v).sqz = s.sqz := rfl
@[simp] theorem State.setReg_aes : (s.setReg a v).aes = s.aes := rfl
@[simp] theorem State.setReg_cryp : (s.setReg a v).cryp = s.cryp := rfl
@[simp] theorem State.setReg_fuses : (s.setReg a v).fuses = s.fuses := rfl
@[simp] theorem State.setReg_mbox : (s.setReg a v).mbox = s.mbox := rfl
@[simp] theorem State.setReg_rope : (s.setReg a v).rope = s.rope := rfl
@[simp] theorem State.setReg_toPeer : (s.setReg a v).toPeer = s.toPeer := rfl
@[simp] theorem State.setReg_mgmt : (s.setReg a v).mgmt = s.mgmt := rfl
@[simp] theorem State.setReg_secs : (s.setReg a v).secs = s.secs := rfl

end

/-! ### setFld -/

section
variable (s : State) (a hi lo v : Nat)

@[simp] theorem State.setFld_pending : (s.setFld a hi lo v).pending = s.pending := rfl
@[simp] theorem State.setFld_gtc : (s.setFld a hi lo v).gtc = s.gtc := rfl
@[simp] theorem State.setFld_gtcRun : (s.setFld a hi lo v).gtcRun = s.gtcRun := rfl
@[simp] theorem State.setFld_free : (s.setFld a hi lo v).free = s.free := rfl
@[simp] theorem State.setFld_hiLatch : (s.setFld a hi lo v).hiLatch = s.hiLatch := rfl
@[simp] theorem State.setFld_lastRead : (s.setFld a hi lo v).lastRead = s.lastRead := rfl
@[simp] theorem State.setFld_irqs : (s.setFld a hi lo v).irqs = s.irqs := rfl
@[simp] theorem State.setFld_toHost : (s.setFld a hi lo v).toHost = s.toHost := rfl
@[simp] theorem State.setFld_dram : (s.setFld a hi lo v).dram = s.dram := rfl
@[simp] theorem State.setFld_dramSyn : (s.setFld a hi lo v).dramSyn = s.dramSyn := rfl
@[simp] theorem State.setFld_sram : (s.setFld a hi lo v).sram = s.sram := rfl
@[simp] theorem State.setFld_ccSram : (s.setFld a hi lo v).ccSram = s.ccSram := rfl
@[simp] theorem State.setFld_store : (s.setFld a hi lo v).store = s.store := rfl
@[simp] theorem State.setFld_pass : (s.setFld a hi lo v).pass = s.pass := rfl
@[simp] theorem State.setFld_sump : (s.setFld a hi lo v).sump = s.sump := rfl
@[simp] theorem State.setFld_maon : (s.setFld a hi lo v).maon = s.maon := rfl
@[simp] theorem State.setFld_buf : (s.setFld a hi lo v).buf = s.buf := rfl
@[simp] theorem State.setFld_pwr : (s.setFld a hi lo v).pwr = s.pwr := rfl
@[simp] theorem State.setFld_leM : (s.setFld a hi lo v).leM = s.leM := rfl
@[simp] theorem State.setFld_leSh : (s.setFld a hi lo v).leSh = s.leSh := rfl
@[simp] theorem State.setFld_spin : (s.setFld a hi lo v).spin = s.spin := rfl
@[simp] theorem State.setFld_flow : (s.setFld a hi lo v).flow = s.flow := rfl
@[simp] theorem State.setFld_mtr : (s.setFld a hi lo v).mtr = s.mtr := rfl
@[simp] theorem State.setFld_qeng : (s.setFld a hi lo v).qeng = s.qeng := rfl
@[simp] theorem State.setFld_mapc : (s.setFld a hi lo v).mapc = s.mapc := rfl
@[simp] theorem State.setFld_lastData : (s.setFld a hi lo v).lastData = s.lastData := rfl
@[simp] theorem State.setFld_sqz : (s.setFld a hi lo v).sqz = s.sqz := rfl
@[simp] theorem State.setFld_aes : (s.setFld a hi lo v).aes = s.aes := rfl
@[simp] theorem State.setFld_cryp : (s.setFld a hi lo v).cryp = s.cryp := rfl
@[simp] theorem State.setFld_fuses : (s.setFld a hi lo v).fuses = s.fuses := rfl
@[simp] theorem State.setFld_mbox : (s.setFld a hi lo v).mbox = s.mbox := rfl
@[simp] theorem State.setFld_rope : (s.setFld a hi lo v).rope = s.rope := rfl
@[simp] theorem State.setFld_toPeer : (s.setFld a hi lo v).toPeer = s.toPeer := rfl
@[simp] theorem State.setFld_mgmt : (s.setFld a hi lo v).mgmt = s.mgmt := rfl
@[simp] theorem State.setFld_secs : (s.setFld a hi lo v).secs = s.secs := rfl

end

/-! ### setBit -/

section
variable (s : State) (a k : Nat) (b : Bool)

@[simp] theorem State.setBit_pending : (s.setBit a k b).pending = s.pending := rfl
@[simp] theorem State.setBit_gtc : (s.setBit a k b).gtc = s.gtc := rfl
@[simp] theorem State.setBit_gtcRun : (s.setBit a k b).gtcRun = s.gtcRun := rfl
@[simp] theorem State.setBit_free : (s.setBit a k b).free = s.free := rfl
@[simp] theorem State.setBit_hiLatch : (s.setBit a k b).hiLatch = s.hiLatch := rfl
@[simp] theorem State.setBit_lastRead : (s.setBit a k b).lastRead = s.lastRead := rfl
@[simp] theorem State.setBit_irqs : (s.setBit a k b).irqs = s.irqs := rfl
@[simp] theorem State.setBit_toHost : (s.setBit a k b).toHost = s.toHost := rfl
@[simp] theorem State.setBit_dram : (s.setBit a k b).dram = s.dram := rfl
@[simp] theorem State.setBit_dramSyn : (s.setBit a k b).dramSyn = s.dramSyn := rfl
@[simp] theorem State.setBit_sram : (s.setBit a k b).sram = s.sram := rfl
@[simp] theorem State.setBit_ccSram : (s.setBit a k b).ccSram = s.ccSram := rfl
@[simp] theorem State.setBit_store : (s.setBit a k b).store = s.store := rfl
@[simp] theorem State.setBit_pass : (s.setBit a k b).pass = s.pass := rfl
@[simp] theorem State.setBit_sump : (s.setBit a k b).sump = s.sump := rfl
@[simp] theorem State.setBit_maon : (s.setBit a k b).maon = s.maon := rfl
@[simp] theorem State.setBit_buf : (s.setBit a k b).buf = s.buf := rfl
@[simp] theorem State.setBit_pwr : (s.setBit a k b).pwr = s.pwr := rfl
@[simp] theorem State.setBit_leM : (s.setBit a k b).leM = s.leM := rfl
@[simp] theorem State.setBit_leSh : (s.setBit a k b).leSh = s.leSh := rfl
@[simp] theorem State.setBit_spin : (s.setBit a k b).spin = s.spin := rfl
@[simp] theorem State.setBit_flow : (s.setBit a k b).flow = s.flow := rfl
@[simp] theorem State.setBit_mtr : (s.setBit a k b).mtr = s.mtr := rfl
@[simp] theorem State.setBit_qeng : (s.setBit a k b).qeng = s.qeng := rfl
@[simp] theorem State.setBit_mapc : (s.setBit a k b).mapc = s.mapc := rfl
@[simp] theorem State.setBit_lastData : (s.setBit a k b).lastData = s.lastData := rfl
@[simp] theorem State.setBit_sqz : (s.setBit a k b).sqz = s.sqz := rfl
@[simp] theorem State.setBit_aes : (s.setBit a k b).aes = s.aes := rfl
@[simp] theorem State.setBit_cryp : (s.setBit a k b).cryp = s.cryp := rfl
@[simp] theorem State.setBit_fuses : (s.setBit a k b).fuses = s.fuses := rfl
@[simp] theorem State.setBit_mbox : (s.setBit a k b).mbox = s.mbox := rfl
@[simp] theorem State.setBit_rope : (s.setBit a k b).rope = s.rope := rfl
@[simp] theorem State.setBit_toPeer : (s.setBit a k b).toPeer = s.toPeer := rfl
@[simp] theorem State.setBit_mgmt : (s.setBit a k b).mgmt = s.mgmt := rfl
@[simp] theorem State.setBit_secs : (s.setBit a k b).secs = s.secs := rfl

end

/-! ### bumpBy -/

section
variable (s : State) (a k : Nat)

@[simp] theorem State.bumpBy_pending : (s.bumpBy a k).pending = s.pending := rfl
@[simp] theorem State.bumpBy_gtc : (s.bumpBy a k).gtc = s.gtc := rfl
@[simp] theorem State.bumpBy_gtcRun : (s.bumpBy a k).gtcRun = s.gtcRun := rfl
@[simp] theorem State.bumpBy_free : (s.bumpBy a k).free = s.free := rfl
@[simp] theorem State.bumpBy_hiLatch : (s.bumpBy a k).hiLatch = s.hiLatch := rfl
@[simp] theorem State.bumpBy_lastRead : (s.bumpBy a k).lastRead = s.lastRead := rfl
@[simp] theorem State.bumpBy_irqs : (s.bumpBy a k).irqs = s.irqs := rfl
@[simp] theorem State.bumpBy_toHost : (s.bumpBy a k).toHost = s.toHost := rfl
@[simp] theorem State.bumpBy_dram : (s.bumpBy a k).dram = s.dram := rfl
@[simp] theorem State.bumpBy_dramSyn : (s.bumpBy a k).dramSyn = s.dramSyn := rfl
@[simp] theorem State.bumpBy_sram : (s.bumpBy a k).sram = s.sram := rfl
@[simp] theorem State.bumpBy_ccSram : (s.bumpBy a k).ccSram = s.ccSram := rfl
@[simp] theorem State.bumpBy_store : (s.bumpBy a k).store = s.store := rfl
@[simp] theorem State.bumpBy_pass : (s.bumpBy a k).pass = s.pass := rfl
@[simp] theorem State.bumpBy_sump : (s.bumpBy a k).sump = s.sump := rfl
@[simp] theorem State.bumpBy_maon : (s.bumpBy a k).maon = s.maon := rfl
@[simp] theorem State.bumpBy_buf : (s.bumpBy a k).buf = s.buf := rfl
@[simp] theorem State.bumpBy_pwr : (s.bumpBy a k).pwr = s.pwr := rfl
@[simp] theorem State.bumpBy_leM : (s.bumpBy a k).leM = s.leM := rfl
@[simp] theorem State.bumpBy_leSh : (s.bumpBy a k).leSh = s.leSh := rfl
@[simp] theorem State.bumpBy_spin : (s.bumpBy a k).spin = s.spin := rfl
@[simp] theorem State.bumpBy_flow : (s.bumpBy a k).flow = s.flow := rfl
@[simp] theorem State.bumpBy_mtr : (s.bumpBy a k).mtr = s.mtr := rfl
@[simp] theorem State.bumpBy_qeng : (s.bumpBy a k).qeng = s.qeng := rfl
@[simp] theorem State.bumpBy_mapc : (s.bumpBy a k).mapc = s.mapc := rfl
@[simp] theorem State.bumpBy_lastData : (s.bumpBy a k).lastData = s.lastData := rfl
@[simp] theorem State.bumpBy_sqz : (s.bumpBy a k).sqz = s.sqz := rfl
@[simp] theorem State.bumpBy_aes : (s.bumpBy a k).aes = s.aes := rfl
@[simp] theorem State.bumpBy_cryp : (s.bumpBy a k).cryp = s.cryp := rfl
@[simp] theorem State.bumpBy_fuses : (s.bumpBy a k).fuses = s.fuses := rfl
@[simp] theorem State.bumpBy_mbox : (s.bumpBy a k).mbox = s.mbox := rfl
@[simp] theorem State.bumpBy_rope : (s.bumpBy a k).rope = s.rope := rfl
@[simp] theorem State.bumpBy_toPeer : (s.bumpBy a k).toPeer = s.toPeer := rfl
@[simp] theorem State.bumpBy_mgmt : (s.bumpBy a k).mgmt = s.mgmt := rfl
@[simp] theorem State.bumpBy_secs : (s.bumpBy a k).secs = s.secs := rfl

end

/-! ### bump -/

section
variable (s : State) (a : Nat)

@[simp] theorem State.bump_pending : (s.bump a).pending = s.pending := rfl
@[simp] theorem State.bump_gtc : (s.bump a).gtc = s.gtc := rfl
@[simp] theorem State.bump_gtcRun : (s.bump a).gtcRun = s.gtcRun := rfl
@[simp] theorem State.bump_free : (s.bump a).free = s.free := rfl
@[simp] theorem State.bump_hiLatch : (s.bump a).hiLatch = s.hiLatch := rfl
@[simp] theorem State.bump_lastRead : (s.bump a).lastRead = s.lastRead := rfl
@[simp] theorem State.bump_irqs : (s.bump a).irqs = s.irqs := rfl
@[simp] theorem State.bump_toHost : (s.bump a).toHost = s.toHost := rfl
@[simp] theorem State.bump_dram : (s.bump a).dram = s.dram := rfl
@[simp] theorem State.bump_dramSyn : (s.bump a).dramSyn = s.dramSyn := rfl
@[simp] theorem State.bump_sram : (s.bump a).sram = s.sram := rfl
@[simp] theorem State.bump_ccSram : (s.bump a).ccSram = s.ccSram := rfl
@[simp] theorem State.bump_store : (s.bump a).store = s.store := rfl
@[simp] theorem State.bump_pass : (s.bump a).pass = s.pass := rfl
@[simp] theorem State.bump_sump : (s.bump a).sump = s.sump := rfl
@[simp] theorem State.bump_maon : (s.bump a).maon = s.maon := rfl
@[simp] theorem State.bump_buf : (s.bump a).buf = s.buf := rfl
@[simp] theorem State.bump_pwr : (s.bump a).pwr = s.pwr := rfl
@[simp] theorem State.bump_leM : (s.bump a).leM = s.leM := rfl
@[simp] theorem State.bump_leSh : (s.bump a).leSh = s.leSh := rfl
@[simp] theorem State.bump_spin : (s.bump a).spin = s.spin := rfl
@[simp] theorem State.bump_flow : (s.bump a).flow = s.flow := rfl
@[simp] theorem State.bump_mtr : (s.bump a).mtr = s.mtr := rfl
@[simp] theorem State.bump_qeng : (s.bump a).qeng = s.qeng := rfl
@[simp] theorem State.bump_mapc : (s.bump a).mapc = s.mapc := rfl
@[simp] theorem State.bump_lastData : (s.bump a).lastData = s.lastData := rfl
@[simp] theorem State.bump_sqz : (s.bump a).sqz = s.sqz := rfl
@[simp] theorem State.bump_aes : (s.bump a).aes = s.aes := rfl
@[simp] theorem State.bump_cryp : (s.bump a).cryp = s.cryp := rfl
@[simp] theorem State.bump_fuses : (s.bump a).fuses = s.fuses := rfl
@[simp] theorem State.bump_mbox : (s.bump a).mbox = s.mbox := rfl
@[simp] theorem State.bump_rope : (s.bump a).rope = s.rope := rfl
@[simp] theorem State.bump_toPeer : (s.bump a).toPeer = s.toPeer := rfl
@[simp] theorem State.bump_mgmt : (s.bump a).mgmt = s.mgmt := rfl
@[simp] theorem State.bump_secs : (s.bump a).secs = s.secs := rfl

end

/-! ### setReg64 -/

section
variable (s : State) (lo hi v : Nat)

@[simp] theorem State.setReg64_pending : (s.setReg64 lo hi v).pending = s.pending := rfl
@[simp] theorem State.setReg64_gtc : (s.setReg64 lo hi v).gtc = s.gtc := rfl
@[simp] theorem State.setReg64_gtcRun : (s.setReg64 lo hi v).gtcRun = s.gtcRun := rfl
@[simp] theorem State.setReg64_free : (s.setReg64 lo hi v).free = s.free := rfl
@[simp] theorem State.setReg64_hiLatch : (s.setReg64 lo hi v).hiLatch = s.hiLatch := rfl
@[simp] theorem State.setReg64_lastRead : (s.setReg64 lo hi v).lastRead = s.lastRead := rfl
@[simp] theorem State.setReg64_irqs : (s.setReg64 lo hi v).irqs = s.irqs := rfl
@[simp] theorem State.setReg64_toHost : (s.setReg64 lo hi v).toHost = s.toHost := rfl
@[simp] theorem State.setReg64_dram : (s.setReg64 lo hi v).dram = s.dram := rfl
@[simp] theorem State.setReg64_dramSyn : (s.setReg64 lo hi v).dramSyn = s.dramSyn := rfl
@[simp] theorem State.setReg64_sram : (s.setReg64 lo hi v).sram = s.sram := rfl
@[simp] theorem State.setReg64_ccSram : (s.setReg64 lo hi v).ccSram = s.ccSram := rfl
@[simp] theorem State.setReg64_store : (s.setReg64 lo hi v).store = s.store := rfl
@[simp] theorem State.setReg64_pass : (s.setReg64 lo hi v).pass = s.pass := rfl
@[simp] theorem State.setReg64_sump : (s.setReg64 lo hi v).sump = s.sump := rfl
@[simp] theorem State.setReg64_maon : (s.setReg64 lo hi v).maon = s.maon := rfl
@[simp] theorem State.setReg64_buf : (s.setReg64 lo hi v).buf = s.buf := rfl
@[simp] theorem State.setReg64_pwr : (s.setReg64 lo hi v).pwr = s.pwr := rfl
@[simp] theorem State.setReg64_leM : (s.setReg64 lo hi v).leM = s.leM := rfl
@[simp] theorem State.setReg64_leSh : (s.setReg64 lo hi v).leSh = s.leSh := rfl
@[simp] theorem State.setReg64_spin : (s.setReg64 lo hi v).spin = s.spin := rfl
@[simp] theorem State.setReg64_flow : (s.setReg64 lo hi v).flow = s.flow := rfl
@[simp] theorem State.setReg64_mtr : (s.setReg64 lo hi v).mtr = s.mtr := rfl
@[simp] theorem State.setReg64_qeng : (s.setReg64 lo hi v).qeng = s.qeng := rfl
@[simp] theorem State.setReg64_mapc : (s.setReg64 lo hi v).mapc = s.mapc := rfl
@[simp] theorem State.setReg64_lastData : (s.setReg64 lo hi v).lastData = s.lastData := rfl
@[simp] theorem State.setReg64_sqz : (s.setReg64 lo hi v).sqz = s.sqz := rfl
@[simp] theorem State.setReg64_aes : (s.setReg64 lo hi v).aes = s.aes := rfl
@[simp] theorem State.setReg64_cryp : (s.setReg64 lo hi v).cryp = s.cryp := rfl
@[simp] theorem State.setReg64_fuses : (s.setReg64 lo hi v).fuses = s.fuses := rfl
@[simp] theorem State.setReg64_mbox : (s.setReg64 lo hi v).mbox = s.mbox := rfl
@[simp] theorem State.setReg64_rope : (s.setReg64 lo hi v).rope = s.rope := rfl
@[simp] theorem State.setReg64_toPeer : (s.setReg64 lo hi v).toPeer = s.toPeer := rfl
@[simp] theorem State.setReg64_mgmt : (s.setReg64 lo hi v).mgmt = s.mgmt := rfl
@[simp] theorem State.setReg64_secs : (s.setReg64 lo hi v).secs = s.secs := rfl

end

/-! ### resetRange -/

section
variable (s : State) (lo hi : Nat)

@[simp] theorem State.resetRange_pending : (s.resetRange lo hi).pending = s.pending := rfl
@[simp] theorem State.resetRange_gtc : (s.resetRange lo hi).gtc = s.gtc := rfl
@[simp] theorem State.resetRange_gtcRun : (s.resetRange lo hi).gtcRun = s.gtcRun := rfl
@[simp] theorem State.resetRange_free : (s.resetRange lo hi).free = s.free := rfl
@[simp] theorem State.resetRange_hiLatch : (s.resetRange lo hi).hiLatch = s.hiLatch := rfl
@[simp] theorem State.resetRange_lastRead : (s.resetRange lo hi).lastRead = s.lastRead := rfl
@[simp] theorem State.resetRange_irqs : (s.resetRange lo hi).irqs = s.irqs := rfl
@[simp] theorem State.resetRange_toHost : (s.resetRange lo hi).toHost = s.toHost := rfl
@[simp] theorem State.resetRange_dram : (s.resetRange lo hi).dram = s.dram := rfl
@[simp] theorem State.resetRange_dramSyn : (s.resetRange lo hi).dramSyn = s.dramSyn := rfl
@[simp] theorem State.resetRange_sram : (s.resetRange lo hi).sram = s.sram := rfl
@[simp] theorem State.resetRange_ccSram : (s.resetRange lo hi).ccSram = s.ccSram := rfl
@[simp] theorem State.resetRange_store : (s.resetRange lo hi).store = s.store := rfl
@[simp] theorem State.resetRange_pass : (s.resetRange lo hi).pass = s.pass := rfl
@[simp] theorem State.resetRange_sump : (s.resetRange lo hi).sump = s.sump := rfl
@[simp] theorem State.resetRange_maon : (s.resetRange lo hi).maon = s.maon := rfl
@[simp] theorem State.resetRange_buf : (s.resetRange lo hi).buf = s.buf := rfl
@[simp] theorem State.resetRange_pwr : (s.resetRange lo hi).pwr = s.pwr := rfl
@[simp] theorem State.resetRange_leM : (s.resetRange lo hi).leM = s.leM := rfl
@[simp] theorem State.resetRange_leSh : (s.resetRange lo hi).leSh = s.leSh := rfl
@[simp] theorem State.resetRange_spin : (s.resetRange lo hi).spin = s.spin := rfl
@[simp] theorem State.resetRange_flow : (s.resetRange lo hi).flow = s.flow := rfl
@[simp] theorem State.resetRange_mtr : (s.resetRange lo hi).mtr = s.mtr := rfl
@[simp] theorem State.resetRange_qeng : (s.resetRange lo hi).qeng = s.qeng := rfl
@[simp] theorem State.resetRange_mapc : (s.resetRange lo hi).mapc = s.mapc := rfl
@[simp] theorem State.resetRange_lastData : (s.resetRange lo hi).lastData = s.lastData := rfl
@[simp] theorem State.resetRange_sqz : (s.resetRange lo hi).sqz = s.sqz := rfl
@[simp] theorem State.resetRange_aes : (s.resetRange lo hi).aes = s.aes := rfl
@[simp] theorem State.resetRange_cryp : (s.resetRange lo hi).cryp = s.cryp := rfl
@[simp] theorem State.resetRange_fuses : (s.resetRange lo hi).fuses = s.fuses := rfl
@[simp] theorem State.resetRange_mbox : (s.resetRange lo hi).mbox = s.mbox := rfl
@[simp] theorem State.resetRange_rope : (s.resetRange lo hi).rope = s.rope := rfl
@[simp] theorem State.resetRange_toPeer : (s.resetRange lo hi).toPeer = s.toPeer := rfl
@[simp] theorem State.resetRange_mgmt : (s.resetRange lo hi).mgmt = s.mgmt := rfl
@[simp] theorem State.resetRange_secs : (s.resetRange lo hi).secs = s.secs := rfl

end

/-! ### resetRegs -/

section
variable (s : State) (f : Nat → Bool)

@[simp] theorem State.resetRegs_pending : (s.resetRegs f).pending = s.pending := rfl
@[simp] theorem State.resetRegs_gtc : (s.resetRegs f).gtc = s.gtc := rfl
@[simp] theorem State.resetRegs_gtcRun : (s.resetRegs f).gtcRun = s.gtcRun := rfl
@[simp] theorem State.resetRegs_free : (s.resetRegs f).free = s.free := rfl
@[simp] theorem State.resetRegs_hiLatch : (s.resetRegs f).hiLatch = s.hiLatch := rfl
@[simp] theorem State.resetRegs_lastRead : (s.resetRegs f).lastRead = s.lastRead := rfl
@[simp] theorem State.resetRegs_irqs : (s.resetRegs f).irqs = s.irqs := rfl
@[simp] theorem State.resetRegs_toHost : (s.resetRegs f).toHost = s.toHost := rfl
@[simp] theorem State.resetRegs_dram : (s.resetRegs f).dram = s.dram := rfl
@[simp] theorem State.resetRegs_dramSyn : (s.resetRegs f).dramSyn = s.dramSyn := rfl
@[simp] theorem State.resetRegs_sram : (s.resetRegs f).sram = s.sram := rfl
@[simp] theorem State.resetRegs_ccSram : (s.resetRegs f).ccSram = s.ccSram := rfl
@[simp] theorem State.resetRegs_store : (s.resetRegs f).store = s.store := rfl
@[simp] theorem State.resetRegs_pass : (s.resetRegs f).pass = s.pass := rfl
@[simp] theorem State.resetRegs_sump : (s.resetRegs f).sump = s.sump := rfl
@[simp] theorem State.resetRegs_maon : (s.resetRegs f).maon = s.maon := rfl
@[simp] theorem State.resetRegs_buf : (s.resetRegs f).buf = s.buf := rfl
@[simp] theorem State.resetRegs_pwr : (s.resetRegs f).pwr = s.pwr := rfl
@[simp] theorem State.resetRegs_leM : (s.resetRegs f).leM = s.leM := rfl
@[simp] theorem State.resetRegs_leSh : (s.resetRegs f).leSh = s.leSh := rfl
@[simp] theorem State.resetRegs_spin : (s.resetRegs f).spin = s.spin := rfl
@[simp] theorem State.resetRegs_flow : (s.resetRegs f).flow = s.flow := rfl
@[simp] theorem State.resetRegs_mtr : (s.resetRegs f).mtr = s.mtr := rfl
@[simp] theorem State.resetRegs_qeng : (s.resetRegs f).qeng = s.qeng := rfl
@[simp] theorem State.resetRegs_mapc : (s.resetRegs f).mapc = s.mapc := rfl
@[simp] theorem State.resetRegs_lastData : (s.resetRegs f).lastData = s.lastData := rfl
@[simp] theorem State.resetRegs_sqz : (s.resetRegs f).sqz = s.sqz := rfl
@[simp] theorem State.resetRegs_aes : (s.resetRegs f).aes = s.aes := rfl
@[simp] theorem State.resetRegs_cryp : (s.resetRegs f).cryp = s.cryp := rfl
@[simp] theorem State.resetRegs_fuses : (s.resetRegs f).fuses = s.fuses := rfl
@[simp] theorem State.resetRegs_mbox : (s.resetRegs f).mbox = s.mbox := rfl
@[simp] theorem State.resetRegs_rope : (s.resetRegs f).rope = s.rope := rfl
@[simp] theorem State.resetRegs_toPeer : (s.resetRegs f).toPeer = s.toPeer := rfl
@[simp] theorem State.resetRegs_mgmt : (s.resetRegs f).mgmt = s.mgmt := rfl
@[simp] theorem State.resetRegs_secs : (s.resetRegs f).secs = s.secs := rfl

end

/-! ### useFree -/

section
variable (s : State)

@[simp] theorem State.useFree_pending : (s.useFree).pending = s.pending := rfl
@[simp] theorem State.useFree_gtc : (s.useFree).gtc = s.gtc := rfl
@[simp] theorem State.useFree_gtcRun : (s.useFree).gtcRun = s.gtcRun := rfl
@[simp] theorem State.useFree_free : (s.useFree).free = s.free + 1 := rfl
@[simp] theorem State.useFree_regs : (s.useFree).regs = s.regs := rfl
@[simp] theorem State.useFree_hiLatch : (s.useFree).hiLatch = s.hiLatch := rfl
@[simp] theorem State.useFree_lastRead : (s.useFree).lastRead = s.lastRead := rfl
@[simp] theorem State.useFree_irqs : (s.useFree).irqs = s.irqs := rfl
@[simp] theorem State.useFree_toHost : (s.useFree).toHost = s.toHost := rfl
@[simp] theorem State.useFree_dram : (s.useFree).dram = s.dram := rfl
@[simp] theorem State.useFree_dramSyn : (s.useFree).dramSyn = s.dramSyn := rfl
@[simp] theorem State.useFree_sram : (s.useFree).sram = s.sram := rfl
@[simp] theorem State.useFree_ccSram : (s.useFree).ccSram = s.ccSram := rfl
@[simp] theorem State.useFree_store : (s.useFree).store = s.store := rfl
@[simp] theorem State.useFree_pass : (s.useFree).pass = s.pass := rfl
@[simp] theorem State.useFree_sump : (s.useFree).sump = s.sump := rfl
@[simp] theorem State.useFree_maon : (s.useFree).maon = s.maon := rfl
@[simp] theorem State.useFree_buf : (s.useFree).buf = s.buf := rfl
@[simp] theorem State.useFree_pwr : (s.useFree).pwr = s.pwr := rfl
@[simp] theorem State.useFree_leM : (s.useFree).leM = s.leM := rfl
@[simp] theorem State.useFree_leSh : (s.useFree).leSh = s.leSh := rfl
@[simp] theorem State.useFree_spin : (s.useFree).spin = s.spin := rfl
@[simp] theorem State.useFree_flow : (s.useFree).flow = s.flow := rfl
@[simp] theorem State.useFree_mtr : (s.useFree).mtr = s.mtr := rfl
@[simp] theorem State.useFree_qeng : (s.useFree).qeng = s.qeng := rfl
@[simp] theorem State.useFree_mapc : (s.useFree).mapc = s.mapc := rfl
@[simp] theorem State.useFree_lastData : (s.useFree).lastData = s.lastData := rfl
@[simp] theorem State.useFree_sqz : (s.useFree).sqz = s.sqz := rfl
@[simp] theorem State.useFree_aes : (s.useFree).aes = s.aes := rfl
@[simp] theorem State.useFree_cryp : (s.useFree).cryp = s.cryp := rfl
@[simp] theorem State.useFree_fuses : (s.useFree).fuses = s.fuses := rfl
@[simp] theorem State.useFree_mbox : (s.useFree).mbox = s.mbox := rfl
@[simp] theorem State.useFree_rope : (s.useFree).rope = s.rope := rfl
@[simp] theorem State.useFree_toPeer : (s.useFree).toPeer = s.toPeer := rfl
@[simp] theorem State.useFree_mgmt : (s.useFree).mgmt = s.mgmt := rfl
@[simp] theorem State.useFree_secs : (s.useFree).secs = s.secs := rfl

end

/-! ### irq -/

section
variable (s : State) (x : IrqTarget) (c : IrqCause)

@[simp] theorem State.irq_pending : (s.irq x c).pending = s.pending := rfl
@[simp] theorem State.irq_gtc : (s.irq x c).gtc = s.gtc := rfl
@[simp] theorem State.irq_gtcRun : (s.irq x c).gtcRun = s.gtcRun := rfl
@[simp] theorem State.irq_free : (s.irq x c).free = s.free := rfl
@[simp] theorem State.irq_regs : (s.irq x c).regs = s.regs := rfl
@[simp] theorem State.irq_hiLatch : (s.irq x c).hiLatch = s.hiLatch := rfl
@[simp] theorem State.irq_lastRead : (s.irq x c).lastRead = s.lastRead := rfl
@[simp] theorem State.irq_irqs : (s.irq x c).irqs = s.irqs ++ [⟨x, c⟩] := rfl
@[simp] theorem State.irq_toHost : (s.irq x c).toHost = s.toHost := rfl
@[simp] theorem State.irq_dram : (s.irq x c).dram = s.dram := rfl
@[simp] theorem State.irq_dramSyn : (s.irq x c).dramSyn = s.dramSyn := rfl
@[simp] theorem State.irq_sram : (s.irq x c).sram = s.sram := rfl
@[simp] theorem State.irq_ccSram : (s.irq x c).ccSram = s.ccSram := rfl
@[simp] theorem State.irq_store : (s.irq x c).store = s.store := rfl
@[simp] theorem State.irq_pass : (s.irq x c).pass = s.pass := rfl
@[simp] theorem State.irq_sump : (s.irq x c).sump = s.sump := rfl
@[simp] theorem State.irq_maon : (s.irq x c).maon = s.maon := rfl
@[simp] theorem State.irq_buf : (s.irq x c).buf = s.buf := rfl
@[simp] theorem State.irq_pwr : (s.irq x c).pwr = s.pwr := rfl
@[simp] theorem State.irq_leM : (s.irq x c).leM = s.leM := rfl
@[simp] theorem State.irq_leSh : (s.irq x c).leSh = s.leSh := rfl
@[simp] theorem State.irq_spin : (s.irq x c).spin = s.spin := rfl
@[simp] theorem State.irq_flow : (s.irq x c).flow = s.flow := rfl
@[simp] theorem State.irq_mtr : (s.irq x c).mtr = s.mtr := rfl
@[simp] theorem State.irq_qeng : (s.irq x c).qeng = s.qeng := rfl
@[simp] theorem State.irq_mapc : (s.irq x c).mapc = s.mapc := rfl
@[simp] theorem State.irq_lastData : (s.irq x c).lastData = s.lastData := rfl
@[simp] theorem State.irq_sqz : (s.irq x c).sqz = s.sqz := rfl
@[simp] theorem State.irq_aes : (s.irq x c).aes = s.aes := rfl
@[simp] theorem State.irq_cryp : (s.irq x c).cryp = s.cryp := rfl
@[simp] theorem State.irq_fuses : (s.irq x c).fuses = s.fuses := rfl
@[simp] theorem State.irq_mbox : (s.irq x c).mbox = s.mbox := rfl
@[simp] theorem State.irq_rope : (s.irq x c).rope = s.rope := rfl
@[simp] theorem State.irq_toPeer : (s.irq x c).toPeer = s.toPeer := rfl
@[simp] theorem State.irq_mgmt : (s.irq x c).mgmt = s.mgmt := rfl
@[simp] theorem State.irq_secs : (s.irq x c).secs = s.secs := rfl

end

/-! ### sendHost -/

section
variable (s : State) (m : HostTlp)

@[simp] theorem State.sendHost_pending : (s.sendHost m).pending = s.pending := rfl
@[simp] theorem State.sendHost_gtc : (s.sendHost m).gtc = s.gtc := rfl
@[simp] theorem State.sendHost_gtcRun : (s.sendHost m).gtcRun = s.gtcRun := rfl
@[simp] theorem State.sendHost_free : (s.sendHost m).free = s.free := rfl
@[simp] theorem State.sendHost_regs : (s.sendHost m).regs = s.regs := rfl
@[simp] theorem State.sendHost_hiLatch : (s.sendHost m).hiLatch = s.hiLatch := rfl
@[simp] theorem State.sendHost_lastRead : (s.sendHost m).lastRead = s.lastRead := rfl
@[simp] theorem State.sendHost_irqs : (s.sendHost m).irqs = s.irqs := rfl
@[simp] theorem State.sendHost_toHost : (s.sendHost m).toHost = s.toHost ++ [m] := rfl
@[simp] theorem State.sendHost_dram : (s.sendHost m).dram = s.dram := rfl
@[simp] theorem State.sendHost_dramSyn : (s.sendHost m).dramSyn = s.dramSyn := rfl
@[simp] theorem State.sendHost_sram : (s.sendHost m).sram = s.sram := rfl
@[simp] theorem State.sendHost_ccSram : (s.sendHost m).ccSram = s.ccSram := rfl
@[simp] theorem State.sendHost_store : (s.sendHost m).store = s.store := rfl
@[simp] theorem State.sendHost_pass : (s.sendHost m).pass = s.pass := rfl
@[simp] theorem State.sendHost_sump : (s.sendHost m).sump = s.sump := rfl
@[simp] theorem State.sendHost_maon : (s.sendHost m).maon = s.maon := rfl
@[simp] theorem State.sendHost_buf : (s.sendHost m).buf = s.buf := rfl
@[simp] theorem State.sendHost_pwr : (s.sendHost m).pwr = s.pwr := rfl
@[simp] theorem State.sendHost_leM : (s.sendHost m).leM = s.leM := rfl
@[simp] theorem State.sendHost_leSh : (s.sendHost m).leSh = s.leSh := rfl
@[simp] theorem State.sendHost_spin : (s.sendHost m).spin = s.spin := rfl
@[simp] theorem State.sendHost_flow : (s.sendHost m).flow = s.flow := rfl
@[simp] theorem State.sendHost_mtr : (s.sendHost m).mtr = s.mtr := rfl
@[simp] theorem State.sendHost_qeng : (s.sendHost m).qeng = s.qeng := rfl
@[simp] theorem State.sendHost_mapc : (s.sendHost m).mapc = s.mapc := rfl
@[simp] theorem State.sendHost_lastData : (s.sendHost m).lastData = s.lastData := rfl
@[simp] theorem State.sendHost_sqz : (s.sendHost m).sqz = s.sqz := rfl
@[simp] theorem State.sendHost_aes : (s.sendHost m).aes = s.aes := rfl
@[simp] theorem State.sendHost_cryp : (s.sendHost m).cryp = s.cryp := rfl
@[simp] theorem State.sendHost_fuses : (s.sendHost m).fuses = s.fuses := rfl
@[simp] theorem State.sendHost_mbox : (s.sendHost m).mbox = s.mbox := rfl
@[simp] theorem State.sendHost_rope : (s.sendHost m).rope = s.rope := rfl
@[simp] theorem State.sendHost_toPeer : (s.sendHost m).toPeer = s.toPeer := rfl
@[simp] theorem State.sendHost_mgmt : (s.sendHost m).mgmt = s.mgmt := rfl
@[simp] theorem State.sendHost_secs : (s.sendHost m).secs = s.secs := rfl

end

/-! ### sendFault -/

section
variable (s : State) (src kind addr : Nat)

@[simp] theorem State.sendFault_pending : (s.sendFault src kind addr).pending = s.pending := rfl
@[simp] theorem State.sendFault_gtc : (s.sendFault src kind addr).gtc = s.gtc := rfl
@[simp] theorem State.sendFault_gtcRun : (s.sendFault src kind addr).gtcRun = s.gtcRun := rfl
@[simp] theorem State.sendFault_free : (s.sendFault src kind addr).free = s.free := rfl
@[simp] theorem State.sendFault_regs : (s.sendFault src kind addr).regs = s.regs := rfl
@[simp] theorem State.sendFault_hiLatch : (s.sendFault src kind addr).hiLatch = s.hiLatch := rfl
@[simp] theorem State.sendFault_lastRead : (s.sendFault src kind addr).lastRead = s.lastRead := rfl
@[simp] theorem State.sendFault_irqs : (s.sendFault src kind addr).irqs = s.irqs := rfl
@[simp] theorem State.sendFault_toHost : (s.sendFault src kind addr).toHost = s.toHost := rfl
@[simp] theorem State.sendFault_dram : (s.sendFault src kind addr).dram = s.dram := rfl
@[simp] theorem State.sendFault_dramSyn : (s.sendFault src kind addr).dramSyn = s.dramSyn := rfl
@[simp] theorem State.sendFault_sram : (s.sendFault src kind addr).sram = s.sram := rfl
@[simp] theorem State.sendFault_ccSram : (s.sendFault src kind addr).ccSram = s.ccSram := rfl
@[simp] theorem State.sendFault_store : (s.sendFault src kind addr).store = s.store := rfl
@[simp] theorem State.sendFault_pass : (s.sendFault src kind addr).pass = s.pass := rfl
@[simp] theorem State.sendFault_buf : (s.sendFault src kind addr).buf = s.buf := rfl
@[simp] theorem State.sendFault_pwr : (s.sendFault src kind addr).pwr = s.pwr := rfl
@[simp] theorem State.sendFault_leM : (s.sendFault src kind addr).leM = s.leM := rfl
@[simp] theorem State.sendFault_leSh : (s.sendFault src kind addr).leSh = s.leSh := rfl
@[simp] theorem State.sendFault_spin : (s.sendFault src kind addr).spin = s.spin := rfl
@[simp] theorem State.sendFault_flow : (s.sendFault src kind addr).flow = s.flow := rfl
@[simp] theorem State.sendFault_mtr : (s.sendFault src kind addr).mtr = s.mtr := rfl
@[simp] theorem State.sendFault_qeng : (s.sendFault src kind addr).qeng = s.qeng := rfl
@[simp] theorem State.sendFault_mapc : (s.sendFault src kind addr).mapc = s.mapc := rfl
@[simp] theorem State.sendFault_lastData : (s.sendFault src kind addr).lastData = s.lastData := rfl
@[simp] theorem State.sendFault_sqz : (s.sendFault src kind addr).sqz = s.sqz := rfl
@[simp] theorem State.sendFault_aes : (s.sendFault src kind addr).aes = s.aes := rfl
@[simp] theorem State.sendFault_cryp : (s.sendFault src kind addr).cryp = s.cryp := rfl
@[simp] theorem State.sendFault_fuses : (s.sendFault src kind addr).fuses = s.fuses := rfl
@[simp] theorem State.sendFault_mbox : (s.sendFault src kind addr).mbox = s.mbox := rfl
@[simp] theorem State.sendFault_rope : (s.sendFault src kind addr).rope = s.rope := rfl
@[simp] theorem State.sendFault_toPeer : (s.sendFault src kind addr).toPeer = s.toPeer := rfl
@[simp] theorem State.sendFault_mgmt : (s.sendFault src kind addr).mgmt = s.mgmt := rfl
@[simp] theorem State.sendFault_secs : (s.sendFault src kind addr).secs = s.secs := rfl

end

/-! ### protocol -/

section
variable (s : State) (src addr : Nat)

@[simp] theorem State.protocol_pending : (s.protocol src addr).pending = s.pending := rfl
@[simp] theorem State.protocol_gtc : (s.protocol src addr).gtc = s.gtc := rfl
@[simp] theorem State.protocol_gtcRun : (s.protocol src addr).gtcRun = s.gtcRun := rfl
@[simp] theorem State.protocol_free : (s.protocol src addr).free = s.free := rfl
@[simp] theorem State.protocol_regs : (s.protocol src addr).regs = s.regs := rfl
@[simp] theorem State.protocol_hiLatch : (s.protocol src addr).hiLatch = s.hiLatch := rfl
@[simp] theorem State.protocol_lastRead : (s.protocol src addr).lastRead = s.lastRead := rfl
@[simp] theorem State.protocol_irqs : (s.protocol src addr).irqs = s.irqs := rfl
@[simp] theorem State.protocol_toHost : (s.protocol src addr).toHost = s.toHost := rfl
@[simp] theorem State.protocol_dram : (s.protocol src addr).dram = s.dram := rfl
@[simp] theorem State.protocol_dramSyn : (s.protocol src addr).dramSyn = s.dramSyn := rfl
@[simp] theorem State.protocol_sram : (s.protocol src addr).sram = s.sram := rfl
@[simp] theorem State.protocol_ccSram : (s.protocol src addr).ccSram = s.ccSram := rfl
@[simp] theorem State.protocol_store : (s.protocol src addr).store = s.store := rfl
@[simp] theorem State.protocol_pass : (s.protocol src addr).pass = s.pass := rfl
@[simp] theorem State.protocol_buf : (s.protocol src addr).buf = s.buf := rfl
@[simp] theorem State.protocol_pwr : (s.protocol src addr).pwr = s.pwr := rfl
@[simp] theorem State.protocol_leM : (s.protocol src addr).leM = s.leM := rfl
@[simp] theorem State.protocol_leSh : (s.protocol src addr).leSh = s.leSh := rfl
@[simp] theorem State.protocol_spin : (s.protocol src addr).spin = s.spin := rfl
@[simp] theorem State.protocol_flow : (s.protocol src addr).flow = s.flow := rfl
@[simp] theorem State.protocol_mtr : (s.protocol src addr).mtr = s.mtr := rfl
@[simp] theorem State.protocol_qeng : (s.protocol src addr).qeng = s.qeng := rfl
@[simp] theorem State.protocol_mapc : (s.protocol src addr).mapc = s.mapc := rfl
@[simp] theorem State.protocol_lastData : (s.protocol src addr).lastData = s.lastData := rfl
@[simp] theorem State.protocol_sqz : (s.protocol src addr).sqz = s.sqz := rfl
@[simp] theorem State.protocol_aes : (s.protocol src addr).aes = s.aes := rfl
@[simp] theorem State.protocol_cryp : (s.protocol src addr).cryp = s.cryp := rfl
@[simp] theorem State.protocol_fuses : (s.protocol src addr).fuses = s.fuses := rfl
@[simp] theorem State.protocol_mbox : (s.protocol src addr).mbox = s.mbox := rfl
@[simp] theorem State.protocol_rope : (s.protocol src addr).rope = s.rope := rfl
@[simp] theorem State.protocol_toPeer : (s.protocol src addr).toPeer = s.toPeer := rfl
@[simp] theorem State.protocol_mgmt : (s.protocol src addr).mgmt = s.mgmt := rfl
@[simp] theorem State.protocol_secs : (s.protocol src addr).secs = s.secs := rfl

end

/-! ### setSec -/

section
variable (s : State) (n : Fin 4) (x : Section)

@[simp] theorem State.setSec_pending : (s.setSec n x).pending = s.pending := rfl
@[simp] theorem State.setSec_gtc : (s.setSec n x).gtc = s.gtc := rfl
@[simp] theorem State.setSec_gtcRun : (s.setSec n x).gtcRun = s.gtcRun := rfl
@[simp] theorem State.setSec_free : (s.setSec n x).free = s.free := rfl
@[simp] theorem State.setSec_regs : (s.setSec n x).regs = s.regs := rfl
@[simp] theorem State.setSec_hiLatch : (s.setSec n x).hiLatch = s.hiLatch := rfl
@[simp] theorem State.setSec_lastRead : (s.setSec n x).lastRead = s.lastRead := rfl
@[simp] theorem State.setSec_irqs : (s.setSec n x).irqs = s.irqs := rfl
@[simp] theorem State.setSec_toHost : (s.setSec n x).toHost = s.toHost := rfl
@[simp] theorem State.setSec_dram : (s.setSec n x).dram = s.dram := rfl
@[simp] theorem State.setSec_dramSyn : (s.setSec n x).dramSyn = s.dramSyn := rfl
@[simp] theorem State.setSec_sram : (s.setSec n x).sram = s.sram := rfl
@[simp] theorem State.setSec_ccSram : (s.setSec n x).ccSram = s.ccSram := rfl
@[simp] theorem State.setSec_store : (s.setSec n x).store = s.store := rfl
@[simp] theorem State.setSec_pass : (s.setSec n x).pass = s.pass := rfl
@[simp] theorem State.setSec_sump : (s.setSec n x).sump = s.sump := rfl
@[simp] theorem State.setSec_maon : (s.setSec n x).maon = s.maon := rfl
@[simp] theorem State.setSec_buf : (s.setSec n x).buf = s.buf := rfl
@[simp] theorem State.setSec_pwr : (s.setSec n x).pwr = s.pwr := rfl
@[simp] theorem State.setSec_leM : (s.setSec n x).leM = s.leM := rfl
@[simp] theorem State.setSec_leSh : (s.setSec n x).leSh = s.leSh := rfl
@[simp] theorem State.setSec_spin : (s.setSec n x).spin = s.spin := rfl
@[simp] theorem State.setSec_flow : (s.setSec n x).flow = s.flow := rfl
@[simp] theorem State.setSec_mtr : (s.setSec n x).mtr = s.mtr := rfl
@[simp] theorem State.setSec_qeng : (s.setSec n x).qeng = s.qeng := rfl
@[simp] theorem State.setSec_mapc : (s.setSec n x).mapc = s.mapc := rfl
@[simp] theorem State.setSec_lastData : (s.setSec n x).lastData = s.lastData := rfl
@[simp] theorem State.setSec_sqz : (s.setSec n x).sqz = s.sqz := rfl
@[simp] theorem State.setSec_aes : (s.setSec n x).aes = s.aes := rfl
@[simp] theorem State.setSec_cryp : (s.setSec n x).cryp = s.cryp := rfl
@[simp] theorem State.setSec_fuses : (s.setSec n x).fuses = s.fuses := rfl
@[simp] theorem State.setSec_mbox : (s.setSec n x).mbox = s.mbox := rfl
@[simp] theorem State.setSec_rope : (s.setSec n x).rope = s.rope := rfl
@[simp] theorem State.setSec_toPeer : (s.setSec n x).toPeer = s.toPeer := rfl
@[simp] theorem State.setSec_mgmt : (s.setSec n x).mgmt = s.mgmt := rfl
@[simp] theorem State.setSec_secs : (s.setSec n x).secs = s.secs.set n x := rfl

end

/-! ### onAtb -/

section
variable (s : State) (n : Fin 4) (f : Atb → Atb)

@[simp] theorem State.onAtb_pending : (s.onAtb n f).pending = s.pending := rfl
@[simp] theorem State.onAtb_gtc : (s.onAtb n f).gtc = s.gtc := rfl
@[simp] theorem State.onAtb_gtcRun : (s.onAtb n f).gtcRun = s.gtcRun := rfl
@[simp] theorem State.onAtb_free : (s.onAtb n f).free = s.free := rfl
@[simp] theorem State.onAtb_regs : (s.onAtb n f).regs = s.regs := rfl
@[simp] theorem State.onAtb_hiLatch : (s.onAtb n f).hiLatch = s.hiLatch := rfl
@[simp] theorem State.onAtb_lastRead : (s.onAtb n f).lastRead = s.lastRead := rfl
@[simp] theorem State.onAtb_irqs : (s.onAtb n f).irqs = s.irqs := rfl
@[simp] theorem State.onAtb_toHost : (s.onAtb n f).toHost = s.toHost := rfl
@[simp] theorem State.onAtb_dram : (s.onAtb n f).dram = s.dram := rfl
@[simp] theorem State.onAtb_dramSyn : (s.onAtb n f).dramSyn = s.dramSyn := rfl
@[simp] theorem State.onAtb_sram : (s.onAtb n f).sram = s.sram := rfl
@[simp] theorem State.onAtb_ccSram : (s.onAtb n f).ccSram = s.ccSram := rfl
@[simp] theorem State.onAtb_store : (s.onAtb n f).store = s.store := rfl
@[simp] theorem State.onAtb_pass : (s.onAtb n f).pass = s.pass := rfl
@[simp] theorem State.onAtb_sump : (s.onAtb n f).sump = s.sump := rfl
@[simp] theorem State.onAtb_maon : (s.onAtb n f).maon = s.maon := rfl
@[simp] theorem State.onAtb_buf : (s.onAtb n f).buf = s.buf := rfl
@[simp] theorem State.onAtb_pwr : (s.onAtb n f).pwr = s.pwr := rfl
@[simp] theorem State.onAtb_leM : (s.onAtb n f).leM = s.leM := rfl
@[simp] theorem State.onAtb_leSh : (s.onAtb n f).leSh = s.leSh := rfl
@[simp] theorem State.onAtb_spin : (s.onAtb n f).spin = s.spin := rfl
@[simp] theorem State.onAtb_flow : (s.onAtb n f).flow = s.flow := rfl
@[simp] theorem State.onAtb_mtr : (s.onAtb n f).mtr = s.mtr := rfl
@[simp] theorem State.onAtb_qeng : (s.onAtb n f).qeng = s.qeng := rfl
@[simp] theorem State.onAtb_mapc : (s.onAtb n f).mapc = s.mapc := rfl
@[simp] theorem State.onAtb_lastData : (s.onAtb n f).lastData = s.lastData := rfl
@[simp] theorem State.onAtb_sqz : (s.onAtb n f).sqz = s.sqz := rfl
@[simp] theorem State.onAtb_aes : (s.onAtb n f).aes = s.aes := rfl
@[simp] theorem State.onAtb_cryp : (s.onAtb n f).cryp = s.cryp := rfl
@[simp] theorem State.onAtb_fuses : (s.onAtb n f).fuses = s.fuses := rfl
@[simp] theorem State.onAtb_mbox : (s.onAtb n f).mbox = s.mbox := rfl
@[simp] theorem State.onAtb_rope : (s.onAtb n f).rope = s.rope := rfl
@[simp] theorem State.onAtb_toPeer : (s.onAtb n f).toPeer = s.toPeer := rfl
@[simp] theorem State.onAtb_mgmt : (s.onAtb n f).mgmt = s.mgmt := rfl

end

/-! ### onChan -/

section
variable (s : State) (n : Fin 4) (f : Chan → Chan)

@[simp] theorem State.onChan_pending : (s.onChan n f).pending = s.pending := rfl
@[simp] theorem State.onChan_gtc : (s.onChan n f).gtc = s.gtc := rfl
@[simp] theorem State.onChan_gtcRun : (s.onChan n f).gtcRun = s.gtcRun := rfl
@[simp] theorem State.onChan_free : (s.onChan n f).free = s.free := rfl
@[simp] theorem State.onChan_regs : (s.onChan n f).regs = s.regs := rfl
@[simp] theorem State.onChan_hiLatch : (s.onChan n f).hiLatch = s.hiLatch := rfl
@[simp] theorem State.onChan_lastRead : (s.onChan n f).lastRead = s.lastRead := rfl
@[simp] theorem State.onChan_irqs : (s.onChan n f).irqs = s.irqs := rfl
@[simp] theorem State.onChan_toHost : (s.onChan n f).toHost = s.toHost := rfl
@[simp] theorem State.onChan_dram : (s.onChan n f).dram = s.dram := rfl
@[simp] theorem State.onChan_dramSyn : (s.onChan n f).dramSyn = s.dramSyn := rfl
@[simp] theorem State.onChan_sram : (s.onChan n f).sram = s.sram := rfl
@[simp] theorem State.onChan_ccSram : (s.onChan n f).ccSram = s.ccSram := rfl
@[simp] theorem State.onChan_store : (s.onChan n f).store = s.store := rfl
@[simp] theorem State.onChan_pass : (s.onChan n f).pass = s.pass := rfl
@[simp] theorem State.onChan_sump : (s.onChan n f).sump = s.sump := rfl
@[simp] theorem State.onChan_maon : (s.onChan n f).maon = s.maon := rfl
@[simp] theorem State.onChan_buf : (s.onChan n f).buf = s.buf := rfl
@[simp] theorem State.onChan_pwr : (s.onChan n f).pwr = s.pwr := rfl
@[simp] theorem State.onChan_leM : (s.onChan n f).leM = s.leM := rfl
@[simp] theorem State.onChan_leSh : (s.onChan n f).leSh = s.leSh := rfl
@[simp] theorem State.onChan_spin : (s.onChan n f).spin = s.spin := rfl
@[simp] theorem State.onChan_flow : (s.onChan n f).flow = s.flow := rfl
@[simp] theorem State.onChan_mtr : (s.onChan n f).mtr = s.mtr := rfl
@[simp] theorem State.onChan_qeng : (s.onChan n f).qeng = s.qeng := rfl
@[simp] theorem State.onChan_mapc : (s.onChan n f).mapc = s.mapc := rfl
@[simp] theorem State.onChan_lastData : (s.onChan n f).lastData = s.lastData := rfl
@[simp] theorem State.onChan_sqz : (s.onChan n f).sqz = s.sqz := rfl
@[simp] theorem State.onChan_aes : (s.onChan n f).aes = s.aes := rfl
@[simp] theorem State.onChan_cryp : (s.onChan n f).cryp = s.cryp := rfl
@[simp] theorem State.onChan_fuses : (s.onChan n f).fuses = s.fuses := rfl
@[simp] theorem State.onChan_mbox : (s.onChan n f).mbox = s.mbox := rfl
@[simp] theorem State.onChan_rope : (s.onChan n f).rope = s.rope := rfl
@[simp] theorem State.onChan_toPeer : (s.onChan n f).toPeer = s.toPeer := rfl
@[simp] theorem State.onChan_mgmt : (s.onChan n f).mgmt = s.mgmt := rfl

end

/-! ### onLoop -/

section
variable (s : State) (n : Fin 4) (f : Loop → Loop)

@[simp] theorem State.onLoop_pending : (s.onLoop n f).pending = s.pending := rfl
@[simp] theorem State.onLoop_gtc : (s.onLoop n f).gtc = s.gtc := rfl
@[simp] theorem State.onLoop_gtcRun : (s.onLoop n f).gtcRun = s.gtcRun := rfl
@[simp] theorem State.onLoop_free : (s.onLoop n f).free = s.free := rfl
@[simp] theorem State.onLoop_regs : (s.onLoop n f).regs = s.regs := rfl
@[simp] theorem State.onLoop_hiLatch : (s.onLoop n f).hiLatch = s.hiLatch := rfl
@[simp] theorem State.onLoop_lastRead : (s.onLoop n f).lastRead = s.lastRead := rfl
@[simp] theorem State.onLoop_irqs : (s.onLoop n f).irqs = s.irqs := rfl
@[simp] theorem State.onLoop_toHost : (s.onLoop n f).toHost = s.toHost := rfl
@[simp] theorem State.onLoop_dram : (s.onLoop n f).dram = s.dram := rfl
@[simp] theorem State.onLoop_dramSyn : (s.onLoop n f).dramSyn = s.dramSyn := rfl
@[simp] theorem State.onLoop_sram : (s.onLoop n f).sram = s.sram := rfl
@[simp] theorem State.onLoop_ccSram : (s.onLoop n f).ccSram = s.ccSram := rfl
@[simp] theorem State.onLoop_store : (s.onLoop n f).store = s.store := rfl
@[simp] theorem State.onLoop_pass : (s.onLoop n f).pass = s.pass := rfl
@[simp] theorem State.onLoop_sump : (s.onLoop n f).sump = s.sump := rfl
@[simp] theorem State.onLoop_maon : (s.onLoop n f).maon = s.maon := rfl
@[simp] theorem State.onLoop_buf : (s.onLoop n f).buf = s.buf := rfl
@[simp] theorem State.onLoop_pwr : (s.onLoop n f).pwr = s.pwr := rfl
@[simp] theorem State.onLoop_leM : (s.onLoop n f).leM = s.leM := rfl
@[simp] theorem State.onLoop_leSh : (s.onLoop n f).leSh = s.leSh := rfl
@[simp] theorem State.onLoop_spin : (s.onLoop n f).spin = s.spin := rfl
@[simp] theorem State.onLoop_flow : (s.onLoop n f).flow = s.flow := rfl
@[simp] theorem State.onLoop_mtr : (s.onLoop n f).mtr = s.mtr := rfl
@[simp] theorem State.onLoop_qeng : (s.onLoop n f).qeng = s.qeng := rfl
@[simp] theorem State.onLoop_mapc : (s.onLoop n f).mapc = s.mapc := rfl
@[simp] theorem State.onLoop_lastData : (s.onLoop n f).lastData = s.lastData := rfl
@[simp] theorem State.onLoop_sqz : (s.onLoop n f).sqz = s.sqz := rfl
@[simp] theorem State.onLoop_aes : (s.onLoop n f).aes = s.aes := rfl
@[simp] theorem State.onLoop_cryp : (s.onLoop n f).cryp = s.cryp := rfl
@[simp] theorem State.onLoop_fuses : (s.onLoop n f).fuses = s.fuses := rfl
@[simp] theorem State.onLoop_mbox : (s.onLoop n f).mbox = s.mbox := rfl
@[simp] theorem State.onLoop_rope : (s.onLoop n f).rope = s.rope := rfl
@[simp] theorem State.onLoop_toPeer : (s.onLoop n f).toPeer = s.toPeer := rfl
@[simp] theorem State.onLoop_mgmt : (s.onLoop n f).mgmt = s.mgmt := rfl

end

/-! ### onAct -/

section
variable (s : State) (n : Fin 4) (f : Act → Act)

@[simp] theorem State.onAct_pending : (s.onAct n f).pending = s.pending := rfl
@[simp] theorem State.onAct_gtc : (s.onAct n f).gtc = s.gtc := rfl
@[simp] theorem State.onAct_gtcRun : (s.onAct n f).gtcRun = s.gtcRun := rfl
@[simp] theorem State.onAct_free : (s.onAct n f).free = s.free := rfl
@[simp] theorem State.onAct_regs : (s.onAct n f).regs = s.regs := rfl
@[simp] theorem State.onAct_hiLatch : (s.onAct n f).hiLatch = s.hiLatch := rfl
@[simp] theorem State.onAct_lastRead : (s.onAct n f).lastRead = s.lastRead := rfl
@[simp] theorem State.onAct_irqs : (s.onAct n f).irqs = s.irqs := rfl
@[simp] theorem State.onAct_toHost : (s.onAct n f).toHost = s.toHost := rfl
@[simp] theorem State.onAct_dram : (s.onAct n f).dram = s.dram := rfl
@[simp] theorem State.onAct_dramSyn : (s.onAct n f).dramSyn = s.dramSyn := rfl
@[simp] theorem State.onAct_sram : (s.onAct n f).sram = s.sram := rfl
@[simp] theorem State.onAct_ccSram : (s.onAct n f).ccSram = s.ccSram := rfl
@[simp] theorem State.onAct_store : (s.onAct n f).store = s.store := rfl
@[simp] theorem State.onAct_pass : (s.onAct n f).pass = s.pass := rfl
@[simp] theorem State.onAct_sump : (s.onAct n f).sump = s.sump := rfl
@[simp] theorem State.onAct_maon : (s.onAct n f).maon = s.maon := rfl
@[simp] theorem State.onAct_buf : (s.onAct n f).buf = s.buf := rfl
@[simp] theorem State.onAct_pwr : (s.onAct n f).pwr = s.pwr := rfl
@[simp] theorem State.onAct_leM : (s.onAct n f).leM = s.leM := rfl
@[simp] theorem State.onAct_leSh : (s.onAct n f).leSh = s.leSh := rfl
@[simp] theorem State.onAct_spin : (s.onAct n f).spin = s.spin := rfl
@[simp] theorem State.onAct_flow : (s.onAct n f).flow = s.flow := rfl
@[simp] theorem State.onAct_mtr : (s.onAct n f).mtr = s.mtr := rfl
@[simp] theorem State.onAct_qeng : (s.onAct n f).qeng = s.qeng := rfl
@[simp] theorem State.onAct_mapc : (s.onAct n f).mapc = s.mapc := rfl
@[simp] theorem State.onAct_lastData : (s.onAct n f).lastData = s.lastData := rfl
@[simp] theorem State.onAct_sqz : (s.onAct n f).sqz = s.sqz := rfl
@[simp] theorem State.onAct_aes : (s.onAct n f).aes = s.aes := rfl
@[simp] theorem State.onAct_cryp : (s.onAct n f).cryp = s.cryp := rfl
@[simp] theorem State.onAct_fuses : (s.onAct n f).fuses = s.fuses := rfl
@[simp] theorem State.onAct_mbox : (s.onAct n f).mbox = s.mbox := rfl
@[simp] theorem State.onAct_rope : (s.onAct n f).rope = s.rope := rfl
@[simp] theorem State.onAct_toPeer : (s.onAct n f).toPeer = s.toPeer := rfl
@[simp] theorem State.onAct_mgmt : (s.onAct n f).mgmt = s.mgmt := rfl

end

/-! ### onFlow -/

section
variable (s : State) (f : Flow → Flow)

@[simp] theorem State.onFlow_pending : (s.onFlow f).pending = s.pending := rfl
@[simp] theorem State.onFlow_gtc : (s.onFlow f).gtc = s.gtc := rfl
@[simp] theorem State.onFlow_gtcRun : (s.onFlow f).gtcRun = s.gtcRun := rfl
@[simp] theorem State.onFlow_free : (s.onFlow f).free = s.free := rfl
@[simp] theorem State.onFlow_regs : (s.onFlow f).regs = s.regs := rfl
@[simp] theorem State.onFlow_hiLatch : (s.onFlow f).hiLatch = s.hiLatch := rfl
@[simp] theorem State.onFlow_lastRead : (s.onFlow f).lastRead = s.lastRead := rfl
@[simp] theorem State.onFlow_irqs : (s.onFlow f).irqs = s.irqs := rfl
@[simp] theorem State.onFlow_toHost : (s.onFlow f).toHost = s.toHost := rfl
@[simp] theorem State.onFlow_dram : (s.onFlow f).dram = s.dram := rfl
@[simp] theorem State.onFlow_dramSyn : (s.onFlow f).dramSyn = s.dramSyn := rfl
@[simp] theorem State.onFlow_sram : (s.onFlow f).sram = s.sram := rfl
@[simp] theorem State.onFlow_ccSram : (s.onFlow f).ccSram = s.ccSram := rfl
@[simp] theorem State.onFlow_store : (s.onFlow f).store = s.store := rfl
@[simp] theorem State.onFlow_pass : (s.onFlow f).pass = s.pass := rfl
@[simp] theorem State.onFlow_sump : (s.onFlow f).sump = s.sump := rfl
@[simp] theorem State.onFlow_maon : (s.onFlow f).maon = s.maon := rfl
@[simp] theorem State.onFlow_buf : (s.onFlow f).buf = s.buf := rfl
@[simp] theorem State.onFlow_pwr : (s.onFlow f).pwr = s.pwr := rfl
@[simp] theorem State.onFlow_leM : (s.onFlow f).leM = s.leM := rfl
@[simp] theorem State.onFlow_leSh : (s.onFlow f).leSh = s.leSh := rfl
@[simp] theorem State.onFlow_spin : (s.onFlow f).spin = s.spin := rfl
@[simp] theorem State.onFlow_flow : (s.onFlow f).flow = f s.flow := rfl
@[simp] theorem State.onFlow_mtr : (s.onFlow f).mtr = s.mtr := rfl
@[simp] theorem State.onFlow_qeng : (s.onFlow f).qeng = s.qeng := rfl
@[simp] theorem State.onFlow_mapc : (s.onFlow f).mapc = s.mapc := rfl
@[simp] theorem State.onFlow_lastData : (s.onFlow f).lastData = s.lastData := rfl
@[simp] theorem State.onFlow_sqz : (s.onFlow f).sqz = s.sqz := rfl
@[simp] theorem State.onFlow_aes : (s.onFlow f).aes = s.aes := rfl
@[simp] theorem State.onFlow_cryp : (s.onFlow f).cryp = s.cryp := rfl
@[simp] theorem State.onFlow_fuses : (s.onFlow f).fuses = s.fuses := rfl
@[simp] theorem State.onFlow_mbox : (s.onFlow f).mbox = s.mbox := rfl
@[simp] theorem State.onFlow_rope : (s.onFlow f).rope = s.rope := rfl
@[simp] theorem State.onFlow_toPeer : (s.onFlow f).toPeer = s.toPeer := rfl
@[simp] theorem State.onFlow_mgmt : (s.onFlow f).mgmt = s.mgmt := rfl
@[simp] theorem State.onFlow_secs : (s.onFlow f).secs = s.secs := rfl

end

/-! ### onMbox -/

section
variable (s : State) (f : Mbox → Mbox)

@[simp] theorem State.onMbox_pending : (s.onMbox f).pending = s.pending := rfl
@[simp] theorem State.onMbox_gtc : (s.onMbox f).gtc = s.gtc := rfl
@[simp] theorem State.onMbox_gtcRun : (s.onMbox f).gtcRun = s.gtcRun := rfl
@[simp] theorem State.onMbox_free : (s.onMbox f).free = s.free := rfl
@[simp] theorem State.onMbox_regs : (s.onMbox f).regs = s.regs := rfl
@[simp] theorem State.onMbox_hiLatch : (s.onMbox f).hiLatch = s.hiLatch := rfl
@[simp] theorem State.onMbox_lastRead : (s.onMbox f).lastRead = s.lastRead := rfl
@[simp] theorem State.onMbox_irqs : (s.onMbox f).irqs = s.irqs := rfl
@[simp] theorem State.onMbox_toHost : (s.onMbox f).toHost = s.toHost := rfl
@[simp] theorem State.onMbox_dram : (s.onMbox f).dram = s.dram := rfl
@[simp] theorem State.onMbox_dramSyn : (s.onMbox f).dramSyn = s.dramSyn := rfl
@[simp] theorem State.onMbox_sram : (s.onMbox f).sram = s.sram := rfl
@[simp] theorem State.onMbox_ccSram : (s.onMbox f).ccSram = s.ccSram := rfl
@[simp] theorem State.onMbox_store : (s.onMbox f).store = s.store := rfl
@[simp] theorem State.onMbox_pass : (s.onMbox f).pass = s.pass := rfl
@[simp] theorem State.onMbox_sump : (s.onMbox f).sump = s.sump := rfl
@[simp] theorem State.onMbox_maon : (s.onMbox f).maon = s.maon := rfl
@[simp] theorem State.onMbox_buf : (s.onMbox f).buf = s.buf := rfl
@[simp] theorem State.onMbox_pwr : (s.onMbox f).pwr = s.pwr := rfl
@[simp] theorem State.onMbox_leM : (s.onMbox f).leM = s.leM := rfl
@[simp] theorem State.onMbox_leSh : (s.onMbox f).leSh = s.leSh := rfl
@[simp] theorem State.onMbox_spin : (s.onMbox f).spin = s.spin := rfl
@[simp] theorem State.onMbox_flow : (s.onMbox f).flow = s.flow := rfl
@[simp] theorem State.onMbox_mtr : (s.onMbox f).mtr = s.mtr := rfl
@[simp] theorem State.onMbox_qeng : (s.onMbox f).qeng = s.qeng := rfl
@[simp] theorem State.onMbox_mapc : (s.onMbox f).mapc = s.mapc := rfl
@[simp] theorem State.onMbox_lastData : (s.onMbox f).lastData = s.lastData := rfl
@[simp] theorem State.onMbox_sqz : (s.onMbox f).sqz = s.sqz := rfl
@[simp] theorem State.onMbox_aes : (s.onMbox f).aes = s.aes := rfl
@[simp] theorem State.onMbox_cryp : (s.onMbox f).cryp = s.cryp := rfl
@[simp] theorem State.onMbox_fuses : (s.onMbox f).fuses = s.fuses := rfl
@[simp] theorem State.onMbox_mbox : (s.onMbox f).mbox = f s.mbox := rfl
@[simp] theorem State.onMbox_rope : (s.onMbox f).rope = s.rope := rfl
@[simp] theorem State.onMbox_toPeer : (s.onMbox f).toPeer = s.toPeer := rfl
@[simp] theorem State.onMbox_mgmt : (s.onMbox f).mgmt = s.mgmt := rfl
@[simp] theorem State.onMbox_secs : (s.onMbox f).secs = s.secs := rfl

end

/-! ### onMgmt -/

section
variable (s : State) (f : Mgmt → Mgmt)

@[simp] theorem State.onMgmt_pending : (s.onMgmt f).pending = s.pending := rfl
@[simp] theorem State.onMgmt_gtc : (s.onMgmt f).gtc = s.gtc := rfl
@[simp] theorem State.onMgmt_gtcRun : (s.onMgmt f).gtcRun = s.gtcRun := rfl
@[simp] theorem State.onMgmt_free : (s.onMgmt f).free = s.free := rfl
@[simp] theorem State.onMgmt_regs : (s.onMgmt f).regs = s.regs := rfl
@[simp] theorem State.onMgmt_hiLatch : (s.onMgmt f).hiLatch = s.hiLatch := rfl
@[simp] theorem State.onMgmt_lastRead : (s.onMgmt f).lastRead = s.lastRead := rfl
@[simp] theorem State.onMgmt_irqs : (s.onMgmt f).irqs = s.irqs := rfl
@[simp] theorem State.onMgmt_toHost : (s.onMgmt f).toHost = s.toHost := rfl
@[simp] theorem State.onMgmt_dram : (s.onMgmt f).dram = s.dram := rfl
@[simp] theorem State.onMgmt_dramSyn : (s.onMgmt f).dramSyn = s.dramSyn := rfl
@[simp] theorem State.onMgmt_sram : (s.onMgmt f).sram = s.sram := rfl
@[simp] theorem State.onMgmt_ccSram : (s.onMgmt f).ccSram = s.ccSram := rfl
@[simp] theorem State.onMgmt_store : (s.onMgmt f).store = s.store := rfl
@[simp] theorem State.onMgmt_pass : (s.onMgmt f).pass = s.pass := rfl
@[simp] theorem State.onMgmt_sump : (s.onMgmt f).sump = s.sump := rfl
@[simp] theorem State.onMgmt_maon : (s.onMgmt f).maon = s.maon := rfl
@[simp] theorem State.onMgmt_buf : (s.onMgmt f).buf = s.buf := rfl
@[simp] theorem State.onMgmt_pwr : (s.onMgmt f).pwr = s.pwr := rfl
@[simp] theorem State.onMgmt_leM : (s.onMgmt f).leM = s.leM := rfl
@[simp] theorem State.onMgmt_leSh : (s.onMgmt f).leSh = s.leSh := rfl
@[simp] theorem State.onMgmt_spin : (s.onMgmt f).spin = s.spin := rfl
@[simp] theorem State.onMgmt_flow : (s.onMgmt f).flow = s.flow := rfl
@[simp] theorem State.onMgmt_mtr : (s.onMgmt f).mtr = s.mtr := rfl
@[simp] theorem State.onMgmt_qeng : (s.onMgmt f).qeng = s.qeng := rfl
@[simp] theorem State.onMgmt_mapc : (s.onMgmt f).mapc = s.mapc := rfl
@[simp] theorem State.onMgmt_lastData : (s.onMgmt f).lastData = s.lastData := rfl
@[simp] theorem State.onMgmt_sqz : (s.onMgmt f).sqz = s.sqz := rfl
@[simp] theorem State.onMgmt_aes : (s.onMgmt f).aes = s.aes := rfl
@[simp] theorem State.onMgmt_cryp : (s.onMgmt f).cryp = s.cryp := rfl
@[simp] theorem State.onMgmt_fuses : (s.onMgmt f).fuses = s.fuses := rfl
@[simp] theorem State.onMgmt_mbox : (s.onMgmt f).mbox = s.mbox := rfl
@[simp] theorem State.onMgmt_rope : (s.onMgmt f).rope = s.rope := rfl
@[simp] theorem State.onMgmt_toPeer : (s.onMgmt f).toPeer = s.toPeer := rfl
@[simp] theorem State.onMgmt_mgmt : (s.onMgmt f).mgmt = f s.mgmt := rfl
@[simp] theorem State.onMgmt_secs : (s.onMgmt f).secs = s.secs := rfl

end

/-! ### onRope -/

section
variable (s : State) (f : RopeSt → RopeSt)

@[simp] theorem State.onRope_pending : (s.onRope f).pending = s.pending := rfl
@[simp] theorem State.onRope_gtc : (s.onRope f).gtc = s.gtc := rfl
@[simp] theorem State.onRope_gtcRun : (s.onRope f).gtcRun = s.gtcRun := rfl
@[simp] theorem State.onRope_free : (s.onRope f).free = s.free := rfl
@[simp] theorem State.onRope_regs : (s.onRope f).regs = s.regs := rfl
@[simp] theorem State.onRope_hiLatch : (s.onRope f).hiLatch = s.hiLatch := rfl
@[simp] theorem State.onRope_lastRead : (s.onRope f).lastRead = s.lastRead := rfl
@[simp] theorem State.onRope_irqs : (s.onRope f).irqs = s.irqs := rfl
@[simp] theorem State.onRope_toHost : (s.onRope f).toHost = s.toHost := rfl
@[simp] theorem State.onRope_dram : (s.onRope f).dram = s.dram := rfl
@[simp] theorem State.onRope_dramSyn : (s.onRope f).dramSyn = s.dramSyn := rfl
@[simp] theorem State.onRope_sram : (s.onRope f).sram = s.sram := rfl
@[simp] theorem State.onRope_ccSram : (s.onRope f).ccSram = s.ccSram := rfl
@[simp] theorem State.onRope_store : (s.onRope f).store = s.store := rfl
@[simp] theorem State.onRope_pass : (s.onRope f).pass = s.pass := rfl
@[simp] theorem State.onRope_sump : (s.onRope f).sump = s.sump := rfl
@[simp] theorem State.onRope_maon : (s.onRope f).maon = s.maon := rfl
@[simp] theorem State.onRope_buf : (s.onRope f).buf = s.buf := rfl
@[simp] theorem State.onRope_pwr : (s.onRope f).pwr = s.pwr := rfl
@[simp] theorem State.onRope_leM : (s.onRope f).leM = s.leM := rfl
@[simp] theorem State.onRope_leSh : (s.onRope f).leSh = s.leSh := rfl
@[simp] theorem State.onRope_spin : (s.onRope f).spin = s.spin := rfl
@[simp] theorem State.onRope_flow : (s.onRope f).flow = s.flow := rfl
@[simp] theorem State.onRope_mtr : (s.onRope f).mtr = s.mtr := rfl
@[simp] theorem State.onRope_qeng : (s.onRope f).qeng = s.qeng := rfl
@[simp] theorem State.onRope_mapc : (s.onRope f).mapc = s.mapc := rfl
@[simp] theorem State.onRope_lastData : (s.onRope f).lastData = s.lastData := rfl
@[simp] theorem State.onRope_sqz : (s.onRope f).sqz = s.sqz := rfl
@[simp] theorem State.onRope_aes : (s.onRope f).aes = s.aes := rfl
@[simp] theorem State.onRope_cryp : (s.onRope f).cryp = s.cryp := rfl
@[simp] theorem State.onRope_fuses : (s.onRope f).fuses = s.fuses := rfl
@[simp] theorem State.onRope_mbox : (s.onRope f).mbox = s.mbox := rfl
@[simp] theorem State.onRope_rope : (s.onRope f).rope = f s.rope := rfl
@[simp] theorem State.onRope_toPeer : (s.onRope f).toPeer = s.toPeer := rfl
@[simp] theorem State.onRope_mgmt : (s.onRope f).mgmt = s.mgmt := rfl
@[simp] theorem State.onRope_secs : (s.onRope f).secs = s.secs := rfl

end

/-! ### onQeng -/

section
variable (s : State) (f : Qeng → Qeng)

@[simp] theorem State.onQeng_pending : (s.onQeng f).pending = s.pending := rfl
@[simp] theorem State.onQeng_gtc : (s.onQeng f).gtc = s.gtc := rfl
@[simp] theorem State.onQeng_gtcRun : (s.onQeng f).gtcRun = s.gtcRun := rfl
@[simp] theorem State.onQeng_free : (s.onQeng f).free = s.free := rfl
@[simp] theorem State.onQeng_regs : (s.onQeng f).regs = s.regs := rfl
@[simp] theorem State.onQeng_hiLatch : (s.onQeng f).hiLatch = s.hiLatch := rfl
@[simp] theorem State.onQeng_lastRead : (s.onQeng f).lastRead = s.lastRead := rfl
@[simp] theorem State.onQeng_irqs : (s.onQeng f).irqs = s.irqs := rfl
@[simp] theorem State.onQeng_toHost : (s.onQeng f).toHost = s.toHost := rfl
@[simp] theorem State.onQeng_dram : (s.onQeng f).dram = s.dram := rfl
@[simp] theorem State.onQeng_dramSyn : (s.onQeng f).dramSyn = s.dramSyn := rfl
@[simp] theorem State.onQeng_sram : (s.onQeng f).sram = s.sram := rfl
@[simp] theorem State.onQeng_ccSram : (s.onQeng f).ccSram = s.ccSram := rfl
@[simp] theorem State.onQeng_store : (s.onQeng f).store = s.store := rfl
@[simp] theorem State.onQeng_pass : (s.onQeng f).pass = s.pass := rfl
@[simp] theorem State.onQeng_sump : (s.onQeng f).sump = s.sump := rfl
@[simp] theorem State.onQeng_maon : (s.onQeng f).maon = s.maon := rfl
@[simp] theorem State.onQeng_buf : (s.onQeng f).buf = s.buf := rfl
@[simp] theorem State.onQeng_pwr : (s.onQeng f).pwr = s.pwr := rfl
@[simp] theorem State.onQeng_leM : (s.onQeng f).leM = s.leM := rfl
@[simp] theorem State.onQeng_leSh : (s.onQeng f).leSh = s.leSh := rfl
@[simp] theorem State.onQeng_spin : (s.onQeng f).spin = s.spin := rfl
@[simp] theorem State.onQeng_flow : (s.onQeng f).flow = s.flow := rfl
@[simp] theorem State.onQeng_mtr : (s.onQeng f).mtr = s.mtr := rfl
@[simp] theorem State.onQeng_qeng : (s.onQeng f).qeng = f s.qeng := rfl
@[simp] theorem State.onQeng_mapc : (s.onQeng f).mapc = s.mapc := rfl
@[simp] theorem State.onQeng_lastData : (s.onQeng f).lastData = s.lastData := rfl
@[simp] theorem State.onQeng_sqz : (s.onQeng f).sqz = s.sqz := rfl
@[simp] theorem State.onQeng_aes : (s.onQeng f).aes = s.aes := rfl
@[simp] theorem State.onQeng_cryp : (s.onQeng f).cryp = s.cryp := rfl
@[simp] theorem State.onQeng_fuses : (s.onQeng f).fuses = s.fuses := rfl
@[simp] theorem State.onQeng_mbox : (s.onQeng f).mbox = s.mbox := rfl
@[simp] theorem State.onQeng_rope : (s.onQeng f).rope = s.rope := rfl
@[simp] theorem State.onQeng_toPeer : (s.onQeng f).toPeer = s.toPeer := rfl
@[simp] theorem State.onQeng_mgmt : (s.onQeng f).mgmt = s.mgmt := rfl
@[simp] theorem State.onQeng_secs : (s.onQeng f).secs = s.secs := rfl

end

/-! ### onCryp -/

section
variable (s : State) (f : Cryp → Cryp)

@[simp] theorem State.onCryp_pending : (s.onCryp f).pending = s.pending := rfl
@[simp] theorem State.onCryp_gtc : (s.onCryp f).gtc = s.gtc := rfl
@[simp] theorem State.onCryp_gtcRun : (s.onCryp f).gtcRun = s.gtcRun := rfl
@[simp] theorem State.onCryp_free : (s.onCryp f).free = s.free := rfl
@[simp] theorem State.onCryp_regs : (s.onCryp f).regs = s.regs := rfl
@[simp] theorem State.onCryp_hiLatch : (s.onCryp f).hiLatch = s.hiLatch := rfl
@[simp] theorem State.onCryp_lastRead : (s.onCryp f).lastRead = s.lastRead := rfl
@[simp] theorem State.onCryp_irqs : (s.onCryp f).irqs = s.irqs := rfl
@[simp] theorem State.onCryp_toHost : (s.onCryp f).toHost = s.toHost := rfl
@[simp] theorem State.onCryp_dram : (s.onCryp f).dram = s.dram := rfl
@[simp] theorem State.onCryp_dramSyn : (s.onCryp f).dramSyn = s.dramSyn := rfl
@[simp] theorem State.onCryp_sram : (s.onCryp f).sram = s.sram := rfl
@[simp] theorem State.onCryp_ccSram : (s.onCryp f).ccSram = s.ccSram := rfl
@[simp] theorem State.onCryp_store : (s.onCryp f).store = s.store := rfl
@[simp] theorem State.onCryp_pass : (s.onCryp f).pass = s.pass := rfl
@[simp] theorem State.onCryp_sump : (s.onCryp f).sump = s.sump := rfl
@[simp] theorem State.onCryp_maon : (s.onCryp f).maon = s.maon := rfl
@[simp] theorem State.onCryp_buf : (s.onCryp f).buf = s.buf := rfl
@[simp] theorem State.onCryp_pwr : (s.onCryp f).pwr = s.pwr := rfl
@[simp] theorem State.onCryp_leM : (s.onCryp f).leM = s.leM := rfl
@[simp] theorem State.onCryp_leSh : (s.onCryp f).leSh = s.leSh := rfl
@[simp] theorem State.onCryp_spin : (s.onCryp f).spin = s.spin := rfl
@[simp] theorem State.onCryp_flow : (s.onCryp f).flow = s.flow := rfl
@[simp] theorem State.onCryp_mtr : (s.onCryp f).mtr = s.mtr := rfl
@[simp] theorem State.onCryp_qeng : (s.onCryp f).qeng = s.qeng := rfl
@[simp] theorem State.onCryp_mapc : (s.onCryp f).mapc = s.mapc := rfl
@[simp] theorem State.onCryp_lastData : (s.onCryp f).lastData = s.lastData := rfl
@[simp] theorem State.onCryp_sqz : (s.onCryp f).sqz = s.sqz := rfl
@[simp] theorem State.onCryp_aes : (s.onCryp f).aes = s.aes := rfl
@[simp] theorem State.onCryp_cryp : (s.onCryp f).cryp = f s.cryp := rfl
@[simp] theorem State.onCryp_fuses : (s.onCryp f).fuses = s.fuses := rfl
@[simp] theorem State.onCryp_mbox : (s.onCryp f).mbox = s.mbox := rfl
@[simp] theorem State.onCryp_rope : (s.onCryp f).rope = s.rope := rfl
@[simp] theorem State.onCryp_toPeer : (s.onCryp f).toPeer = s.toPeer := rfl
@[simp] theorem State.onCryp_mgmt : (s.onCryp f).mgmt = s.mgmt := rfl
@[simp] theorem State.onCryp_secs : (s.onCryp f).secs = s.secs := rfl

end

/-! ### onMtr -/

section
variable (s : State) (f : Mtr → Mtr)

@[simp] theorem State.onMtr_pending : (s.onMtr f).pending = s.pending := rfl
@[simp] theorem State.onMtr_gtc : (s.onMtr f).gtc = s.gtc := rfl
@[simp] theorem State.onMtr_gtcRun : (s.onMtr f).gtcRun = s.gtcRun := rfl
@[simp] theorem State.onMtr_free : (s.onMtr f).free = s.free := rfl
@[simp] theorem State.onMtr_regs : (s.onMtr f).regs = s.regs := rfl
@[simp] theorem State.onMtr_hiLatch : (s.onMtr f).hiLatch = s.hiLatch := rfl
@[simp] theorem State.onMtr_lastRead : (s.onMtr f).lastRead = s.lastRead := rfl
@[simp] theorem State.onMtr_irqs : (s.onMtr f).irqs = s.irqs := rfl
@[simp] theorem State.onMtr_toHost : (s.onMtr f).toHost = s.toHost := rfl
@[simp] theorem State.onMtr_dram : (s.onMtr f).dram = s.dram := rfl
@[simp] theorem State.onMtr_dramSyn : (s.onMtr f).dramSyn = s.dramSyn := rfl
@[simp] theorem State.onMtr_sram : (s.onMtr f).sram = s.sram := rfl
@[simp] theorem State.onMtr_ccSram : (s.onMtr f).ccSram = s.ccSram := rfl
@[simp] theorem State.onMtr_store : (s.onMtr f).store = s.store := rfl
@[simp] theorem State.onMtr_pass : (s.onMtr f).pass = s.pass := rfl
@[simp] theorem State.onMtr_sump : (s.onMtr f).sump = s.sump := rfl
@[simp] theorem State.onMtr_maon : (s.onMtr f).maon = s.maon := rfl
@[simp] theorem State.onMtr_buf : (s.onMtr f).buf = s.buf := rfl
@[simp] theorem State.onMtr_pwr : (s.onMtr f).pwr = s.pwr := rfl
@[simp] theorem State.onMtr_leM : (s.onMtr f).leM = s.leM := rfl
@[simp] theorem State.onMtr_leSh : (s.onMtr f).leSh = s.leSh := rfl
@[simp] theorem State.onMtr_spin : (s.onMtr f).spin = s.spin := rfl
@[simp] theorem State.onMtr_flow : (s.onMtr f).flow = s.flow := rfl
@[simp] theorem State.onMtr_mtr : (s.onMtr f).mtr = f s.mtr := rfl
@[simp] theorem State.onMtr_qeng : (s.onMtr f).qeng = s.qeng := rfl
@[simp] theorem State.onMtr_mapc : (s.onMtr f).mapc = s.mapc := rfl
@[simp] theorem State.onMtr_lastData : (s.onMtr f).lastData = s.lastData := rfl
@[simp] theorem State.onMtr_sqz : (s.onMtr f).sqz = s.sqz := rfl
@[simp] theorem State.onMtr_aes : (s.onMtr f).aes = s.aes := rfl
@[simp] theorem State.onMtr_cryp : (s.onMtr f).cryp = s.cryp := rfl
@[simp] theorem State.onMtr_fuses : (s.onMtr f).fuses = s.fuses := rfl
@[simp] theorem State.onMtr_mbox : (s.onMtr f).mbox = s.mbox := rfl
@[simp] theorem State.onMtr_rope : (s.onMtr f).rope = s.rope := rfl
@[simp] theorem State.onMtr_toPeer : (s.onMtr f).toPeer = s.toPeer := rfl
@[simp] theorem State.onMtr_mgmt : (s.onMtr f).mgmt = s.mgmt := rfl
@[simp] theorem State.onMtr_secs : (s.onMtr f).secs = s.secs := rfl

end

/-! ### setCap -/

section
variable (s : State) (g : Nat) (c : Cap)

@[simp] theorem State.setCap_pending : (s.setCap g c).pending = s.pending := rfl
@[simp] theorem State.setCap_gtc : (s.setCap g c).gtc = s.gtc := rfl
@[simp] theorem State.setCap_gtcRun : (s.setCap g c).gtcRun = s.gtcRun := rfl
@[simp] theorem State.setCap_free : (s.setCap g c).free = s.free := rfl
@[simp] theorem State.setCap_regs : (s.setCap g c).regs = s.regs := rfl
@[simp] theorem State.setCap_hiLatch : (s.setCap g c).hiLatch = s.hiLatch := rfl
@[simp] theorem State.setCap_lastRead : (s.setCap g c).lastRead = s.lastRead := rfl
@[simp] theorem State.setCap_irqs : (s.setCap g c).irqs = s.irqs := rfl
@[simp] theorem State.setCap_toHost : (s.setCap g c).toHost = s.toHost := rfl
@[simp] theorem State.setCap_dram : (s.setCap g c).dram = s.dram := rfl
@[simp] theorem State.setCap_dramSyn : (s.setCap g c).dramSyn = s.dramSyn := rfl
@[simp] theorem State.setCap_sram : (s.setCap g c).sram = s.sram := rfl
@[simp] theorem State.setCap_ccSram : (s.setCap g c).ccSram = s.ccSram := rfl
@[simp] theorem State.setCap_store : (s.setCap g c).store = s.store := rfl
@[simp] theorem State.setCap_pass : (s.setCap g c).pass = s.pass := rfl
@[simp] theorem State.setCap_sump : (s.setCap g c).sump = s.sump := rfl
@[simp] theorem State.setCap_maon : (s.setCap g c).maon = s.maon := rfl
@[simp] theorem State.setCap_buf : (s.setCap g c).buf = s.buf := rfl
@[simp] theorem State.setCap_pwr : (s.setCap g c).pwr = s.pwr := rfl
@[simp] theorem State.setCap_leM : (s.setCap g c).leM = s.leM := rfl
@[simp] theorem State.setCap_leSh : (s.setCap g c).leSh = s.leSh := rfl
@[simp] theorem State.setCap_spin : (s.setCap g c).spin = s.spin := rfl
@[simp] theorem State.setCap_flow : (s.setCap g c).flow = s.flow := rfl
@[simp] theorem State.setCap_qeng : (s.setCap g c).qeng = s.qeng := rfl
@[simp] theorem State.setCap_mapc : (s.setCap g c).mapc = s.mapc := rfl
@[simp] theorem State.setCap_lastData : (s.setCap g c).lastData = s.lastData := rfl
@[simp] theorem State.setCap_sqz : (s.setCap g c).sqz = s.sqz := rfl
@[simp] theorem State.setCap_aes : (s.setCap g c).aes = s.aes := rfl
@[simp] theorem State.setCap_cryp : (s.setCap g c).cryp = s.cryp := rfl
@[simp] theorem State.setCap_fuses : (s.setCap g c).fuses = s.fuses := rfl
@[simp] theorem State.setCap_mbox : (s.setCap g c).mbox = s.mbox := rfl
@[simp] theorem State.setCap_rope : (s.setCap g c).rope = s.rope := rfl
@[simp] theorem State.setCap_toPeer : (s.setCap g c).toPeer = s.toPeer := rfl
@[simp] theorem State.setCap_mgmt : (s.setCap g c).mgmt = s.mgmt := rfl
@[simp] theorem State.setCap_secs : (s.setCap g c).secs = s.secs := rfl

end

/-! ### setPort -/

section
variable (s : State) (p : Port) (x : HostPort)

@[simp] theorem State.setPort_pending : (s.setPort p x).pending = s.pending := rfl
@[simp] theorem State.setPort_gtc : (s.setPort p x).gtc = s.gtc := rfl
@[simp] theorem State.setPort_gtcRun : (s.setPort p x).gtcRun = s.gtcRun := rfl
@[simp] theorem State.setPort_free : (s.setPort p x).free = s.free := rfl
@[simp] theorem State.setPort_regs : (s.setPort p x).regs = s.regs := rfl
@[simp] theorem State.setPort_hiLatch : (s.setPort p x).hiLatch = s.hiLatch := rfl
@[simp] theorem State.setPort_lastRead : (s.setPort p x).lastRead = s.lastRead := rfl
@[simp] theorem State.setPort_irqs : (s.setPort p x).irqs = s.irqs := rfl
@[simp] theorem State.setPort_toHost : (s.setPort p x).toHost = s.toHost := rfl
@[simp] theorem State.setPort_dram : (s.setPort p x).dram = s.dram := rfl
@[simp] theorem State.setPort_dramSyn : (s.setPort p x).dramSyn = s.dramSyn := rfl
@[simp] theorem State.setPort_sram : (s.setPort p x).sram = s.sram := rfl
@[simp] theorem State.setPort_ccSram : (s.setPort p x).ccSram = s.ccSram := rfl
@[simp] theorem State.setPort_store : (s.setPort p x).store = s.store := rfl
@[simp] theorem State.setPort_pass : (s.setPort p x).pass = s.pass := rfl
@[simp] theorem State.setPort_sump : (s.setPort p x).sump = s.sump := rfl
@[simp] theorem State.setPort_maon : (s.setPort p x).maon = s.maon := rfl
@[simp] theorem State.setPort_buf : (s.setPort p x).buf = s.buf := rfl
@[simp] theorem State.setPort_pwr : (s.setPort p x).pwr = s.pwr := rfl
@[simp] theorem State.setPort_leM : (s.setPort p x).leM = s.leM := rfl
@[simp] theorem State.setPort_leSh : (s.setPort p x).leSh = s.leSh := rfl
@[simp] theorem State.setPort_spin : (s.setPort p x).spin = s.spin := rfl
@[simp] theorem State.setPort_flow : (s.setPort p x).flow = s.flow := rfl
@[simp] theorem State.setPort_mtr : (s.setPort p x).mtr = s.mtr := rfl
@[simp] theorem State.setPort_mapc : (s.setPort p x).mapc = s.mapc := rfl
@[simp] theorem State.setPort_lastData : (s.setPort p x).lastData = s.lastData := rfl
@[simp] theorem State.setPort_sqz : (s.setPort p x).sqz = s.sqz := rfl
@[simp] theorem State.setPort_aes : (s.setPort p x).aes = s.aes := rfl
@[simp] theorem State.setPort_cryp : (s.setPort p x).cryp = s.cryp := rfl
@[simp] theorem State.setPort_fuses : (s.setPort p x).fuses = s.fuses := rfl
@[simp] theorem State.setPort_mbox : (s.setPort p x).mbox = s.mbox := rfl
@[simp] theorem State.setPort_rope : (s.setPort p x).rope = s.rope := rfl
@[simp] theorem State.setPort_toPeer : (s.setPort p x).toPeer = s.toPeer := rfl
@[simp] theorem State.setPort_mgmt : (s.setPort p x).mgmt = s.mgmt := rfl
@[simp] theorem State.setPort_secs : (s.setPort p x).secs = s.secs := rfl

end

end Sys2Proof.Machine
end

