-- ==== Sys2Proof/Laws/Frame.lean ====
section
/-! SUPPORT. What the operations that nearly every command passes through can do: counters and triggers (R411, R422), the passage of
time (R8), fault messages (R391), register writes (R12, R26, R31, R433). A proof cites these in place of unfolding them. -/

namespace Sys2Proof.Machine

open Sys2Proof

/-! ### Counters, triggers, time: they set registers, raise interrupts and change Flowstone's state, and nothing else -/

/-- A property that register writes, interrupts and changes of Flowstone's state keep. -/
structure Quiet (P : State → Prop) : Prop where
  setReg : ∀ s a v, P s → P (s.setReg a v)
  irq : ∀ s x c, P s → P (s.irq x c)
  flow : ∀ (s : State) f, P s → P { s with flow := f }

variable {P : State → Prop}

theorem Quiet.flowFire (h : Quiet P) (s : State) (d src g i0 i1 : Nat) (hs : P s) : P (s.flowFire d src g i0 i1) := by
  unfold State.flowFire
  split
  · exact h.setReg _ _ _ hs
  · have h1 : P (if bitOf (s.flowW0 d) 3 then s.setFld (R.FLOW_DEF_W0 d) 0 0 0 else s) := by
      split
      · exact h.setReg _ _ _ hs
      · exact hs
    have key : ∀ x : State, P x → P (if x.flow.fifo.length < 16 then
        { x with flow := { x.flow with fifo := x.flow.fifo ++ [⟨d, src, g, i0, i1⟩] } }
      else { x.bump R.FLOW_CNT_MISSED with flow := { x.flow with missed := satU 16 (x.flow.missed + 1) } }) := by
      intro x hx
      split
      · exact h.flow _ _ hx
      · exact h.flow _ _ (h.setReg _ _ _ hx)
    exact key _ h1

theorem Quiet.flowFireAll (h : Quiet P) (f : State → Nat → Bool) (src g i0 i1 : Nat) :
    ∀ (l : List Nat) (s : State), P s → P (s.flowFireAll f src g i0 i1 l)
  | [], _, hs => hs
  | d :: r, s, hs => by
    unfold State.flowFireAll
    refine Quiet.flowFireAll h f src g i0 i1 r _ ?_
    split
    · exact h.flowFire s d src g i0 i1 hs
    · exact hs

theorem Quiet.flowCounter (h : Quiet P) (s : State) (n : Nat) (hs : P s) : P (s.flowCounter n) := by
  unfold State.flowCounter
  split
  · exact h.flowFireAll _ _ _ _ _ _ _ hs
  · exact hs

theorem Quiet.flowFault (h : Quiet P) (s : State) (src kind addr : Nat) (hs : P s) : P (s.flowFault src kind addr) := by
  unfold State.flowFault
  split
  · exact h.flowFireAll _ _ _ _ _ _ _ hs
  · exact hs

theorem Quiet.flowSw (h : Quiet P) (s : State) (d : Nat) (hs : P s) : P (s.flowSw d) := by
  unfold State.flowSw
  split
  · exact h.flowFireAll _ _ _ _ _ _ _ hs
  · exact hs

theorem Quiet.flowSnapshot (h : Quiet P) (s : State) (d g ang atb rev : Nat) (hs : P s) : P (s.flowSnapshot d g ang atb rev) := by
  unfold State.flowSnapshot
  split
  · exact h.flowFireAll _ _ _ _ _ _ _ hs
  · exact hs

theorem Quiet.pmuReport (h : Quiet P) (s : State) (n : Nat) (hs : P s) : P (s.pmuReport n) := by
  unfold State.pmuReport
  have h1 : P (s.setBit (R.PMU_OVF (n / 32)) (n % 32) true) := h.setReg _ _ _ hs
  simp only
  refine h.flowCounter _ n ?_
  split
  · exact h.irq _ _ _ h1
  · exact h1

theorem Quiet.pmuOverflow (h : Quiet P) (s : State) (n : Nat) (hs : P s) : P (s.pmuOverflow n) := by
  unfold State.pmuOverflow
  split
  · split
    · simp only
      have h1 := h.setReg _ (R.PMU_CNT_HI (n + 1)) ((s.pmuCnt (n + 1) + 1) % 2 ^ 48 / 2 ^ 32 % 2 ^ 32)
        (h.setReg _ (R.PMU_CNT_LO (n + 1)) ((s.pmuCnt (n + 1) + 1) % 2 ^ 48 % 2 ^ 32) hs)
      split
      · exact h.pmuReport _ _ h1
      · exact h1
    · exact hs
  · exact h.pmuReport _ _ hs

theorem Quiet.pmuInc (h : Quiet P) (s : State) (n k : Nat) (hs : P s) : P (s.pmuInc n k) := by
  unfold State.pmuInc
  simp only
  have h1 := h.setReg _ (R.PMU_CNT_HI n) ((s.pmuCnt n + k) % 2 ^ 48 / 2 ^ 32 % 2 ^ 32)
    (h.setReg _ (R.PMU_CNT_LO n) ((s.pmuCnt n + k) % 2 ^ 48 % 2 ^ 32) hs)
  split
  · exact h.pmuOverflow _ _ h1
  · exact h1

theorem Quiet.pmuAddAll (h : Quiet P) (f : Nat → Nat) : ∀ (l : List (Nat × Nat)) (s : State), P s → P (s.pmuAddAll f l)
  | [], _, hs => hs
  | (n, ev) :: r, s, hs => by
    unfold State.pmuAddAll
    simp only
    refine Quiet.pmuAddAll h f r _ ?_
    split
    · exact hs
    · exact h.pmuInc _ _ _ hs

/-- A counted event sets counter registers, may raise the overflow interrupt and may fire triggers; it does no more. -/
theorem Quiet.pmuH (h : Quiet P) (s : State) (ev k : Nat) (hs : P s) : P (s.pmuH ev k) := by
  unfold State.pmuH
  split
  · exact hs
  · split
    · exact h.pmuAddAll _ _ _ hs
    · exact hs

theorem Quiet.pmuM (h : Quiet P) (s : State) (ev : Nat) (hs : P s) : P (s.pmuM ev) := by
  unfold State.pmuM
  have h1 : P (if spGet 0 s.flow.msums ev = 65535 then s.setBit R.PMU_STATUS 2 true else s) := by
    split
    · exact h.setReg _ _ _ hs
    · exact hs
  exact h.flow _ _ h1

theorem Quiet.countM (h : Quiet P) (s : State) (a ev : Nat) (hs : P s) : P (s.countM a ev) :=
  h.pmuM _ _ (h.setReg _ _ _ hs)

/-- The passage of time sets the GTC, then counts. -/
theorem Quiet.at (h : Quiet P) (hg : ∀ (s : State) t, P s → P { s with gtc := t }) (s : State) (t : Nat) (hs : P s) : P (s.at t) := by
  unfold State.at
  split
  · simp only
    split
    · exact hg _ _ hs
    · split
      · exact h.pmuAddAll _ _ _ (hg _ _ hs)
      · exact hg _ _ hs
  · exact hs

/-- A field beside the register file, the interrupts and Flowstone's state is quiet. -/
theorem Quiet.of_field {α : Type} (g : State → α) (h1 : ∀ s a v, g (s.setReg a v) = g s) (h2 : ∀ s x c, g (s.irq x c) = g s)
    (h3 : ∀ (s : State) f, g { s with flow := f } = g s) (x : α) : Quiet (fun s => g s = x) :=
  ⟨fun s a v h => (h1 s a v).trans h, fun s y c h => (h2 s y c).trans h, fun s f h => (h3 s f).trans h⟩

theorem Quiet.canon : Quiet (fun s => s.canon = true) :=
  ⟨fun s a v h => State.canon_setReg s a v h, fun _ _ _ h => h, fun _ _ h => h⟩

theorem State.canon_at (s : State) (t : Nat) (h : s.canon = true) : (s.at t).canon = true := Quiet.canon.at (fun _ _ h => h) s t h

theorem State.canon_pmuH (s : State) (ev k : Nat) (h : s.canon = true) : (s.pmuH ev k).canon = true := Quiet.canon.pmuH s ev k h

theorem State.canon_sendFault (s : State) (src kind addr : Nat) : (s.sendFault src kind addr).canon = s.canon := rfl

/-! ### Register writes -/

/-- A write reaches its effect exactly where `takesWrite` says so. -/
theorem State.onReg_takes (s : State) (i : Initiator) (a : Nat) (f : State → State) (h : s.takesWrite i a = true) :
    s.onReg i a f = f s := by
  simp only [State.takesWrite, Bool.and_eq_true, Bool.not_eq_true', Bool.and_eq_false_iff] at h
  obtain ⟨⟨h1, h2⟩, h3⟩ := h
  unfold State.onReg State.onWrite
  rw [if_neg, if_neg, if_pos h3]
  · simp [h2]
  · rintro ⟨hm, hl⟩
    rcases h1 with h1 | h1
    · rw [h1] at hm; cases hm
    · rw [hl] at h1; cases h1

/-- Elsewhere it changes nothing but the fault message that PASSH or PWR sends. -/
theorem State.onReg_refused (s : State) (i : Initiator) (a : Nat) (f : State → State) (h : s.takesWrite i a = false) :
    s.onReg i a f = s.sendFault 208 kTIMEOUT a ∨ s.onReg i a f = s.protocol 0 0 ∨ s.onReg i a f = s := by
  unfold State.onReg State.onWrite
  split
  · exact .inl rfl
  · rename_i h1
    split
    · exact .inr (.inl rfl)
    · rename_i h2
      split
      · rename_i h3
        exfalso
        have hm : (inMWindow a && !s.linkUp) = false := by
          cases hw : inMWindow a <;> cases hl : s.linkUp <;> simp_all
        have ha : s.addrOn a = true := by simpa using h2
        simp [State.takesWrite, hm, ha, h3] at h
      · exact .inr (.inr rfl)

/-- Every property that the effect and a fault message keep is kept by the write. -/
theorem State.onReg_keeps (P : State → Prop) (s : State) (i : Initiator) (a : Nat) (f : State → State) (hs : P s) (hf : P (f s))
    (hm : ∀ src kind addr, P (s.sendFault src kind addr)) : P (s.onReg i a f) := by
  unfold State.onReg State.onWrite
  split
  · exact hm _ _ _
  · split
    · exact hm _ _ _
    · split
      · exact hf
      · exact hs

end Sys2Proof.Machine
end

