-- ==== Sys2Proof/WellFormed.lean ====
section
/-! DEFINITION. Well-formed commands: operands inside the ranges the spec gives them. A meaning does not rely on it: `exec` is total. -/

namespace Sys2Proof

/-- A raw angle is valid in the range 0 to 25,165,823 (R9). -/
def angOk (ang : Nat) : Bool := ang < 25165824

/-- Bytes of an information block (R89). -/
def infoBytes : Nat := 4224

/-- Mark scores lie inside the widest search window, and no correlation exceeds the sync word (R113). -/
def scoresOk (scores : List (Int × Nat)) : Bool := scores.all (fun p => p.1.natAbs ≤ 15 && p.2 ≤ 64)

/-- A core's access moves 1 to 8 bytes (R296). -/
def coreOpOk : CoreOp → Bool
  | .load n => 1 ≤ n && n ≤ 8
  | .store b => 1 ≤ b.length && b.length ≤ 8
  | .atomic b => 1 ≤ b.length && b.length ≤ 8

/-- The recorder has three memories: definitions, list, ring (R419). -/
def flowCheckOk : FlowCheck → Bool
  | .clean => true
  | .corrected => true
  | .uncorrectable mem _ => mem.val < 3

/-- The operands of a command are inside the spec's ranges. -/
def Instr.wf : Instr → Bool
  | .registerWrite _ _ addr nbytes _ => decide (1 ≤ nbytes ∧ nbytes ≤ 4 ∧ addr < 2 ^ 64)
  | .registerReadClear _ _ addr nbytes => decide (1 ≤ nbytes ∧ nbytes ≤ 8 ∧ addr < 2 ^ 64)
  | .loRead _ _ addr => decide (addr < 2 ^ 64)
  | .unalignedAccess _ _ addr nbytes _ => decide (1 ≤ nbytes ∧ nbytes ≤ 8 ∧ addr < 2 ^ 64)
  | .passageFlitReceive _ _ _ => true
  | .passageLaneLockLoss _ _ _ => true
  | .passageLinkUp _ => true
  | .passageIsolation _ => true
  | .retrain _ _ => true
  | .passageWriteDeliver _ _ => true
  | .passageReadResponse _ _ => true
  | .splitReadTimeout _ _ => true
  | .eventCommit _ _ _ _ => true
  | .eventInsert _ _ ang => angOk ang
  | .atbCancel _ _ _ _ => true
  | .marker _ _ => true
  | .rdOn _ _ => true
  | .rdOff _ _ => true
  | .wrOn _ _ => true
  | .wrOff _ _ => true
  | .fmark _ _ => true
  | .servoWin _ _ => true
  | .assist _ _ => true
  | .snapshot _ _ => true
  | .headSw _ _ => true
  | .setpoint _ _ => true
  | .loopMode _ _ => true
  | .microjog _ _ => true
  | .completionRecordDeliver _ _ _ => true
  | .atbHeadOfsWrite _ _ _ _ _ => true
  | .wedgeResult _ _ ang _ _ _ _ => angOk ang
  | .ledgeLock _ _ => true
  | .holdoverTimeout _ _ => true
  | .positionSample _ _ ang _ _ => angOk ang
  | .codewordArrive _ _ scores => scoresOk scores
  | .decoderIteration _ _ _ blk => decide (blk.length = infoBytes)
  | .fragmentEnd _ _ scores => scoresOk scores
  | .writeMarkTimeout _ _ => true
  | .writeBlockArrive _ _ => true
  | .recStart _ _ _ _ => true
  | .recMediaRead _ _ _ scores0 scores1 => scoresOk scores0 && scoresOk scores1
  | .recDecodeDone _ _ _ k blk => decide (1 ≤ k) && decide (k ≤ 64) && decide (blk.length = infoBytes)
  | .sbufRelease _ _ _ _ => true
  | .sbufDataRead _ _ _ => true
  | .loopSample _ _ _ => true
  | .cplCommit _ _ => true
  | .vcmPwmPeriod _ _ _ _ _ => true
  | .park _ _ _ => true
  | .retractParkCurrent _ _ => true
  | .retractEnd _ _ => true
  | .ocClr _ _ _ => true
  | .halt _ _ _ => true
  | .preCmd _ _ _ _ => true
  | .preampFrameEnd _ _ _ => true
  | .preampFault _ _ => true
  | .shock _ _ _ => true
  | .shockHoldEnd _ _ => true
  | .spinControlCycle _ _ _ _ vbus => decide (vbus < 2 ^ 16)
  | .encoderEdge _ _ _ => true
  | .encIdx _ => true
  | .encoderTimeout _ => true
  | .start _ _ => true
  | .stop _ _ => true
  | .coast _ _ => true
  | .assessProbe _ _ _ _ => true
  | .assessEnd _ => true
  | .alignEnd _ => true
  | .spTgtWrite _ _ _ => true
  | .vbusThreshold _ vbus => decide (vbus < 2 ^ 16)
  | .chopperFault _ => true
  | .chopClr _ _ _ => true
  | .plDone _ _ => true
  | .faultClr _ _ => true
  | .powerLoss _ => true
  | .plTmaxExpiry _ => true
  | .conventionalReset _ _ => true
  | .functionLevelReset _ _ => true
  | .controllerEnable _ _ _ _ _ _ => true
  | .controllerReset _ _ => true
  | .nvmSubsystemReset _ _ _ => true
  | .shutdownNotification _ _ _ => true
  | .doorbellWrite _ _ _ nbytes _ => decide (1 ≤ nbytes ∧ nbytes ≤ 8)
  | .queueCreate _ _ => true
  | .queueDelete _ _ => true
  | .queueRead _ _ => true
  | .fetchDecision _ _ => true
  | .sqFetchComplete _ _ _ entries => decide (∀ e ∈ entries, e.length = 16)
  | .dispatchRecord _ _ => true
  | .completionPost _ _ _ => true
  | .completionCommit _ slot => decide (slot < 1024)
  | .interruptCoalescingTimeout _ _ v => decide (v < 2048)
  | .msixUnmask _ _ v => decide (v < 2048)
  | .abortLookup _ _ _ => true
  | .slotRelease _ _ _ => true
  | .pause _ _ _ _ => true
  | .fetchQuiesced _ _ => true
  | .hold _ _ _ => true
  | .qengDberrPop _ _ => true
  | .transferSubmit _ _ _ _ => true
  | .transferComplete _ _ _ _ blocks => decide (∀ b ∈ blocks, 4096 ≤ b.bytes.length ∧ b.bytes.length ≤ 4112)
  | .opSubmit _ _ _ _ => true
  | .opTake _ _ => true
  | .opSelect _ _ ang => angOk ang
  | .positioningTimeout _ _ => true
  | .schedulerEventLoad _ _ ang => angOk ang
  | .schedulerRecord _ _ => true
  | .opComplete _ _ => true
  | .mschCancel _ _ _ _ => true
  | .quiet _ _ => true
  | .schedulerLinkRecover _ _ => true
  | .mediaDmaReadBlock _ _ => true
  | .mediaDmaWriteBlock _ _ => true
  | .mergeWrite _ _ addr bytes => decide (0x400000000 ≤ addr ∧ addr + bytes.length ≤ 0x600000000 ∧ 1 ≤ bytes.length)
  | .ceWriteBack _ => true
  | .fillGo _ _ _ => true
  | .fillAbort _ _ => true
  | .fillDone _ => true
  | .scrubRead _ => true
  | .initSet _ _ k _ => decide (k < 224)
  | .initClr _ _ _ => true
  | .dtMark _ _ _ => true
  | .dtClean _ _ _ => true
  | .dumpArm _ _ => true
  | .dumpDisarm _ _ => true
  | .test _ _ => true
  | .dumpStart _ => true
  | .dumpDone _ => true
  | .dumpError _ => true
  | .mapcAccess _ _ addr op => decide (0x400000000 ≤ addr ∧ addr < 0x600000000 ∧ coreOpOk op)
  | .mapcFillComplete _ => true
  | .clean _ _ => true
  | .inval _ _ => true
  | .discard _ _ => true
  | .flushAll _ _ => true
  | .preload _ _ _ => true
  | .mapcOpDone _ => true
  | .mapcLock _ _ _ => true
  | .mapcDisable _ _ => true
  | .mapcDisableDone _ => true
  | .mapcEnable _ _ => true
  | .pocketDisable _ _ => true
  | .sqzJobStart _ _ => true
  | .sqzJobEnd _ _ => true
  | .sqzCompletionRecord _ _ => true
  | .sqzRingStopped _ _ => true
  | .ksLoad _ _ _ => true
  | .ksErase _ _ => true
  | .eraseGroup _ _ => true
  | .setOwner _ _ => true
  | .aesJobStart _ _ => true
  | .aesJobEnd _ _ => true
  | .meterCharge _ _ _ => true
  | .epochBoundary _ => true
  | .mtrOriginWrite _ _ _ => true
  | .meterEnable _ _ _ => true
  | .capRefill _ => true
  | .bvEnable _ _ _ _ => true
  | .bvRestart _ _ _ => true
  | .bvSubmit _ _ => true
  | .mailboxRing _ _ _ => true
  | .mailboxComplete _ _ => true
  | .mailboxTimeout _ _ => true
  | .info _ _ => true
  | .status _ _ => true
  | .spinStart _ _ => true
  | .spinStop _ _ => true
  | .spinCoast _ _ => true
  | .spinSpeed _ _ => true
  | .spinCfg _ _ => true
  | .actLoad _ _ => true
  | .loadHandoff _ _ => true
  | .loadTimeout _ _ => true
  | .actUnload _ _ => true
  | .actSeek _ _ => true
  | .actMjog _ _ => true
  | .actOcClr _ _ => true
  | .actParams _ _ => true
  | .ldLedge _ _ => true
  | .ldZone _ _ => true
  | .ldChcal _ _ => true
  | .ldLoop _ _ => true
  | .setPset _ _ => true
  | .setBudget _ _ => true
  | .ldCpl _ _ => true
  | .setPeriod _ _ => true
  | .saveCal _ _ _ => true
  | .grChal _ _ => true
  | .grToken _ _ => true
  | .grReq _ _ => true
  | .grRel _ _ => true
  | .grQuery _ _ => true
  | .xrw _ _ => true
  | .safeEnter _ _ => true
  | .safeExit _ _ => true
  | .fence _ _ => true
  | .unfence _ _ => true
  | .lcGet _ _ => true
  | .lcMove _ _ => true
  | .lcFuseProgram _ _ => true
  | .lcReset _ => true
  | .imgLoad _ _ _ => true
  | .ownGet _ _ => true
  | .ownTake _ _ => true
  | .ownTakeTimeout _ _ => true
  | .ownGive _ _ => true
  | .plReport _ _ => true
  | .grantExpiry _ _ => true
  | .grantExpiryWarn _ _ => true
  | .grantRestore _ _ => true
  | .challengeLapse _ _ => true
  | .positioningLoad _ _ ang => angOk ang
  | .wounserRestart _ => true
  | .mctpPacket _ pkt => decide (pkt.bytes.length < 2 ^ 16)
  | .setEndpointId _ _ => true
  | .getEndpointId _ => true
  | .getEndpointUuid _ => true
  | .getMctpVersionSupport _ => true
  | .getMessageTypeSupport _ => true
  | .readNvmeMiDataStructure _ _ => true
  | .nvmSubsystemHealthStatusPoll _ => true
  | .configurationGet _ _ => true
  | .configurationSet _ _ v => decide (v < 2 ^ 32)
  | .vpdRead _ ofs len => decide (ofs < 2 ^ 32 ∧ len < 2 ^ 32)
  | .vpdWrite _ ofs bytes => decide (ofs < 2 ^ 32 ∧ bytes.length < 2 ^ 32)
  | .nvmeMiReset _ => true
  | .forwardRequest _ bytes => decide (bytes.length < 2 ^ 16)
  | .forwardResponse _ _ _ => true
  | .moreProcessingRequired _ => true
  | .forwardTimeout _ => true
  | .healthUpdate _ _ _ => true
  | .healthStale _ => true
  | .regRead _ ofs len => decide (ofs < 2 ^ 16 ∧ len < 2 ^ 16)
  | .regWrite _ ofs len words => decide (ofs < 2 ^ 16 ∧ len < 2 ^ 16 ∧ words.length < 2 ^ 16)
  | .dataRead _ ofs len => decide (ofs < 2 ^ 16 ∧ len < 2 ^ 16)
  | .dataWrite _ ofs len words => decide (ofs < 2 ^ 16 ∧ len < 2 ^ 16 ∧ words.length < 2 ^ 16)
  | .mbox _ words => decide (words.length < 2 ^ 16)
  | .mboxResponse _ => true
  | .smbusTimeout _ => true
  | .dynamicAddressAssign _ _ => true
  | .cwLock _ _ _ => true
  | .cwLockTimeout _ => true
  | .identify _ _ => true
  | .ssRead _ _ => true
  | .ssWrite _ _ => true
  | .ssErase _ _ => true
  | .imgStage _ _ => true
  | .imgCommit _ _ => true
  | .physRead _ _ => true
  | .driveFirmwareOpcode _ _ _ => true
  | .cwComplete _ _ _ bytes => decide (bytes.length ≤ 4096)
  | .cwTimeout _ => true
  | .cwAbort _ _ => true
  | .cwSvcOn _ _ => true
  | .cwSvcOff _ _ => true
  | .cwFwDone _ _ _ => true
  | .faultAccept _ => true
  | .safeReqN _ => true
  | .safeStateBrake _ => true
  | .configCheck _ => true
  | .sumpMsgHeadRead _ _ => true
  | .sumpMsgPop _ _ => true
  | .errClr _ _ => true
  | .fatalClr _ _ => true
  | .cfgOk _ _ => true
  | .firstClr _ _ => true
  | .injGo _ _ _ => true
  | .injPath _ _ => true
  | .cfgflip _ _ _ => true
  | .flowSwtrig _ _ _ => true
  | .flowRecordStart _ => true
  | .flowRecordEnd _ => true
  | .flowBackgroundCheck _ found => flowCheckOk found
  | .unseal _ _ => true
  | .unsealDone _ => true
  | .flowClear _ _ => true
  | .lwClr _ _ => true
  | .counterOverflow _ _ => true
  | .pmuMdieSums _ => true
  | .snap _ _ => true
  | .mlostClr _ _ => true
  | .pmuDump _ => true
  | .pmuCntRead _ _ _ => true
  | .domainOn _ _ _ _ => true
  | .domainOff _ _ _ _ => true
  | .domainSequenceEnd _ _ => true
  | .powerOnReset _ _ => true
  | .porDeassert _ _ _ _ _ => true
  | .gtcStart _ => true
  | .bootRomStart _ => true
  | .wounserStart _ => true
  | .appRelease _ => true
  | .chip _ _ => true
  | .chipReset _ => true
  | .ccoreReset _ => true
  | .appCoreReset _ _ _ => true
  | .mgmtReset _ _ => true
  | .wdogKick _ _ _ => true
  | .wdogExpiry _ => true
  | .mwdogKick _ _ _ => true
  | .mwdogExpiry _ => true
  | .ssCmdRead _ _ _ => true
  | .program _ _ _ => true
  | .ssCmdErase _ _ _ => true
  | .ssCommandDone _ _ _ => true
  | .progDevid _ _ => true
  | .progOemkey _ _ _ => true
  | .revoke _ _ _ => true
  | .advSvn _ _ _ _ => true
  | .fuseProgramDone _ _ => true
  | .reseed _ _ => true
  | .clrFail _ _ => true
  | .rngStartupTestDone _ _ => true
  | .rngHealthFail _ => true
  | .rngRead _ _ => true
  | .wkLoad _ _ _ => true
  | .wkClear _ _ _ => true
  | .wrap _ _ _ => true
  | .jtagInstruction _ _ => true
  | .ownReqWrite _ _ _ => true
  | .ownGntChange _ _ _ => true
  | .peerSafeNChange _ _ _ => true
  | .ropeFlitReceive _ _ => true
  | .ropeLinkUp _ => true
  | .ropeRetrain _ _ => true
  | .pair _ peer => decide (peer.devid < 2 ^ 128 ∧ peer.lc < 8 ∧ peer.major < 2 ^ 8)
  | .ropeHbKick _ _ _ => true
  | .heartbeatSend _ => true
  | .heartbeatReceive _ => true
  | .heartbeatLoss _ => true
  | .peerSafeReceive _ => true
  | .copy _ _ => true
  | .copyMark _ _ => true
  | .mirrorClean _ _ => true
  | .mirrorComplete _ _ _ _ => true
  | .ropeMessageSend _ _ _ => true
  | .ropeMessageReceive _ _ _ _ _ => true
  | .ropeRxmsgPop _ _ => true
  | .ropeLaneLockLoss _ _ => true
  | .pcieLinkTrained _ _ => true
  | .overtemp _ _ => true
  | .lockstep _ => true
  | .pfltNDeassert _ _ => true
  | .safeReqNDeassert _ => true
  | .tonePhaseLoss _ _ => true
  | .ksDone _ => true
  | .pocketDisableDone _ => true
  | .aesCompletionRecord _ _ => true
  | .meterLogWritten _ => true

end Sys2Proof
end

