-- ==== Sys2Proof/Tests/Slice0.lean ====
section
/-! SUPPORT. The model's own tests: a term each check of `Instr.wf` refuses, values worked out by hand from the spec, and for
every statement with hypotheses a state and operands that meet them all. -/

set_option Elab.async false
set_option linter.unusedVariables false

namespace Sys2Proof.Tests
open Sys2Proof Sys2Proof.Machine

/-! ### Small states -/

/-- Set several registers. -/
def put (s : State) (l : List (Nat × Nat)) : State := l.foldl (fun s p => s.setReg p.1 p.2) s

/-- A part at work: every domain ON, both links up, Wounser up, this device alone and the owner of every unit, FIELD. -/
def up : State :=
  { gtcRun := true
    gtc := 5000000000
    pwr := { por := false, mgmtUp := true, appRun := Vector.replicate 4 true }
    fuses := { lcc := 3, devidDone := true }
    regs := [(R.MB_VER, 0x80000100#32)] ++ (List.range 20).map (fun d => (R.PWR_DOM_CTRL d, 8#32)) ++
      [(R.LCS_STATE, 3#32), (R.ROPE_OWN, 0x1F00#32), (R.PASSH_STATUS, 0xF1#32), (R.PASSM_STATUS, 0xF1#32)] }

/-- An entry of type `ty` at the next wedge, with TAG 5. -/
def ev (ty p0 p1 : Nat) (cpl : Bool) : Event :=
  { w0 := 262144#32, w1 := BitVec.ofNat 32 (256 * ty + 4096 * b2n cpl + 65536 * 5), w2 := BitVec.ofNat 32 p0, w3 := BitVec.ofNat 32 p1 }

/-- `up` with one entry in the data list of section 1. -/
def evD (e : Event) : State := up.onAtb 1 (fun a => { a with data := [e] })

/-- `up` with one entry in the motion list of section 1. -/
def evM (e : Event) : State := up.onAtb 1 (fun a => { a with motion := [e] })

/-- `s` with section 1 in LEDGE and no write inhibit latched. -/
def ledge (s : State) : State := (s.setReg (R.ATB_STATUS 1) 0xA).setReg (R.LOOP_STATUS 1) 0

/-- A sector in the read path with one fragment. -/
def sec1 : Sector := { sid := 0x77, seed := 9, head := 0, frags := [{ m := 74, kind := 0, last := true, ang := 0, rev := 0 }] }

/-- A write fragment. -/
def wr1 : WrFrag := { sid := 0x77, frag := { m := 74, kind := 0, last := true, ang := 0, rev := 0 } }

/-- `s` with another channel state in section 1. -/
def ch1 (s : State) (c : Chan) : State := s.onChan 1 (fun _ => c)

/-- In OEM_BUILD with a point of P-384 (its base point, FIPS 186) staged as OEM key 0. -/
def oemState : State :=
  put up ((R.LCS_STATE, 2) :: [
    (R.LCS_OEMKEY 0, 0x22CA87AA), (R.LCS_OEMKEY 1, 0x37058BBE), (R.LCS_OEMKEY 2, 0x1EC7B18E), (R.LCS_OEMKEY 3, 0x74AD20F3),
    (R.LCS_OEMKEY 4, 0x623B1D6E), (R.LCS_OEMKEY 5, 0x989BA78B), (R.LCS_OEMKEY 6, 0xE041F759), (R.LCS_OEMKEY 7, 0x382A5482),
    (R.LCS_OEMKEY 8, 0x5DF20255), (R.LCS_OEMKEY 9, 0x6C2955BF), (R.LCS_OEMKEY 10, 0x385E543A), (R.LCS_OEMKEY 11, 0xB70A7672),
    (R.LCS_OEMKEY 12, 0x4ADE1736), (R.LCS_OEMKEY 13, 0x6F2C2696), (R.LCS_OEMKEY 14, 0xBF989E5D), (R.LCS_OEMKEY 15, 0x29DC9292),
    (R.LCS_OEMKEY 16, 0xBD1DF4F8), (R.LCS_OEMKEY 17, 0x7C149A28), (R.LCS_OEMKEY 18, 0x1331DAE9), (R.LCS_OEMKEY 19, 0xC0B8F0B5),
    (R.LCS_OEMKEY 20, 0xCEB1600A), (R.LCS_OEMKEY 21, 0x9D817E1D), (R.LCS_OEMKEY 22, 0x7C1D437A), (R.LCS_OEMKEY 23, 0x5F0EEA90)])


/-- `up` with the host of port A at work: link trained, CC.EN, admin queues of 8 entries with one entry to fetch, an I/O queue pair 1. -/
def hostUp : State :=
  let s := up.setPort .a { up := true, cc := 0x460001#32 }
  let s := (s.putSq .a 0 { base := 0x10000, size := 8, prio := 0, group := 0, vx := false, cqid := 0, tail := 1 }).putCq .a 0 { base := 0x20000, size := 8, ien := true, iv := 0 }
  let s := (s.putSq .a 1 { base := 0x30000, size := 8, prio := 0, group := 0, vx := false, cqid := 1, head := 1, tail := 3 }).putCq .a 1 { base := 0x40000, size := 8, ien := false, iv := 0 }
  put s [(R.QENG_CTRL, 1)]

/-- A live slot of I/O queue 1. -/
def slot1 : CmdSlot := { port := .a, sqid := 1, group := 0, cls := 0, fuse := 0, partner := none, fseq := 4, cid := 0x55, nsid := 1, ord := false, sqe := [] }

/-- `s` with a command in slot 7. -/
def inSlot (s : State) (x : CmdSlot) : State := (s.putSlot 7 x).countSlots

/-- `s` with bytes in the shared SRAM. -/
def ram (s : State) (a : Nat) (b : List (BitVec 8)) : State := { s with sram := Memory.writeBytes unlistedByte s.sram a b }

/-- A read operation of one sector at track 0 of head 0. -/
def mop1 : Mop :=
  { seq := 3, op := 1, head := 0, ord := false, urg := false, keep := false, hmdLen := 0, optag := 0x21, track := 0, first := 0,
    count := 1, lba := 5, nsid := 1, ktag := 0, group := 0, slot := 7, data := 0x20000000, side := 0x20008000, wstamp := 0,
    takenAt := 0, bv := false, zone := ⟨0, 100, 65536, 10, 0, 0⟩ }

/-- `mop1` as chosen, with an ASSIST event still to load. -/
def run1 : OpRun := { op := mop1, start := 1, todo := [⟨none, 7, 262144, 33, 0, true⟩], secs := [{ sid := some 0x77 }], out := [⟨0x8005, none, 7, 0⟩] }

/-- `s` with another scheduler state in section 1, enabled. -/
def m1 (s : State) (m : Msch) : State := (s.onMsch 1 (fun _ => m)).setReg (R.MSCH_CTRL 1) 1

/-- `up` with a zone table and one read descriptor in the shared SRAM. -/
def takeState : State :=
  put (m1 (ram (ram up 0x10000 (wordsToBytes [0x5A540001, 0x10000, 100, 0, 0, 100, 65536, 10])) 0
      (wordsToBytes [0x210001, 0, 0x10000, 5, 0, 1, 0, 7 * 4096, 0x20020000, 0, 0x20030000, 0, 0, 0, 0, 0])) {})
    [(R.MSCH_SQ_BASE_LO 1, 0x20000000), (R.MSCH_SQ_SIZE 1, 8), (R.MSCH_SQ_PROD 1, 1), (R.MSCH_ZT_BASE_LO 1, 0x20010000)]

/-- A line of the Map Cache. -/
def ln1 (l : Nat) (d : Bool) : MLine := ⟨l, d, (List.range 128).map (fun k => BitVec.ofNat 8 k)⟩

/-- `up` with the Map Cache enabled, window 0 over the first 64 KiB of the DRAM, and another cache state. -/
def mc (m : Mapc) : State :=
  put { up with mapc := m } [(R.MAPC_STATUS, 1), (R.MAPC_CTRL, 3), (R.MAPC_WIN_BASE 0, dramBase / 65536), (R.MAPC_WIN_SIZE 0, 0x80000010), (R.BUF_INIT 0, 1)]

/-- A key of 32 zero bytes. -/
def zeroKey : List Nat := List.replicate 32 0

/-- `up` with another state of CRYP. -/
def cr (c : Cryp) : State := { up with cryp := c }

/-- `s` with a request of opcode `op` and words 1 on waiting on a channel. -/
def ask (s : State) (ch : Fin 16) (op : Nat) (ws : List Nat) : State :=
  let s := (List.range (ws.length + 1)).foldl (fun s k => s.setReg (R.MB_REQ ch k) (((op + 65536) :: ws).getD k 0)) s
  let s := s.setReg (R.MB_STAT ch) 0x10005
  (s.onMbChan ch (fun c => { c with wait := true })).onMbox (fun m => { m with order := [ch] })

/-- `s` with bytes in the DRAM from a window offset that is a multiple of 16. -/
def dramPut (s : State) (o : Nat) (b : List (BitVec 8)) : State :=
  (List.range ((b.length + 15) / 16)).foldl (fun s k => s.storeWord (o / 16 + k) (ofBytes ((b.drop (16 * k)).take 16)) 0) s

/-- A table with its CRC-32C after it. -/
def withCrc (b : List (BitVec 8)) : List (BitVec 8) := b ++ toBytes 4 (crc32c b)

/-- OEM_BUILD. -/
def oem (s : State) : State := s.setReg R.LCS_STATE 2

/-- A ledge record of device head 9. -/
def ledgeBytes : List (BitVec 8) :=
  withCrc (toBytes 2 9 ++ toBytes 2 100 ++ toBytes 4 0 ++ (List.range 33).flatMap (fun k => toBytes 2 k) ++ toBytes 2 0)

/-- A loop image with eight regions that link to none. -/
def loopBytes : List (BitVec 8) :=
  withCrc (wordsToBytes ((List.range 8).flatMap (fun r => [if r = 6 then 0x1023F else 0x1003F, 0, 1, 0])) ++ List.replicate 2048 0#8)

/-- `up` with another state of MGMT. -/
def mg (m : Mgmt) : State := { up with mgmt := m }

/-- A Chimney packet from endpoint 9 to the part, its packet error code after it. -/
def chmPkt (fl : BitVec 8) (b : List (BitVec 8)) : MctpPacket :=
  let l := [BitVec.ofNat 8 (2 * up.fld R.CHM_CFG 6 0), 0x0F#8, BitVec.ofNat 8 (b.length + 5), 0x21#8, 1#8, 0#8, 9#8, fl] ++ b
  ⟨l ++ [BitVec.ofNat 8 (pec l)]⟩

/-- The window BUSY with opcode `op` from host port A. -/
def busy (s : State) (op : Nat) : State := s.setReg R.CW_STATUS (1 + 256 * op)

/-! ### A term each check of `Instr.wf` refuses (R9, R10, R89, R113, R211, R296, R419, R476) -/

theorem test_illformed_registerWrite : (Instr.registerWrite 0 .cc 0 5 0).wf = false := by decide
theorem test_illformed_registerReadClear : (Instr.registerReadClear 0 .cc 0 9).wf = false := by decide
theorem test_illformed_loRead : (Instr.loRead 0 .cc (2 ^ 64)).wf = false := by decide
theorem test_illformed_unalignedAccess : (Instr.unalignedAccess 0 .cc 0 0 true).wf = false := by decide
theorem test_illformed_eventInsert : (Instr.eventInsert 0 0 25165824).wf = false := by decide
theorem test_illformed_opSelect : (Instr.opSelect 0 0 25165824).wf = false := by decide
theorem test_illformed_positioningLoad : (Instr.positioningLoad 0 0 25165824).wf = false := by decide
theorem test_illformed_schedulerEventLoad : (Instr.schedulerEventLoad 0 0 25165824).wf = false := by decide
theorem test_illformed_wedgeResult : (Instr.wedgeResult 0 0 25165824 true 0 0 0).wf = false := by decide
theorem test_illformed_positionSample : (Instr.positionSample 0 0 25165824 0 0).wf = false := by decide
theorem test_illformed_codewordArrive : (Instr.codewordArrive 0 0 [(16, 0)]).wf = false := by decide
theorem test_illformed_fragmentEnd : (Instr.fragmentEnd 0 0 [(0, 65)]).wf = false := by decide
theorem test_illformed_decoderIteration : (Instr.decoderIteration 0 0 true []).wf = false := by decide
theorem test_illformed_recMediaRead : (Instr.recMediaRead 0 0 0 [] [(-16, 0)]).wf = false := by decide
theorem test_illformed_recDecodeDone : (Instr.recDecodeDone 0 0 true 65 [0]).wf = false := by decide
theorem test_illformed_spinControlCycle : (Instr.spinControlCycle 0 0 0 0 65536).wf = false := by decide
theorem test_illformed_vbusThreshold : (Instr.vbusThreshold 0 65536).wf = false := by decide
theorem test_illformed_doorbellWrite : (Instr.doorbellWrite 0 .a 0 9 0).wf = false := by decide
theorem test_illformed_sqFetchComplete : (Instr.sqFetchComplete 0 .a true [[0]]).wf = false := by decide
theorem test_illformed_completionCommit : (Instr.completionCommit 0 1024).wf = false := by decide
theorem test_illformed_interruptCoalescingTimeout : (Instr.interruptCoalescingTimeout 0 .a 2048).wf = false := by decide
theorem test_illformed_msixUnmask : (Instr.msixUnmask 0 .b 2048).wf = false := by decide
theorem test_illformed_transferComplete : (Instr.transferComplete 0 0 0 0 [⟨[0]⟩]).wf = false := by decide
theorem test_illformed_mergeWrite : (Instr.mergeWrite 0 .cc 0x3FFFFFFFF [0, 0]).wf = false := by decide
theorem test_illformed_initSet : (Instr.initSet 0 .cc 224 0).wf = false := by decide
theorem test_illformed_mapcAccess : (Instr.mapcAccess 0 0 0x400000000 (.load 9)).wf = false := by decide
theorem test_illformed_configurationSet : (Instr.configurationSet 0 0 (2 ^ 32)).wf = false := by decide
theorem test_illformed_vpdRead : (Instr.vpdRead 0 0 (2 ^ 32)).wf = false := by decide
theorem test_illformed_vpdWrite : (Instr.vpdWrite 0 (2 ^ 32) []).wf = false := by decide
theorem test_illformed_regRead : (Instr.regRead 0 65536 0).wf = false := by decide
theorem test_illformed_regWrite : (Instr.regWrite 0 0 65536 []).wf = false := by decide
theorem test_illformed_dataRead : (Instr.dataRead 0 0 65536).wf = false := by decide
theorem test_illformed_dataWrite : (Instr.dataWrite 0 65536 0 []).wf = false := by decide
theorem test_illformed_flowBackgroundCheck : (Instr.flowBackgroundCheck 0 (.uncorrectable 3 0)).wf = false := by decide
theorem test_illformed_pair : (Instr.pair 0 ⟨true, 0, 8, 0⟩).wf = false := by decide
theorem test_illformed_mctpPacket : (Instr.mctpPacket 0 ⟨List.replicate 65536 0⟩).wf = false := by decide +kernel
theorem test_illformed_forwardRequest : (Instr.forwardRequest 0 (List.replicate 65536 0)).wf = false := by decide +kernel
theorem test_illformed_mbox : (Instr.mbox 0 (List.replicate 65536 0)).wf = false := by decide +kernel
theorem test_illformed_cwComplete : (Instr.cwComplete 0 true 0 (List.replicate 4097 0)).wf = false := by decide +kernel

/-! ### Values worked out outside the model -/

/-- The check value of CRC-32C over the nine ASCII digits 1 to 9. -/
theorem test_crc32c_check : crc32c [0x31, 0x32, 0x33, 0x34, 0x35, 0x36, 0x37, 0x38, 0x39] = 0xE3069283 := by decide +kernel


/-! ### States and operands that meet the hypotheses of the statements -/

theorem witness_dataEventsFire_marker : (fun (s u : State) (t : Nat) (n : Fin 4) (e : Event) => s.at t = u ∧ (u.due n tyMARKER e) ∧ (e.cpl = true) ∧ (e.isRec = false) ∧ (e.dest = .data) ∧ ((u.sec n).atb.holdData = []) ∧ (u.cplReady n .data = true) ∧ (u.rd (R.ATB_CPLD_SIZE n) ≠ 0))
    (put (evD (ev 0 0 0 true)) [(R.ATB_CPLD_BASE_LO 1, 0x20001000), (R.ATB_CPLD_SIZE 1, 16), (R.ATB_CPLD_PROD 1, 15), (R.ATB_CPLD_CONS 1, 3)]) ((put (evD (ev 0 0 0 true)) [(R.ATB_CPLD_BASE_LO 1, 0x20001000), (R.ATB_CPLD_SIZE 1, 16), (R.ATB_CPLD_PROD 1, 15), (R.ATB_CPLD_CONS 1, 3)] : State).at 0) 0 (1 : Fin 4) (ev 0 0 0 true : Event) :=
  ⟨rfl, by decide +kernel⟩
theorem witness_dataEventsFire_rdOn : (fun (s u : State) (t : Nat) (n : Fin 4) (e : Event) => s.at t = u ∧ (u.due n tyRDON e) ∧ (u.atbState n = stLEDGE) ∧ ((u.sec n).chan.rcv = none) ∧ ((u.sec n).chan.wg = false) ∧ (e.desc.ok false = true))
    (ledge (evD (ev 1 (74 + 256 + 65536 * 0x77) 9 false))) ((ledge (evD (ev 1 (74 + 256 + 65536 * 0x77) 9 false)) : State).at 0) 0 (1 : Fin 4) (ev 1 (74 + 256 + 65536 * 0x77) 9 false : Event) :=
  ⟨rfl, by decide +kernel⟩
theorem witness_dataEventsFire_rdOff : (fun (s u : State) (t : Nat) (n : Fin 4) (e : Event) => s.at t = u ∧ (u.due n tyRDOFF e))
    (ch1 (evD (ev 2 0 0 false)) { rd := some sec1 }) ((ch1 (evD (ev 2 0 0 false)) { rd := some sec1 } : State).at 0) 0 (1 : Fin 4) (ev 2 0 0 false : Event) :=
  ⟨rfl, by decide +kernel⟩
theorem witness_dataEventsFire_wrOn : (fun (s u : State) (t : Nat) (n : Fin 4) (e : Event) (b : WBlock) => s.at t = u ∧ (u.due n tyWRON e) ∧ (u.inhibited n = false) ∧ ((u.sec n).chan.rcv = none) ∧ ((u.sec n).chan.rd = none) ∧ ((u.sec n).chan.wr = none) ∧ (e.desc.ok true = true) ∧ ((u.sec n).chan.wbuf.find? (fun b => b.sid == e.desc.sid) = some b) ∧ (ofBytes ((b.bytes.drop 4112).take 2) = e.desc.seed))
    (ch1 (ledge (evD (ev 3 (74 + 256 + 65536 * 0x77) 0 false))) { wbuf := [⟨0x77, []⟩] }) ((ch1 (ledge (evD (ev 3 (74 + 256 + 65536 * 0x77) 0 false))) { wbuf := [⟨0x77, []⟩] } : State).at 0) 0 (1 : Fin 4) (ev 3 (74 + 256 + 65536 * 0x77) 0 false : Event) (⟨0x77, []⟩ : WBlock) :=
  ⟨rfl, by decide +kernel⟩
theorem witness_dataEventsFire_wrOff : (fun (s u : State) (t : Nat) (n : Fin 4) (e : Event) => s.at t = u ∧ (u.due n tyWROFF e) ∧ ((u.sec n).chan.cut = none))
    (ch1 (evD (ev 4 0 0 false)) { wg := true, wr := some wr1 }) ((ch1 (evD (ev 4 0 0 false)) { wg := true, wr := some wr1 } : State).at 0) 0 (1 : Fin 4) (ev 4 0 0 false : Event) :=
  ⟨rfl, by decide +kernel⟩
theorem witness_dataEventsFire_fmark : (fun (s u : State) (t : Nat) (n : Fin 4) (e : Event) (x : Sector) (f : Frag) => s.at t = u ∧ (u.due n tyFMARK e) ∧ (u.sidIsWrite n e.sid = false) ∧ (u.atbState n = stLEDGE) ∧ ((u.sec n).chan.rcv = none) ∧ ((u.sec n).chan.rd = some x) ∧ (x.sid = e.sid) ∧ (x.frags = [f]) ∧ (bitsOf e.p0 7 4 = 0) ∧ (bitOf e.p0 15 = false) ∧ (e.p1 = 0))
    (ch1 (ledge (evD (ev 5 (65536 * 0x77) 0 false))) { rd := some sec1 }) ((ch1 (ledge (evD (ev 5 (65536 * 0x77) 0 false))) { rd := some sec1 } : State).at 0) 0 (1 : Fin 4) (ev 5 (65536 * 0x77) 0 false : Event) (sec1 : Sector) (sec1.frags.headD { m := 0, kind := 0, last := true, ang := 0, rev := 0 } : Frag) :=
  ⟨rfl, by decide +kernel⟩
theorem witness_dataEventsFire_servoWin : (fun (s u : State) (t : Nat) (n : Fin 4) (e : Event) => s.at t = u ∧ (u.due n tySERVOWIN e))
    (evD (ev 6 5000 0 false)) ((evD (ev 6 5000 0 false) : State).at 0) 0 (1 : Fin 4) (ev 6 5000 0 false : Event) :=
  ⟨rfl, by decide +kernel⟩
theorem witness_dataEventsFire_assist : (fun (s u : State) (t : Nat) (n : Fin 4) (e : Event) => s.at t = u ∧ (u.due n tyASSIST e) ∧ (u.inhibited n = false))
    (ledge (evD (ev 7 33 0 false))) ((ledge (evD (ev 7 33 0 false)) : State).at 0) 0 (1 : Fin 4) (ev 7 33 0 false : Event) :=
  ⟨rfl, by decide +kernel⟩
theorem witness_dataEventsFire_snapshot : (fun (s u : State) (t : Nat) (n : Fin 4) (e : Event) => s.at t = u ∧ (u.due n tySNAPSHOT e) ∧ (e.cpl = false) ∧ (u.flowOn = true) ∧ (u.bit R.FLOW_STATUS 2 = false) ∧ (u.flowDefOn (e.p0 % 64) 1 = true) ∧ (u.flow.fifo.length < 16))
    (put (evD (ev 8 3 0 false)) [(R.FLOW_CTRL, 1), (R.FLOW_DEF_W0 3, 3)]) ((put (evD (ev 8 3 0 false)) [(R.FLOW_CTRL, 1), (R.FLOW_DEF_W0 3, 3)] : State).at 0) 0 (1 : Fin 4) (ev 8 3 0 false : Event) :=
  ⟨rfl, by decide +kernel⟩

theorem witness_motionEventsFire_headSw : (fun (s u : State) (t : Nat) (n : Fin 4) (e : Event) => s.at t = u ∧ (u.due n tyHEADSW e))
    (evM (ev 9 5 0 false)) ((evM (ev 9 5 0 false) : State).at 0) 0 (1 : Fin 4) (ev 9 5 0 false : Event) :=
  ⟨rfl, by decide +kernel⟩
theorem witness_motionEventsFire_setpoint : (fun (s u : State) (t : Nat) (n : Fin 4) (e : Event) => s.at t = u ∧ (u.due n tySETPOINT e) ∧ (e.p0 / 2 ^ 24 = 0) ∧ (e.p1 / 2 ^ 18 = 0))
    (evM (ev 10 5 7 false)) ((evM (ev 10 5 7 false) : State).at 0) 0 (1 : Fin 4) (ev 10 5 7 false : Event) :=
  ⟨rfl, by decide +kernel⟩
theorem witness_motionEventsFire_loopMode : (fun (s u : State) (t : Nat) (n : Fin 4) (e : Event) => s.at t = u ∧ (u.due n tyLOOPMODE e) ∧ (e.p0 % 4 ≠ 3) ∧ (e.p0 / 64 = 0))
    (evM (ev 11 1 7 false)) ((evM (ev 11 1 7 false) : State).at 0) 0 (1 : Fin 4) (ev 11 1 7 false : Event) :=
  ⟨rfl, by decide +kernel⟩
theorem witness_motionEventsFire_microjog : (fun (s u : State) (t : Nat) (n : Fin 4) (e : Event) => s.at t = u ∧ (u.due n tyMICROJOG e) ∧ (e.p0 / 65536 = 0) ∧ (e.p1 = 0))
    (evM (ev 12 100 0 false)) ((evM (ev 12 100 0 false) : State).at 0) 0 (1 : Fin 4) (ev 12 100 0 false : Event) :=
  ⟨rfl, by decide +kernel⟩

theorem witness_eventEntries_eventCommit : (fun (s u : State) (t : Nat) (i : Initiator) (n : Fin 4) (w3 : BitVec 32) (k : Fin 5) => s.at t = u ∧ (iniIdx i = k.val) ∧ (u.linkUp = true))
    (up) ((up : State).at 0) 0 (.app 2 : Initiator) (1 : Fin 4) (7#32 : BitVec 32) (3 : Fin 5) :=
  ⟨rfl, by decide +kernel⟩
theorem witness_eventEntries_eventInsert : (fun (s u : State) (t : Nat) (n : Fin 4) (ang : Nat) (f : EventInFlight) (rest : List EventInFlight) => s.at t = u ∧ (u.pass.events = f :: rest) ∧ (f.sec = n) ∧ (ang < REV_COUNTS) ∧ (f.event.typ ≤ 8) ∧ (f.event.isRec = false) ∧ (f.event.w < 96) ∧ ((u.sec n).atb.data.length < 256) ∧ (isFuture (extDist f.event.rev f.event.raw ((u.turnTo n ang).rev n) ((u.turnTo n ang).angle n)) = true))
    ({ up with pass := { up.pass with events := [⟨.app 0, 1, 262144#32, 0x50000#32, 0#32, 0#32⟩] } }) (({ up with pass := { up.pass with events := [⟨.app 0, 1, 262144#32, 0x50000#32, 0#32, 0#32⟩] } } : State).at 0) 0 (1 : Fin 4) (1000 : Nat) (⟨.app 0, 1, 262144#32, 0x50000#32, 0#32, 0#32⟩ : EventInFlight) ([] : List EventInFlight) :=
  ⟨rfl, by decide +kernel⟩
theorem witness_eventEntries_atbCancel : (fun (s u : State) (t : Nat) (i : Initiator) (n : Fin 4) (w : BitVec 32) => s.at t = u ∧ (u.takesWrite i (R.ATB_CANCEL n) = true))
    (evD (ev 0 0 0 true)) ((evD (ev 0 0 0 true) : State).at 0) 0 (.app 1 : Initiator) (1 : Fin 4) (0xFFFF0005#32 : BitVec 32) :=
  ⟨rfl, by decide +kernel⟩
theorem witness_eventEntries_completionRecordDeliver : (fun (s u : State) (t : Nat) (n : Fin 4) (d : CplDest) (r : CplRec) (rest : List CplRec) => s.at t = u ∧ ((u.sec n).atb.hold d = r :: rest) ∧ (u.cplReady n d = true))
    (up.onAtb 1 (fun a => { a with holdSched := [⟨1#32, 2#32, 3#32, 4#32⟩] })) ((up.onAtb 1 (fun a => { a with holdSched := [⟨1#32, 2#32, 3#32, 4#32⟩] }) : State).at 0) 0 (1 : Fin 4) (.sched : CplDest) (⟨1#32, 2#32, 3#32, 4#32⟩ : CplRec) ([] : List CplRec) :=
  ⟨rfl, by decide +kernel⟩

theorem witness_angleTracking_atbHeadOfsWrite : (fun (s u : State) (t : Nat) (n : Fin 4) (h : Fin 8) (data : BitVec 32) => s.at t = u ∧ (u.linkUp = true) ∧ (u.domOn (16 + n) = true) ∧ (data.toNat < REV_COUNTS))
    (up) ((up : State).at 0) 0 (1 : Fin 4) (3 : Fin 8) (12345#32 : BitVec 32) :=
  ⟨rfl, by decide +kernel⟩
theorem witness_angleTracking_wedgeResult : (fun (s u : State) (t : Nat) (n : Fin 4) (ang : Nat) (word : BitVec 12) (gray : BitVec 24) (bursts : BitVec 32) (st : Nat) (len : Nat) => s.at t = u ∧ (u.domOn (16 + n) = true) ∧ ((u.sec n).atb.win = some (st, len)) ∧ (ang < REV_COUNTS) ∧ ((ang + REV_COUNTS - st) % REV_COUNTS < len))
    (up.onAtb 1 (fun a => { a with win := some (0, 8000) })) ((up.onAtb 1 (fun a => { a with win := some (0, 8000) }) : State).at 0) 0 (1 : Fin 4) (3328 : Nat) (0#12 : BitVec 12) (6#24 : BitVec 24) (0#32 : BitVec 32) (0 : Nat) (8000 : Nat) :=
  ⟨rfl, by decide +kernel⟩
theorem witness_angleTracking_positionSample : (fun (s u : State) (t : Nat) (n : Fin 4) (ang : Nat) (a : BitVec 12) (b : BitVec 12) (r : LedgeRec) => s.at t = u ∧ (u.domOn (16 + n) = true) ∧ ((u.sec n).ledge[headIdx (u.head n)] = some r) ∧ (r.ldgMin ≤ (a.toNat + b.toNat) / 2))
    (up.setSec 1 { up.sec 1 with ledge := Vector.replicate 8 (some ⟨100, 0, List.replicate 33 0⟩) }) ((up.setSec 1 { up.sec 1 with ledge := Vector.replicate 8 (some ⟨100, 0, List.replicate 33 0⟩) } : State).at 0) 0 (1 : Fin 4) (77 : Nat) (2000#12 : BitVec 12) (2100#12 : BitVec 12) (⟨100, 0, List.replicate 33 0⟩ : LedgeRec) :=
  ⟨rfl, by decide +kernel⟩
theorem witness_angleTracking_ledgeLock : (fun (s u : State) (t : Nat) (n : Fin 4) => s.at t = u ∧ (u.domOn (16 + n) = true) ∧ (u.atbState n = stWEDGE ∨ u.atbState n = stHOLDOVER) ∧ (((u.sec n).ledge[headIdx (u.head n)]).isSome = true))
    ((up.setSec 1 { up.sec 1 with ledge := Vector.replicate 8 (some ⟨100, 0, []⟩) }).setReg (R.ATB_STATUS 1) 1) (((up.setSec 1 { up.sec 1 with ledge := Vector.replicate 8 (some ⟨100, 0, []⟩) }).setReg (R.ATB_STATUS 1) 1 : State).at 0) 0 (1 : Fin 4) :=
  ⟨rfl, by decide +kernel⟩
theorem witness_angleTracking_holdoverTimeout : (fun (s u : State) (t : Nat) (n : Fin 4) => s.at t = u ∧ (u.atbState n = stHOLDOVER) ∧ (u.rd (R.ATB_NS_PER_REV n) / 48 ≤ u.gtc - (u.sec n).atb.holdoverAt))
    (up.setReg (R.ATB_STATUS 1) 3) ((up.setReg (R.ATB_STATUS 1) 3 : State).at 0) 0 (1 : Fin 4) :=
  ⟨rfl, by decide +kernel⟩
theorem witness_angleTracking_tonePhaseLoss : (fun (s u : State) (t : Nat) (n : Fin 4) => s.at t = u ∧ (u.atbState n = stLEDGE))
    (ledge up) ((ledge up : State).at 0) 0 (1 : Fin 4) :=
  ⟨rfl, by decide +kernel⟩

theorem witness_passageLink_passageFlitReceive : (fun (s u : State) (t : Nat) (side : Die) (flit : BitVec 144) => s.at t = u ∧ (u.linkUp = true) ∧ (eccLinkClass (chk (flit.toNat / 65536) ^^^ (flit.toNat % 65536)) = .clean))
    ({ up with pass := { up.pass with endH := ⟨0, 3⟩ } }) (({ up with pass := { up.pass with endH := ⟨0, 3⟩ } } : State).at 0) 0 (.h : Die) (0#144 : BitVec 144) :=
  ⟨rfl, by decide +kernel⟩
theorem witness_passageLink_passageFlitReceive_2 : (fun (s u : State) (t : Nat) (side : Die) (flit : BitVec 144) => s.at t = u ∧ (u.linkUp = true) ∧ (eccLinkClass (chk (flit.toNat / 65536) ^^^ (flit.toNat % 65536)) = .ue) ∧ ((u.pass.rx side).replays < 8))
    ({ up with pass := { up.pass with endH := ⟨0, 3⟩ } }) (({ up with pass := { up.pass with endH := ⟨0, 3⟩ } } : State).at 0) 0 (.m : Die) (0x15#144 : BitVec 144) :=
  ⟨rfl, by decide +kernel⟩
theorem witness_passageLink_passageLaneLockLoss : (fun (s u : State) (t : Nat) (side : Die) (lane : Fin 4) => s.at t = u ∧ (u.linkUp = true))
    (up) ((up : State).at 0) 0 (.m : Die) (2 : Fin 4) :=
  ⟨rfl, by decide +kernel⟩
theorem witness_passageLink_passageLinkUp : (fun (s u : State) (t : Nat) => s.at t = u ∧ (u.linkUp = false) ∧ (u.domOn 12 = true))
    (up.setReg R.PASSH_STATUS 0) ((up.setReg R.PASSH_STATUS 0 : State).at 0) 0  :=
  ⟨rfl, by decide +kernel⟩
theorem witness_passageLink_passageIsolation : (fun (s u : State) (t : Nat) (t0 : Nat) => s.at t = u ∧ (u.pass.downSince = some t0) ∧ (u.linkUp = false) ∧ (u.pass.planned = false) ∧ (t0 + 1000000 ≤ u.gtc))
    (({ up with pass := { up.pass with downSince := some 0 } } : State).setReg R.PASSH_STATUS 0) ((({ up with pass := { up.pass with downSince := some 0 } } : State).setReg R.PASSH_STATUS 0 : State).at 0) 0 (0 : Nat) :=
  ⟨rfl, by decide +kernel⟩
theorem witness_passageLink_retrain : (fun (s u : State) (t : Nat) (i : Initiator) => s.at t = u ∧ (u.takesWrite i R.PASSH_CTRL = true) ∧ (u.linkUp = true))
    (up) ((up : State).at 0) 0 (.cc : Initiator) :=
  ⟨rfl, by decide +kernel⟩
theorem witness_passageLink_passageWriteDeliver : (fun (s u : State) (t : Nat) (n : Fin 4) (w : BitVec 32) (rest : List PostedWrite) => s.at t = u ∧ (u.linkUp = true) ∧ (u.pass.posted = ⟨.cc, R.RT_CFG n, w⟩ :: rest) ∧ (u.domOn (16 + n) = true))
    ({ up with pass := { up.pass with posted := [⟨.cc, R.RT_CFG 1, 0x640A05#32⟩] } }) (({ up with pass := { up.pass with posted := [⟨.cc, R.RT_CFG 1, 0x640A05#32⟩] } } : State).at 0) 0 (1 : Fin 4) (0x640A05#32 : BitVec 32) ([] : List PostedWrite) :=
  ⟨rfl, by decide +kernel⟩
theorem witness_passageLink_passageReadResponse : (fun (s u : State) (t : Nat) (i : Initiator) (r : SplitRead) (rest : List SplitRead) (v : Word) => s.at t = u ∧ (u.linkUp = true) ∧ (takeSplit i u.pass.splits = some (r, rest)) ∧ (r.behind = 0) ∧ (r.val = some v))
    ({ up with pass := { up.pass with splits := [⟨.cc, 0, 4, 0, 0, some 9#32⟩] } }) (({ up with pass := { up.pass with splits := [⟨.cc, 0, 4, 0, 0, some 9#32⟩] } } : State).at 0) 0 (.cc : Initiator) (⟨.cc, 0, 4, 0, 0, some 9#32⟩ : SplitRead) ([] : List SplitRead) (9#32 : Word) :=
  ⟨rfl, by decide +kernel⟩
theorem witness_passageLink_splitReadTimeout : (fun (s u : State) (t : Nat) (i : Initiator) (r : SplitRead) (rest : List SplitRead) => s.at t = u ∧ (takeSplit i u.pass.splits = some (r, rest)) ∧ (r.at_ + 10000 ≤ u.gtc))
    ({ up with pass := { up.pass with splits := [⟨.cc, 0, 4, 0, 0, none⟩] } }) (({ up with pass := { up.pass with splits := [⟨.cc, 0, 4, 0, 0, none⟩] } } : State).at 0) 0 (.cc : Initiator) (⟨.cc, 0, 4, 0, 0, none⟩ : SplitRead) ([] : List SplitRead) :=
  ⟨rfl, by decide +kernel⟩

theorem witness_channelCommands_codewordArrive : (fun (s u : State) (t : Nat) (n : Fin 4) (scores : List (Int × Nat)) (x : Sector) (f : Frag) => s.at t = u ∧ ((u.sec n).chan.arriving = none) ∧ ((u.sec n).chan.rd = some x) ∧ (x.frags.getLast? = some f) ∧ (f.last = true) ∧ ((u.sec n).chan.rdDone = false))
    (ch1 up { rd := some sec1 }) ((ch1 up { rd := some sec1 } : State).at 0) 0 (1 : Fin 4) ([] : List (Int × Nat)) (sec1 : Sector) (sec1.frags.headD { m := 0, kind := 0, last := true, ang := 0, rev := 0 } : Frag) :=
  ⟨rfl, by decide +kernel⟩
theorem witness_channelCommands_decoderIteration : (fun (s u : State) (t : Nat) (n : Fin 4) (info : List (BitVec 8)) (j : Sector) (rest : List Sector) => s.at t = u ∧ ((u.sec n).chan.inq = j :: rest) ∧ (j.running = true))
    (ch1 up { inq := [{ sec1 with running := true }] }) ((ch1 up { inq := [{ sec1 with running := true }] } : State).at 0) 0 (1 : Fin 4) ([] : List (BitVec 8)) ({ sec1 with running := true } : Sector) ([] : List Sector) :=
  ⟨rfl, by decide +kernel⟩
theorem witness_channelCommands_fragmentEnd : (fun (s u : State) (t : Nat) (n : Fin 4) (scores : List (Int × Nat)) (w : WrFrag) => s.at t = u ∧ ((u.sec n).chan.wr = some w) ∧ (w.marked = true))
    (ch1 up { wg := true, wr := some { wr1 with marked := true } }) ((ch1 up { wg := true, wr := some { wr1 with marked := true } } : State).at 0) 0 (1 : Fin 4) ([] : List (Int × Nat)) ({ wr1 with marked := true } : WrFrag) :=
  ⟨rfl, by decide +kernel⟩
theorem witness_channelCommands_writeMarkTimeout : (fun (s u : State) (t : Nat) (n : Fin 4) (w : WrFrag) => s.at t = u ∧ ((u.sec n).chan.wr = some w) ∧ (w.marked = false) ∧ (w.frag.last = true))
    (ch1 up { wg := true, wr := some wr1 }) ((ch1 up { wg := true, wr := some wr1 } : State).at 0) 0 (1 : Fin 4) (wr1 : WrFrag) :=
  ⟨rfl, by decide +kernel⟩
theorem witness_channelCommands_writeBlockArrive : (fun (s u : State) (t : Nat) (n : Fin 4) (b : WBlock) (rest : List WBlock) => s.at t = u ∧ ((u.sec n).chan.down = b :: rest) ∧ (u.linkUp = true) ∧ ((u.sec n).chan.wbuf.length < 3))
    (ch1 up { down := [⟨7, []⟩] }) ((ch1 up { down := [⟨7, []⟩] } : State).at 0) 0 (1 : Fin 4) (⟨7, []⟩ : WBlock) ([] : List WBlock) :=
  ⟨rfl, by decide +kernel⟩
theorem witness_channelCommands_recStart : (fun (s u : State) (t : Nat) (i : Initiator) (n : Fin 4) (w : BitVec 32) => s.at t = u ∧ (u.takesWrite i (R.CH_REC_CMD n) = true) ∧ ((u.sec n).chan.rcv = none) ∧ (bitsOf w.toNat 7 4 = 1) ∧ (1 ≤ bitsOf w.toNat 11 8) ∧ (bitsOf w.toNat 11 8 ≤ 8) ∧ (((u.sec n).chan.slots[headIdx (bitsOf w.toNat 2 0)]).isSome = true))
    (ch1 up { slots := Vector.replicate 8 (some ⟨sec1, 1⟩) }) ((ch1 up { slots := Vector.replicate 8 (some ⟨sec1, 1⟩) } : State).at 0) 0 (.app 0 : Initiator) (1 : Fin 4) (0x312#32 : BitVec 32) :=
  ⟨rfl, by decide +kernel⟩
theorem witness_channelCommands_recMediaRead : (fun (s u : State) (t : Nat) (n : Fin 4) (status : BitVec 4) (s0 : List (Int × Nat)) (s1 : List (Int × Nat)) (r : Rec) => s.at t = u ∧ ((u.sec n).chan.rcv = some r) ∧ (r.reading = true) ∧ (status = 0#4) ∧ (u.atbState n = stLEDGE))
    (ledge (ch1 up { rcv := some { slot := 0, to_ := 8, step := 2, media := true, rel := false, reading := true } })) ((ledge (ch1 up { rcv := some { slot := 0, to_ := 8, step := 2, media := true, rel := false, reading := true } }) : State).at 0) 0 (1 : Fin 4) (0#4 : BitVec 4) ([] : List (Int × Nat)) ([] : List (Int × Nat)) ({ slot := 0, to_ := 8, step := 2, media := true, rel := false, reading := true } : Rec) :=
  ⟨rfl, by decide +kernel⟩
theorem witness_channelCommands_recDecodeDone : (fun (s u : State) (t : Nat) (n : Fin 4) (k : Nat) (info : List (BitVec 8)) (r : Rec) (x : Slot) => s.at t = u ∧ ((u.sec n).chan.rcv = some r) ∧ (r.reading = false) ∧ ((u.sec n).chan.inq = []) ∧ ((u.sec n).chan.slots[headIdx r.slot] = some x) ∧ (r.step = 7) ∧ (r.idx = 0))
    (ch1 up { slots := Vector.replicate 8 (some ⟨sec1, 1⟩), rcv := some { slot := 0, to_ := 8, step := 7, media := true, rel := false } }) ((ch1 up { slots := Vector.replicate 8 (some ⟨sec1, 1⟩), rcv := some { slot := 0, to_ := 8, step := 7, media := true, rel := false } } : State).at 0) 0 (1 : Fin 4) (3 : Nat) ([] : List (BitVec 8)) ({ slot := 0, to_ := 8, step := 7, media := true, rel := false } : Rec) (⟨sec1, 1⟩ : Slot) :=
  ⟨rfl, by decide +kernel⟩
theorem witness_channelCommands_sbufRelease : (fun (s u : State) (t : Nat) (i : Initiator) (n : Fin 4) (w : BitVec 32) (k : Fin 8) => s.at t = u ∧ (u.takesWrite i (R.CH_SBUF_REL n) = true) ∧ ((u.sec n).chan.rcv = none) ∧ (bitOf w.toNat k = true))
    (ch1 up { slots := Vector.replicate 8 (some ⟨sec1, 1⟩) }) ((ch1 up { slots := Vector.replicate 8 (some ⟨sec1, 1⟩) } : State).at 0) 0 (.cc : Initiator) (1 : Fin 4) (0x80#32 : BitVec 32) (7 : Fin 8) :=
  ⟨rfl, by decide +kernel⟩
theorem witness_channelCommands_sbufDataRead : (fun (s u : State) (t : Nat) (i : Initiator) (n : Fin 4) => s.at t = u ∧ (u.linkUp = true) ∧ (u.domOn (16 + n) = true))
    (up) ((up : State).at 0) 0 (.cc : Initiator) (1 : Fin 4) :=
  ⟨rfl, by decide +kernel⟩

theorem witness_actuatorCommands_vcmPwmPeriod : (fun (s u : State) (t : Nat) (n : Fin 4) (isns : Int) (va : Int) (vb : Int) => s.at t = u ∧ (u.domOn (16 + n) = true) ∧ (u.ownsAct n = true) ∧ ((satS 16 (if u.bit (R.VD_CFG n) 0 then -isns else isns)).natAbs ≤ u.fld (R.VD_ILIM n) 15 0))
    (put up [(R.VD_ILIM 1, 2000), (R.VD_CFG 1, 1)]) ((put up [(R.VD_ILIM 1, 2000), (R.VD_CFG 1, 1)] : State).at 0) 0 (1 : Fin 4) (-300 : Int) (2000 : Int) (0 : Int) :=
  ⟨rfl, by decide +kernel⟩
theorem witness_actuatorCommands_retractParkCurrent : (fun (s u : State) (t : Nat) (n : Fin 4) (r : Retract) => s.at t = u ∧ ((u.sec n).act.retract = some r) ∧ (r.phase = 1) ∧ (r.t0 + 1000000 * u.fld (R.RT_TIME n) 7 0 ≤ u.gtc))
    (up.onAct 1 (fun a => { a with retract := some ⟨1, 0⟩ })) ((up.onAct 1 (fun a => { a with retract := some ⟨1, 0⟩ }) : State).at 0) 0 (1 : Fin 4) (⟨1, 0⟩ : Retract) :=
  ⟨rfl, by decide +kernel⟩
theorem witness_actuatorCommands_retractEnd : (fun (s u : State) (t : Nat) (n : Fin 4) (r : Retract) => s.at t = u ∧ ((u.sec n).act.retract = some r) ∧ (r.t0 + 1000000 * (u.fld (R.RT_TIME n) 7 0 + u.fld (R.RT_TIME n) 15 8) ≤ u.gtc))
    ((up.onAct 1 (fun a => { a with retract := some ⟨2, 0⟩ })).setReg (R.ACT_STATUS 1) 32) (((up.onAct 1 (fun a => { a with retract := some ⟨2, 0⟩ })).setReg (R.ACT_STATUS 1) 32 : State).at 0) 0 (1 : Fin 4) (⟨2, 0⟩ : Retract) :=
  ⟨rfl, by decide +kernel⟩
theorem witness_actuatorCommands_park : (fun (s u : State) (t : Nat) (i : Initiator) (n : Fin 4) => s.at t = u ∧ (u.takesWrite i (R.ACT_CTRL n) = true) ∧ ((u.sec n).act.retract = none) ∧ (u.ownsAct n = true) ∧ (u.domOn (16 + n) = true))
    (up) ((up : State).at 0) 0 (.cc : Initiator) (1 : Fin 4) :=
  ⟨rfl, by decide +kernel⟩
theorem witness_actuatorCommands_ocClr : (fun (s u : State) (t : Nat) (i : Initiator) (n : Fin 4) => s.at t = u ∧ (u.takesWrite i (R.ACT_CTRL n) = true))
    (up) ((up : State).at 0) 0 (.cc : Initiator) (1 : Fin 4) :=
  ⟨rfl, by decide +kernel⟩
theorem witness_actuatorCommands_halt : (fun (s u : State) (t : Nat) (i : Initiator) (n : Fin 4) => s.at t = u ∧ (u.takesWrite i (R.ACT_CTRL n) = true))
    (up) ((up : State).at 0) 0 (.cc : Initiator) (1 : Fin 4) :=
  ⟨rfl, by decide +kernel⟩
theorem witness_actuatorCommands_preCmd : (fun (s u : State) (t : Nat) (i : Initiator) (n : Fin 4) (w : BitVec 32) => s.at t = u ∧ (u.takesWrite i (R.PRE_CMD n) = true) ∧ ((u.sec n).act.preFrame.isSome = true) ∧ ((u.sec n).act.preQ.length < 4))
    (up.onAct 1 (fun a => { a with preFrame := some 1 })) ((up.onAct 1 (fun a => { a with preFrame := some 1 }) : State).at 0) 0 (.cc : Initiator) (1 : Fin 4) (0x12345678#32 : BitVec 32) :=
  ⟨rfl, by decide +kernel⟩
theorem witness_actuatorCommands_preCmd_2 : (fun (s u : State) (t : Nat) (i : Initiator) (n : Fin 4) (w : BitVec 32) => s.at t = u ∧ (u.takesWrite i (R.PRE_CMD n) = true) ∧ ((u.sec n).act.preFrame = none) ∧ ((u.sec n).act.preQ = []) ∧ ((u.sec n).act.preHead = []) ∧ (u.safeStands = false))
    (up) ((up : State).at 0) 0 (.cc : Initiator) (1 : Fin 4) (0x12345678#32 : BitVec 32) :=
  ⟨rfl, by decide +kernel⟩
theorem witness_actuatorCommands_preampFrameEnd : (fun (s u : State) (t : Nat) (n : Fin 4) (data : BitVec 16) (f : Nat) => s.at t = u ∧ ((u.sec n).act.preFrame = some f) ∧ (bitOf f 23 = true) ∧ ((u.sec n).act.preQ = []) ∧ ((u.sec n).act.preHead = []))
    (up.onAct 1 (fun a => { a with preFrame := some 0x800000 })) ((up.onAct 1 (fun a => { a with preFrame := some 0x800000 }) : State).at 0) 0 (1 : Fin 4) (0xBEEF#16 : BitVec 16) (0x800000 : Nat) :=
  ⟨rfl, by decide +kernel⟩
theorem witness_actuatorCommands_preampFault : (fun (s u : State) (t : Nat) (n : Fin 4) => s.at t = u ∧ (u.domOn (16 + n) = true) ∧ ((u.sec n).act.pflt = false))
    (up) ((up : State).at 0) 0 (1 : Fin 4) :=
  ⟨rfl, by decide +kernel⟩
theorem witness_actuatorCommands_shock : (fun (s u : State) (t : Nat) (n : Fin 4) (mv : Int) => s.at t = u ∧ (u.domOn (16 + n) = true) ∧ (u.fld (R.SHK_CFG n) 11 0 < mv.natAbs))
    (up) ((up : State).at 0) 0 (1 : Fin 4) (-5000 : Int) :=
  ⟨rfl, by decide +kernel⟩
theorem witness_actuatorCommands_shockHoldEnd : (fun (s u : State) (t : Nat) (n : Fin 4) => s.at t = u ∧ (u.bit (R.ACT_STATUS n) 7 = true) ∧ ((u.sec n).act.shockAt + 1000 * u.fld (R.SHK_CFG n) 31 16 ≤ u.gtc))
    (up.setReg (R.ACT_STATUS 1) 0x80) ((up.setReg (R.ACT_STATUS 1) 0x80 : State).at 0) 0 (1 : Fin 4) :=
  ⟨rfl, by decide +kernel⟩
theorem witness_actuatorCommands_loopSample : (fun (s u : State) (t : Nat) (n : Fin 4) => s.at t = u ∧ (u.domOn (16 + n) = true) ∧ (u.loopMode n = 2) ∧ ((u.sec n).loop.pend = none) ∧ (u.bridge n = .loop))
    (up.setReg (R.LOOP_STATUS 1) 2) ((up.setReg (R.LOOP_STATUS 1) 2 : State).at 0) 0 (1 : Fin 4) :=
  ⟨rfl, by decide +kernel⟩
theorem witness_actuatorCommands_cplCommit : (fun (s u : State) (t : Nat) (i : Initiator) => s.at t = u ∧ (u.takesWrite i R.LE_CTRL = true))
    (up) ((up : State).at 0) 0 (.cc : Initiator) :=
  ⟨rfl, by decide +kernel⟩
theorem witness_actuatorCommands_loopSample_2 : (fun (s u : State) (t : Nat) (miss : BitVec 4) (uncorr : BitVec 4) (a : Fin 4) (b : Fin 4) => s.at t = u ∧ (u.bit R.LE_STATUS 4 = true) ∧ (a ≠ b))
    (put up [(R.LE_STATUS, 16), (R.LE_CPL 6, 0x8001)]) ((put up [(R.LE_STATUS, 16), (R.LE_CPL 6, 0x8001)] : State).at 0) 0 (0#4 : BitVec 4) (0#4 : BitVec 4) (1 : Fin 4) (2 : Fin 4) :=
  ⟨rfl, by decide +kernel⟩

theorem witness_spindleCommands_spinControlCycle : (fun (s u : State) (t : Nat) (cu : Int) (cv : Int) (cw : Int) (vbus : Nat) => s.at t = u ∧ (u.domOn 15 = true))
    (up) ((up : State).at 0) 0 (0 : Int) (0 : Int) (0 : Int) (12000 : Nat) :=
  ⟨rfl, by decide +kernel⟩
theorem witness_spindleCommands_encoderEdge : (fun (s u : State) (t : Nat) (a : Bool) (b : Bool) => s.at t = u ∧ (u.domOn 15 = true) ∧ (a ≠ u.spin.qa) ∧ (b = u.spin.qb))
    (up) ((up : State).at 0) 0 (true : Bool) (false : Bool) :=
  ⟨rfl, by decide +kernel⟩
theorem witness_spindleCommands_encIdx : (fun (s u : State) (t : Nat) => s.at t = u ∧ (u.domOn 15 = true))
    (put up [(R.SP_IDX_OFS, 4242), (R.SP_MANGLE, 5)]) ((put up [(R.SP_IDX_OFS, 4242), (R.SP_MANGLE, 5)] : State).at 0) 0  :=
  ⟨rfl, by decide +kernel⟩
theorem witness_spindleCommands_encoderTimeout : (fun (s u : State) (t : Nat) => s.at t = u ∧ (u.domOn 15 = true) ∧ (max u.spin.edgeAt u.spin.since + 1000000 * u.fld R.SP_ENC 31 16 ≤ u.gtc) ∧ (u.spin_ = spSPEED ∨ u.spin_ = spRUN ∨ u.spin_ = spDECEL))
    (up.setReg R.SP_STATUS 4) ((up.setReg R.SP_STATUS 4 : State).at 0) 0  :=
  ⟨rfl, by decide +kernel⟩
theorem witness_spindleCommands_start : (fun (s u : State) (t : Nat) (i : Initiator) => s.at t = u ∧ (u.takesWrite i R.SP_CMD = true) ∧ (u.spin_ = spOFF) ∧ (u.ownsSpin = true) ∧ (u.maon.powerLossAt = none))
    (up) ((up : State).at 0) 0 (.cc : Initiator) :=
  ⟨rfl, by decide +kernel⟩
theorem witness_spindleCommands_stop : (fun (s u : State) (t : Nat) (i : Initiator) => s.at t = u ∧ (u.takesWrite i R.SP_CMD = true) ∧ (u.spin_ = spSPEED ∨ u.spin_ = spRUN))
    (up.setReg R.SP_STATUS 0x404) ((up.setReg R.SP_STATUS 0x404 : State).at 0) 0 (.cc : Initiator) :=
  ⟨rfl, by decide +kernel⟩
theorem witness_spindleCommands_coast : (fun (s u : State) (t : Nat) (i : Initiator) => s.at t = u ∧ (u.takesWrite i R.SP_CMD = true) ∧ (u.spin_ ≠ spFAULT) ∧ (u.spin_ ≠ spGEN))
    (up.setReg R.SP_STATUS 4) ((up.setReg R.SP_STATUS 4 : State).at 0) 0 (.cc : Initiator) :=
  ⟨rfl, by decide +kernel⟩
theorem witness_spindleCommands_assessProbe : (fun (s u : State) (t : Nat) (cu : Int) (cv : Int) (cw : Int) => s.at t = u ∧ (u.domOn 15 = true) ∧ (u.spin_ = spASSESS) ∧ (u.spin.catching = false) ∧ (u.spin.probes < 10))
    (up.setReg R.SP_STATUS 1) ((up.setReg R.SP_STATUS 1 : State).at 0) 0 (0 : Int) (0 : Int) (0 : Int) :=
  ⟨rfl, by decide +kernel⟩
theorem witness_spindleCommands_assessEnd : (fun (s u : State) (t : Nat) => s.at t = u ∧ (u.domOn 15 = true) ∧ (u.spin_ = spASSESS) ∧ (u.spin.catching = false) ∧ (u.spin.since + 10000000 ≤ u.gtc) ∧ (u.spin.assessEdge = false) ∧ (u.spin.moved < 3))
    (up.setReg R.SP_STATUS 1) ((up.setReg R.SP_STATUS 1 : State).at 0) 0  :=
  ⟨rfl, by decide +kernel⟩
theorem witness_spindleCommands_alignEnd : (fun (s u : State) (t : Nat) => s.at t = u ∧ (u.domOn 15 = true) ∧ (u.spin_ = spALIGN) ∧ (u.spin.since + 1000000 * u.fld R.SP_ALIGN 31 16 ≤ u.gtc))
    (up.setReg R.SP_STATUS 2) ((up.setReg R.SP_STATUS 2 : State).at 0) 0  :=
  ⟨rfl, by decide +kernel⟩
theorem witness_spindleCommands_spTgtWrite : (fun (s u : State) (t : Nat) (i : Initiator) (w : BitVec 32) => s.at t = u ∧ (u.takesWrite i R.SP_TGT = true) ∧ (3600 ≤ bitsOf w.toNat 13 0) ∧ (bitsOf w.toNat 13 0 ≤ 10000))
    (up) ((up : State).at 0) 0 (.cc : Initiator) (7200#32 : BitVec 32) :=
  ⟨rfl, by decide +kernel⟩
theorem witness_spindleCommands_vbusThreshold : (fun (s u : State) (t : Nat) (vbus : Nat) => s.at t = u ∧ (u.domOn 15 = true) ∧ (u.bit R.SP_CHOP_CFG 8 = true) ∧ (u.regenInh = false) ∧ (u.fld R.SP_VBUS_TH0 15 0 < min vbus 24000))
    (put up [(R.SP_CHOP_CFG, 0x100), (R.SP_VBUS_TH0, 13000)]) ((put up [(R.SP_CHOP_CFG, 0x100), (R.SP_VBUS_TH0, 13000)] : State).at 0) 0 (23000 : Nat) :=
  ⟨rfl, by decide +kernel⟩
theorem witness_spindleCommands_chopperFault : (fun (s u : State) (t : Nat) => s.at t = u ∧ (u.domOn 15 = true) ∧ (u.bit R.SP_STATUS 9 = false))
    (up) ((up : State).at 0) 0  :=
  ⟨rfl, by decide +kernel⟩
theorem witness_spindleCommands_chopClr : (fun (s u : State) (t : Nat) (i : Initiator) (fb : Bool) => s.at t = u ∧ (u.takesWrite i R.SP_CTRL = true) ∧ (fb = u.spin.chop))
    (up) ((up : State).at 0) 0 (.cc : Initiator) (false : Bool) :=
  ⟨rfl, by decide +kernel⟩
theorem witness_spindleCommands_plDone : (fun (s u : State) (t : Nat) (i : Initiator) => s.at t = u ∧ (u.takesWrite i R.SP_CTRL = true) ∧ (u.spin_ = spGEN) ∧ (u.allParked = true))
    (put up [(R.SP_STATUS, 7), (R.ACT_STATUS 0, 64), (R.ACT_STATUS 1, 64), (R.ACT_STATUS 2, 64), (R.ACT_STATUS 3, 64)]) ((put up [(R.SP_STATUS, 7), (R.ACT_STATUS 0, 64), (R.ACT_STATUS 1, 64), (R.ACT_STATUS 2, 64), (R.ACT_STATUS 3, 64)] : State).at 0) 0 (.cc : Initiator) :=
  ⟨rfl, by decide +kernel⟩
theorem witness_spindleCommands_faultClr : (fun (s u : State) (t : Nat) (i : Initiator) => s.at t = u ∧ (u.takesWrite i R.SP_CTRL = true) ∧ (u.spin_ = spFAULT))
    (up.setReg R.SP_STATUS 8) ((up.setReg R.SP_STATUS 8 : State).at 0) 0 (.cc : Initiator) :=
  ⟨rfl, by decide +kernel⟩
theorem witness_spindleCommands_plTmaxExpiry : (fun (s u : State) (t : Nat) (t0 : Nat) => s.at t = u ∧ (u.domOn 15 = true) ∧ (u.maon.powerLossAt = some t0) ∧ (u.spin_ = spGEN) ∧ (t0 + 250000000 * bitsOf u.maon.plCfg.toNat 31 28 ≤ u.gtc))
    (({ up with maon := { up.maon with powerLossAt := some 0 } } : State).setReg R.SP_STATUS 7) ((({ up with maon := { up.maon with powerLossAt := some 0 } } : State).setReg R.SP_STATUS 7 : State).at 0) 0 (0 : Nat) :=
  ⟨rfl, by decide +kernel⟩

theorem witness_powerDomainsAndSafeStore_domainOn : (fun (s u : State) (t : Nat) (d : Fin 20) => s.at t = u ∧ (u.takesWrite .cc (R.PWR_DOM_CTRL d) = true) ∧ (u.dom d = 0) ∧ (((parentsOf d).all (fun k => u.domOn k)) = true) ∧ (d.val ≠ 2) ∧ (u.pwr.retained[d] = false))
    (up.setReg (R.PWR_DOM_CTRL 17) 0) ((up.setReg (R.PWR_DOM_CTRL 17) 0 : State).at 0) 0 (17 : Fin 20) :=
  ⟨rfl, by decide +kernel⟩
theorem witness_powerDomainsAndSafeStore_domainOff : (fun (s u : State) (t : Nat) (d : Fin 20) => s.at t = u ∧ (u.takesWrite .cc (R.PWR_DOM_CTRL d) = true) ∧ (u.dom d = 2) ∧ (alwaysOn d = false) ∧ (u.offOk d = true))
    (up.setReg (R.ACT_STATUS 1) 64) ((up.setReg (R.ACT_STATUS 1) 64 : State).at 0) 0 (17 : Fin 20) :=
  ⟨rfl, by decide +kernel⟩
theorem witness_powerDomainsAndSafeStore_domainSequenceEnd : (fun (s u : State) (t : Nat) (d : Fin 20) => s.at t = u ∧ (u.dom d = 1) ∧ (u.target d = true))
    (up.setReg (R.PWR_DOM_CTRL 12) 5) ((up.setReg (R.PWR_DOM_CTRL 12) 5 : State).at 0) 0 (12 : Fin 20) :=
  ⟨rfl, by decide +kernel⟩
theorem witness_powerDomainsAndSafeStore_domainSequenceEnd_2 : (fun (s u : State) (t : Nat) (d : Fin 20) => s.at t = u ∧ (u.dom d = 3) ∧ (u.target d = false) ∧ (alwaysOn d = false))
    (up.setReg (R.PWR_DOM_CTRL 7) 14) ((up.setReg (R.PWR_DOM_CTRL 7) 14 : State).at 0) 0 (7 : Fin 20) :=
  ⟨rfl, by decide +kernel⟩
theorem witness_powerDomainsAndSafeStore_ssCmdRead : (fun (s u : State) (t : Nat) (i : Initiator) (p : Fin 3) => s.at t = u ∧ (ssOwner p i = true) ∧ (u.bit (R.SS_STATUS p) 0 = false) ∧ (ssBad (u.ssRun p 1) = false) ∧ (u.ssInRange p (u.ssRun p 1) = true))
    (put up [(R.SS_ADDR_LO 0, 0x10000), (R.SS_MEM_LO 0, 0x20000000), (R.SS_LEN 0, 64)]) ((put up [(R.SS_ADDR_LO 0, 0x10000), (R.SS_MEM_LO 0, 0x20000000), (R.SS_LEN 0, 64)] : State).at 0) 0 (.cc : Initiator) (0 : Fin 3) :=
  ⟨rfl, by decide +kernel⟩
theorem witness_powerDomainsAndSafeStore_program : (fun (s u : State) (t : Nat) (i : Initiator) (p : Fin 3) => s.at t = u ∧ (ssOwner p i = true) ∧ (u.bit (R.SS_STATUS p) 0 = false) ∧ (ssBad (u.ssRun p 2) = false) ∧ (u.ssInRange p (u.ssRun p 2) = true))
    (put up [(R.SS_ADDR_LO 0, 0x10000), (R.SS_MEM_LO 0, 0x20000000), (R.SS_LEN 0, 256)]) ((put up [(R.SS_ADDR_LO 0, 0x10000), (R.SS_MEM_LO 0, 0x20000000), (R.SS_LEN 0, 256)] : State).at 0) 0 (.cc : Initiator) (0 : Fin 3) :=
  ⟨rfl, by decide +kernel⟩
theorem witness_powerDomainsAndSafeStore_ssCmdErase : (fun (s u : State) (t : Nat) (i : Initiator) (p : Fin 3) => s.at t = u ∧ (ssOwner p i = true) ∧ (u.bit (R.SS_STATUS p) 0 = false) ∧ (ssBad (u.ssRun p 3) = false) ∧ (u.ssInRange p (u.ssRun p 3) = true))
    (put up [(R.SS_ADDR_LO 0, 0x10000), (R.SS_MEM_LO 0, 0x20000000), (R.SS_LEN 0, 65536)]) ((put up [(R.SS_ADDR_LO 0, 0x10000), (R.SS_MEM_LO 0, 0x20000000), (R.SS_LEN 0, 65536)] : State).at 0) 0 (.cc : Initiator) (0 : Fin 3) :=
  ⟨rfl, by decide +kernel⟩
theorem witness_powerDomainsAndSafeStore_ssCommandDone : (fun (s u : State) (t : Nat) (p : Fin 3) (r : SsRun) => s.at t = u ∧ (u.pwr.ss[p] = some r) ∧ (u.fld R.BUF_DUMP_STATUS 1 0 ≠ 1))
    ({ up with pwr := { up.pwr with ss := up.pwr.ss.set 0 (some ⟨3, 65536, 0, 65536⟩) } }) (({ up with pwr := { up.pwr with ss := up.pwr.ss.set 0 (some ⟨3, 65536, 0, 65536⟩) } } : State).at 0) 0 (0 : Fin 3) (⟨3, 65536, 0, 65536⟩ : SsRun) :=
  ⟨rfl, by decide +kernel⟩

theorem witness_resetsAndStart_porDeassert : (fun (s u : State) (t : Nat) (a : Bool) (b : Bool) (c : Bool) (d : Bool) => s.at t = u ∧ (u.pwr.por = true))
    (State.reset) ((State.reset : State).at 0) 0 (true : Bool) (false : Bool) (true : Bool) (true : Bool) :=
  ⟨rfl, by decide +kernel⟩
theorem witness_resetsAndStart_gtcStart : (fun (s u : State) (t : Nat) => s.at t = u ∧ (u.pwr.por = false))
    (up) ((up : State).at 0) 0  :=
  ⟨rfl, by decide +kernel⟩
theorem witness_resetsAndStart_chip : (fun (s u : State) (t : Nat) => s.at t = u ∧ (u.takesWrite .cc R.PWR_RST_CTRL = true))
    (up) ((up : State).at 0) 0  :=
  ⟨rfl, by decide +kernel⟩
theorem witness_resetsAndStart_chipReset : (fun (s u : State) (t : Nat) => s.at t = u ∧ (u.sump.chipResetSw = true) ∧ (u.domsQuiet = true))
    ({ up with sump := { up.sump with chipResetSw := true } }) (({ up with sump := { up.sump with chipResetSw := true } } : State).at 0) 0  :=
  ⟨rfl, by decide +kernel⟩
theorem witness_resetsAndStart_bootRomStart : (fun (s u : State) (t : Nat) => s.at t = u ∧ (u.pwr.por = false) ∧ (u.gtcRun = true) ∧ (u.pwr.rom = false) ∧ (u.wounserUp = false) ∧ (u.bootStage = 0) ∧ (u.sump.ccoreReset = false) ∧ (u.lcState ≠ 5) ∧ (u.lcState ≠ 0) ∧ (u.bit R.PWR_STRAP 2 = false) ∧ (u.directory = none))
    (up.setReg R.MB_VER 0) ((up.setReg R.MB_VER 0 : State).at 0) 0  :=
  ⟨rfl, by decide +kernel⟩
theorem witness_resetsAndStart_wounserStart : (fun (s u : State) (t : Nat) (v : Nat) => s.at t = u ∧ (u.pwr.rom = true) ∧ (u.wounserUp = false) ∧ (u.lcState ≠ 5) ∧ (u.pwr.winWounser = some v))
    (({ up with pwr := { up.pwr with rom := true, winWounser := some 5 } } : State).setReg R.MB_VER 0) ((({ up with pwr := { up.pwr with rom := true, winWounser := some 5 } } : State).setReg R.MB_VER 0 : State).at 0) 0 (5 : Nat) :=
  ⟨rfl, by decide +kernel⟩
theorem witness_resetsAndStart_ccoreReset : (fun (s u : State) (t : Nat) => s.at t = u ∧ (u.sump.ccoreReset = true))
    ({ up with sump := { up.sump with ccoreReset := true } }) (({ up with sump := { up.sump with ccoreReset := true } } : State).at 0) 0  :=
  ⟨rfl, by decide +kernel⟩
theorem witness_resetsAndStart_appCoreReset : (fun (s u : State) (t : Nat) (c : Fin 4) => s.at t = u ∧ (u.takesWrite .cc R.PWR_RST_CTRL = true))
    (up.setReg R.PWR_BOOT_STATUS 3) ((up.setReg R.PWR_BOOT_STATUS 3 : State).at 0) 0 (2 : Fin 4) :=
  ⟨rfl, by decide +kernel⟩
theorem witness_resetsAndStart_wdogKick : (fun (s u : State) (t : Nat) (i : Initiator) (w : BitVec 32) => s.at t = u ∧ (u.takesWrite i R.PWR_WDOG_KICK = true) ∧ (w = 0x4B43#32) ∧ (u.bit R.PWR_WDOG_CFG 31 = true))
    (up.setReg R.PWR_WDOG_CFG 0x80000064) ((up.setReg R.PWR_WDOG_CFG 0x80000064 : State).at 0) 0 (.cc : Initiator) (0x4B43#32 : BitVec 32) :=
  ⟨rfl, by decide +kernel⟩
theorem witness_resetsAndStart_mwdogKick : (fun (s u : State) (t : Nat) (i : Initiator) (w : BitVec 32) => s.at t = u ∧ (u.takesWrite i R.PWR_MWDOG_KICK = true) ∧ (w = 0x4B43#32) ∧ (u.bit R.PWR_MWDOG_CFG 31 = true))
    (up.setReg R.PWR_MWDOG_CFG 0x80000064) ((up.setReg R.PWR_MWDOG_CFG 0x80000064 : State).at 0) 0 (.mgmt : Initiator) (0x4B43#32 : BitVec 32) :=
  ⟨rfl, by decide +kernel⟩
theorem witness_resetsAndStart_wdogExpiry : (fun (s u : State) (t : Nat) => s.at t = u ∧ (u.bit R.PWR_WDOG_CFG 31 = true) ∧ (u.sump.ccoreReset = false) ∧ (u.pwr.wdogAt + 1000000 * u.pwr.wdogTmo ≤ u.gtc))
    (up.setReg R.PWR_WDOG_CFG 0x80000064) ((up.setReg R.PWR_WDOG_CFG 0x80000064 : State).at 0) 0  :=
  ⟨rfl, by decide +kernel⟩

theorem witness_sumpCommands_faultAccept : (fun (s u : State) (t : Nat) (m : HeldMsg) => s.at t = u ∧ (lowestMsg u.offered u.sump.held = some m) ∧ (u.sump.cfgDiff = []) ∧ (u.sump.unread true < 256) ∧ (u.sump.unread false < 256))
    ({ up with sump := { up.sump with held := [⟨560, 7, 0, 0, false⟩, ⟨545, 17, 9, 2, false⟩] } }) (({ up with sump := { up.sump with held := [⟨560, 7, 0, 0, false⟩, ⟨545, 17, 9, 2, false⟩] } } : State).at 0) 0 (⟨545, 17, 9, 2, false⟩ : HeldMsg) :=
  ⟨rfl, by decide +kernel⟩
theorem witness_sumpCommands_safeReqN : (fun (s u : State) (t : Nat) => s.at t = u ∧ (u.pwr.por = true))
    (State.reset) ((State.reset : State).at 0) 0  :=
  ⟨rfl, by decide +kernel⟩
theorem witness_sumpCommands_safeReqN_2 : (fun (s u : State) (t : Nat) => s.at t = u ∧ (u.pwr.por = false) ∧ (u.maon.safe = false))
    (up) ((up : State).at 0) 0  :=
  ⟨rfl, by decide +kernel⟩
theorem witness_sumpCommands_safeStateBrake : (fun (s u : State) (t : Nat) => s.at t = u ∧ (u.domOn 15 = true) ∧ (u.safeStands = true) ∧ (u.allParked = true) ∧ (u.spin_ = spSPEED ∨ u.spin_ = spRUN) ∧ (u.bit R.SUMP_CFG 2 = false))
    (put { up with maon := { up.maon with safe := true } } [(R.SP_STATUS, 4), (R.SUMP_CFG, 0), (R.ACT_STATUS 0, 64), (R.ACT_STATUS 1, 64), (R.ACT_STATUS 2, 64), (R.ACT_STATUS 3, 64)]) ((put { up with maon := { up.maon with safe := true } } [(R.SP_STATUS, 4), (R.SUMP_CFG, 0), (R.ACT_STATUS 0, 64), (R.ACT_STATUS 1, 64), (R.ACT_STATUS 2, 64), (R.ACT_STATUS 3, 64)] : State).at 0) 0  :=
  ⟨rfl, by decide +kernel⟩
theorem witness_sumpCommands_configCheck : (fun (s u : State) (t : Nat) => s.at t = u ∧ (u.sump.cfgDiff ≠ []))
    (({ up with sump := { up.sump with cfgDiff := [(R.SUMP_KIND_CFG 2, 7#32)] } } : State).setReg R.SUMP_CFG 3) ((({ up with sump := { up.sump with cfgDiff := [(R.SUMP_KIND_CFG 2, 7#32)] } } : State).setReg R.SUMP_CFG 3 : State).at 0) 0  :=
  ⟨rfl, by decide +kernel⟩
theorem witness_sumpCommands_sumpMsgHeadRead : (fun (s u : State) (t : Nat) (i : Initiator) (e : LogEntry) => s.at t = u ∧ (u.logHead i = some e))
    ({ up with sump := { up.sump with log := [⟨33, 2, 0x123456789, 7, 1, 0, false, false⟩] } }) (({ up with sump := { up.sump with log := [⟨33, 2, 0x123456789, 7, 1, 0, false, false⟩] } } : State).at 0) 0 (.app 0 : Initiator) (⟨33, 2, 0x123456789, 7, 1, 0, false, false⟩ : LogEntry) :=
  ⟨rfl, by decide +kernel⟩
theorem witness_sumpCommands_sumpMsgPop : (fun (s u : State) (t : Nat) (i : Initiator) => s.at t = u ∧ (u.takesWrite i R.SUMP_MSG_POP = true) ∧ (u.sump.unread (iniIsCc i) ≠ 0))
    ({ up with sump := { up.sump with curCc := 1, log := [⟨33, 2, 0x123456789, 7, 1, 0, false, false⟩] } }) (({ up with sump := { up.sump with curCc := 1, log := [⟨33, 2, 0x123456789, 7, 1, 0, false, false⟩] } } : State).at 0) 0 (.app 0 : Initiator) :=
  ⟨rfl, by decide +kernel⟩
theorem witness_sumpCommands_errClr : (fun (s u : State) (t : Nat) (i : Initiator) => s.at t = u ∧ (u.takesWrite i R.SUMP_CTRL = true) ∧ (u.safe = false))
    (up) ((up : State).at 0) 0 (.cc : Initiator) :=
  ⟨rfl, by decide +kernel⟩
theorem witness_sumpCommands_fatalClr : (fun (s u : State) (t : Nat) (i : Initiator) => s.at t = u ∧ (u.takesWrite i R.SUMP_CTRL = true))
    (up) ((up : State).at 0) 0 (.cc : Initiator) :=
  ⟨rfl, by decide +kernel⟩
theorem witness_sumpCommands_cfgOk : (fun (s u : State) (t : Nat) (i : Initiator) => s.at t = u ∧ (u.takesWrite i R.SUMP_CTRL = true))
    (up) ((up : State).at 0) 0 (.cc : Initiator) :=
  ⟨rfl, by decide +kernel⟩
theorem witness_sumpCommands_firstClr : (fun (s u : State) (t : Nat) (i : Initiator) => s.at t = u ∧ (u.takesWrite i R.SUMP_CTRL = true))
    (up.setReg R.SUMP_FIRST_LO 5) ((up.setReg R.SUMP_FIRST_LO 5 : State).at 0) 0 (.cc : Initiator) :=
  ⟨rfl, by decide +kernel⟩
theorem witness_sumpCommands_injGo : (fun (s u : State) (t : Nat) (i : Initiator) (w : BitVec 32) => s.at t = u ∧ (u.takesWrite i R.SUMP_INJ = true) ∧ (u.lcState = 1))
    (put up [(R.LCS_STATE, 1)]) ((put up [(R.LCS_STATE, 1)] : State).at 0) 0 (.cc : Initiator) (0x10821#32 : BitVec 32) :=
  ⟨rfl, by decide +kernel⟩
theorem witness_sumpCommands_injPath : (fun (s u : State) (t : Nat) (i : Initiator) => s.at t = u ∧ (u.takesWrite i R.SUMP_INJ = true) ∧ (u.lcState = 1))
    (put up [(R.LCS_STATE, 1)]) ((put up [(R.LCS_STATE, 1)] : State).at 0) 0 (.cc : Initiator) :=
  ⟨rfl, by decide +kernel⟩
theorem witness_sumpCommands_cfgflip : (fun (s u : State) (t : Nat) (i : Initiator) (w : BitVec 32) (k : Nat) => s.at t = u ∧ (u.takesWrite i R.SUMP_INJ = true) ∧ (u.lcState = 1) ∧ (k = bitsOf w.toNat 15 10) ∧ (kindUsed k = true))
    (put up [(R.LCS_STATE, 1)]) ((put up [(R.LCS_STATE, 1)] : State).at 0) 0 (.cc : Initiator) (0x40800#32 : BitVec 32) (2 : Nat) :=
  ⟨rfl, by decide +kernel⟩
theorem witness_sumpCommands_overtemp : (fun (s u : State) (t : Nat) (x : Int) => s.at t = u ∧ (toS 16 (u.fld R.SUMP_TEMP 15 0) ≤ x) ∧ (u.sump.warnSent = false))
    (up) ((up : State).at 0) 0 (240 : Int) :=
  ⟨rfl, by decide +kernel⟩

theorem witness_fuseCommands_progDevid : (fun (s u : State) (t : Nat) (i : Initiator) => s.at t = u ∧ (u.takesWrite i R.LCS_FUSE_CMD = true) ∧ (u.bit R.LCS_FUSE_STATUS 0 = false) ∧ (u.lcState = 0) ∧ (u.fuses.devidDone = false))
    (({ up with fuses := {} } : State).setReg R.LCS_STATE 0) ((({ up with fuses := {} } : State).setReg R.LCS_STATE 0 : State).at 0) 0 (.cc : Initiator) :=
  ⟨rfl, by decide +kernel⟩
theorem witness_fuseCommands_progOemkey : (fun (s u : State) (t : Nat) (i : Initiator) (k : Bool) => s.at t = u ∧ (u.takesWrite i R.LCS_FUSE_CMD = true) ∧ (u.bit R.LCS_FUSE_STATUS 0 = false) ∧ (u.oemRefusal (if k then 1 else 0) = none))
    (oemState) ((oemState : State).at 0) 0 (.cc : Initiator) (false : Bool) :=
  ⟨rfl, by decide +kernel⟩
theorem witness_fuseCommands_revoke : (fun (s u : State) (t : Nat) (i : Initiator) (k : BitVec 2) => s.at t = u ∧ (u.takesWrite i R.LCS_FUSE_CMD = true) ∧ (u.bit R.LCS_FUSE_STATUS 0 = false) ∧ (u.revokeRefusal k.toNat = none))
    (up.setReg R.LCS_STATE 2) ((up.setReg R.LCS_STATE 2 : State).at 0) 0 (.cc : Initiator) (0#2 : BitVec 2) :=
  ⟨rfl, by decide +kernel⟩
theorem witness_fuseCommands_advSvn : (fun (s u : State) (t : Nat) (kind : BitVec 2) (v : BitVec 6) => s.at t = u ∧ (u.takesWrite .cc R.LCS_FUSE_CMD = true) ∧ (u.bit R.LCS_FUSE_STATUS 0 = false) ∧ (u.lcState ≠ 5))
    (up) ((up : State).at 0) 0 (1#2 : BitVec 2) (9#6 : BitVec 6) :=
  ⟨rfl, by decide +kernel⟩
theorem witness_fuseCommands_fuseProgramDone : (fun (s u : State) (t : Nat) => s.at t = u ∧ (u.bit R.LCS_FUSE_STATUS 0 = true) ∧ (u.rd R.LCS_FUSE_CMD % 8 = 3))
    (put up [(R.LCS_FUSE_STATUS, 1), (R.LCS_FUSE_CMD, 0x13)]) ((put up [(R.LCS_FUSE_STATUS, 1), (R.LCS_FUSE_CMD, 0x13)] : State).at 0) 0  :=
  ⟨rfl, by decide +kernel⟩
theorem witness_fuseCommands_fuseProgramDone_2 : (fun (s u : State) (t : Nat) (k : Fin 3) => s.at t = u ∧ (u.bit R.LCS_FUSE_STATUS 0 = true) ∧ (u.rd R.LCS_FUSE_CMD % 8 = 4) ∧ (k.val = bitsOf (u.rd R.LCS_FUSE_CMD) 9 8) ∧ (bitsOf (u.rd R.LCS_FUSE_CMD) 21 16 ≤ 32) ∧ (u.fuses.svn[k] < bitsOf (u.rd R.LCS_FUSE_CMD) 21 16))
    (put up [(R.LCS_FUSE_STATUS, 1), (R.LCS_FUSE_CMD, 0x90104)]) ((put up [(R.LCS_FUSE_STATUS, 1), (R.LCS_FUSE_CMD, 0x90104)] : State).at 0) 0 (1 : Fin 3) :=
  ⟨rfl, by decide +kernel⟩
theorem witness_fuseCommands_jtagInstruction : (fun (s u : State) (t : Nat) (g : Fin 4) => s.at t = u ∧ (u.bit R.LCS_DBG g = false))
    (up) ((up : State).at 0) 0 (2 : Fin 4) :=
  ⟨rfl, by decide +kernel⟩

theorem witness_hostPortResets_controllerEnable : (fun (s u : State) (t : Nat) (p : Port) (cc : BitVec 32) (aqa : BitVec 32) (asq : BitVec 64) (acq : BitVec 64) => s.at t = u ∧ (u.hostOn p = true) ∧ (u.ccEn p = false) ∧ (bitOf cc.toNat 0 = true))
    (up.setPort .a { up := true }) ((up.setPort .a { up := true } : State).at 0) 0 (.a : Port) (0x460001#32 : BitVec 32) (0x1F001F#32 : BitVec 32) (0x1000#64 : BitVec 64) (0x2000#64 : BitVec 64) :=
  ⟨rfl, by decide +kernel⟩
theorem witness_hostPortResets_controllerReset : (fun (s u : State) (t : Nat) (p : Port) => s.at t = u ∧ (u.hostOn p = true) ∧ (u.ccEn p = true))
    (hostUp) ((hostUp : State).at 0) 0 (.a : Port) :=
  ⟨rfl, by decide +kernel⟩
theorem witness_hostPortResets_functionLevelReset : (fun (s u : State) (t : Nat) (p : Port) => s.at t = u ∧ (u.hostOn p = true))
    (hostUp) ((hostUp : State).at 0) 0 (.a : Port) :=
  ⟨rfl, by decide +kernel⟩
theorem witness_hostPortResets_conventionalReset : (fun (s u : State) (t : Nat) (p : Port) => s.at t = u ∧ (u.hostOn p = true))
    (hostUp) ((hostUp : State).at 0) 0 (.a : Port) :=
  ⟨rfl, by decide +kernel⟩
theorem witness_hostPortResets_nvmSubsystemReset : (fun (s u : State) (t : Nat) (p : Port) (w : BitVec 32) => s.at t = u ∧ (u.hostOn p = true) ∧ (w = 0x4E564D65#32))
    (hostUp) ((hostUp : State).at 0) 0 (.a : Port) (0x4E564D65#32 : BitVec 32) :=
  ⟨rfl, by decide +kernel⟩
theorem witness_hostPortResets_shutdownNotification : (fun (s u : State) (t : Nat) (p : Port) (shn : BitVec 2) => s.at t = u ∧ (u.hostOn p = true))
    (hostUp) ((hostUp : State).at 0) 0 (.a : Port) (2#2 : BitVec 2) :=
  ⟨rfl, by decide +kernel⟩
theorem witness_hostPortResets_pcieLinkTrained : (fun (s u : State) (t : Nat) (p : Port) => s.at t = u ∧ (u.domOn (1 + (portNo p).val) = true) ∧ (u.domOn 3 = true) ∧ (p = .a ∨ u.dual = true))
    (up) ((up : State).at 0) 0 (.a : Port) :=
  ⟨rfl, by decide +kernel⟩

theorem witness_queueCommands_queueCreate : (fun (s u : State) (t : Nat) (i : Initiator) (q : Nat) => s.at t = u ∧ (u.takesWrite i R.QENG_QCMD = true) ∧ (u.bit R.QENG_QSTAT 0 = false) ∧ (q = u.fld R.QENG_QSEL 15 0) ∧ (u.bit R.QENG_QSEL 16 = true) ∧ (u.bit R.QENG_QSEL 17 = false) ∧ (u.cq? .a q = none) ∧ (q ≠ 0) ∧ (q < u.qidRange .a) ∧ (u.fld (R.QENG_QCTX 2) 15 0 ≠ 0) ∧ (u.rd64 (R.QENG_QCTX 0) (R.QENG_QCTX 1) % 2 ^ (12 + bitsOf (u.port .a).cc.toNat 10 7) = 0) ∧ (u.fld (R.QENG_QCTX 3) 10 0 < u.vectors))
    (put hostUp [(R.QENG_QSEL, 0x10005), (R.QENG_QCTX 0, 0x5000), (R.QENG_QCTX 2, 0x1001F), (R.QENG_QCTX 3, 3)]) ((put hostUp [(R.QENG_QSEL, 0x10005), (R.QENG_QCTX 0, 0x5000), (R.QENG_QCTX 2, 0x1001F), (R.QENG_QCTX 3, 3)] : State).at 0) 0 (.app 0 : Initiator) (5 : Nat) :=
  ⟨rfl, by decide +kernel⟩
theorem witness_queueCommands_queueCreate_2 : (fun (s u : State) (t : Nat) (i : Initiator) (q : Nat) (c : Cq) => s.at t = u ∧ (u.takesWrite i R.QENG_QCMD = true) ∧ (u.bit R.QENG_QSTAT 0 = false) ∧ (q = u.fld R.QENG_QSEL 15 0) ∧ (u.bit R.QENG_QSEL 16 = false) ∧ (u.bit R.QENG_QSEL 17 = false) ∧ (u.sq? .a q = none) ∧ (u.cq? .a (u.fld (R.QENG_QCTX 3) 15 0) = some c) ∧ (q ≠ 0) ∧ (q < u.qidRange .a) ∧ (u.fld (R.QENG_QCTX 2) 15 0 ≠ 0) ∧ (u.rd64 (R.QENG_QCTX 0) (R.QENG_QCTX 1) % 2 ^ (12 + bitsOf (u.port .a).cc.toNat 10 7) = 0) ∧ (u.bit (R.QENG_QCTX 2) 30 = false))
    (put hostUp [(R.QENG_QSEL, 5), (R.QENG_QCTX 0, 0x5000), (R.QENG_QCTX 2, 0x1001F), (R.QENG_QCTX 3, 1)]) ((put hostUp [(R.QENG_QSEL, 5), (R.QENG_QCTX 0, 0x5000), (R.QENG_QCTX 2, 0x1001F), (R.QENG_QCTX 3, 1)] : State).at 0) 0 (.app 0 : Initiator) (5 : Nat) ({ base := 0x40000, size := 8, ien := false, iv := 0 } : Cq) :=
  ⟨rfl, by decide +kernel⟩
theorem witness_queueCommands_queueDelete : (fun (s u : State) (t : Nat) (i : Initiator) (q : Nat) => s.at t = u ∧ (u.takesWrite i R.QENG_QCMD = true) ∧ (u.bit R.QENG_QSTAT 0 = false) ∧ (q = u.fld R.QENG_QSEL 15 0) ∧ (u.bit R.QENG_QSEL 16 = true) ∧ (u.bit R.QENG_QSEL 17 = false) ∧ ((u.cq? .a q).isSome = true) ∧ (((u.sqsOf .a).any (fun x => x.2.cqid == q)) = false) ∧ (q ≠ 0) ∧ (q < u.qidRange .a))
    (put (hostUp.putCq .a 9 { base := 0, size := 8, ien := true, iv := 0 }) [(R.QENG_QSEL, 0x10009)]) ((put (hostUp.putCq .a 9 { base := 0, size := 8, ien := true, iv := 0 }) [(R.QENG_QSEL, 0x10009)] : State).at 0) 0 (.app 0 : Initiator) (9 : Nat) :=
  ⟨rfl, by decide +kernel⟩
theorem witness_queueCommands_queueDelete_2 : (fun (s u : State) (t : Nat) (i : Initiator) (q : Nat) => s.at t = u ∧ (u.takesWrite i R.QENG_QCMD = true) ∧ (u.bit R.QENG_QSTAT 0 = false) ∧ (q = u.fld R.QENG_QSEL 15 0) ∧ (u.bit R.QENG_QSEL 16 = false) ∧ (u.bit R.QENG_QSEL 17 = false) ∧ ((u.sq? .a q).isSome = true) ∧ (u.qeng.slots = []) ∧ (q ≠ 0) ∧ (q < u.qidRange .a))
    (put hostUp [(R.QENG_QSEL, 1)]) ((put hostUp [(R.QENG_QSEL, 1)] : State).at 0) 0 (.app 0 : Initiator) (1 : Nat) :=
  ⟨rfl, by decide +kernel⟩
theorem witness_queueCommands_queueRead : (fun (s u : State) (t : Nat) (i : Initiator) (x : Cq) => s.at t = u ∧ (u.takesWrite i R.QENG_QCMD = true) ∧ (u.bit R.QENG_QSTAT 0 = false) ∧ (u.bit R.QENG_QSEL 16 = true) ∧ (u.bit R.QENG_QSEL 17 = false) ∧ (u.cq? .a (u.fld R.QENG_QSEL 15 0) = some x))
    (put hostUp [(R.QENG_QSEL, 0x10001)]) ((put hostUp [(R.QENG_QSEL, 0x10001)] : State).at 0) 0 (.app 0 : Initiator) ({ base := 0x40000, size := 8, ien := false, iv := 0 } : Cq) :=
  ⟨rfl, by decide +kernel⟩
theorem witness_queueCommands_doorbellWrite : (fun (s u : State) (t : Nat) (p : Port) (off : Nat) (q : Nat) (w : BitVec 32) (x : Sq) => s.at t = u ∧ (u.hostOn p = true) ∧ (u.ccEn p = true) ∧ (q < u.qidRange p) ∧ (q < 65536) ∧ (off = 0x1000 + 8 * q) ∧ (u.sq? p q = some x) ∧ (x.deleting = false) ∧ (w.toNat < x.size) ∧ (x.entries ≤ (w.toNat + x.size - x.head) % x.size))
    (hostUp) ((hostUp : State).at 0) 0 (.a : Port) (0x1008 : Nat) (1 : Nat) (5#32 : BitVec 32) ({ base := 0x30000, size := 8, prio := 0, group := 0, vx := false, cqid := 1, head := 1, tail := 3 } : Sq) :=
  ⟨rfl, by decide +kernel⟩
theorem witness_queueCommands_doorbellWrite_2 : (fun (s u : State) (t : Nat) (p : Port) (off : Nat) (q : Nat) (w : BitVec 32) (x : Cq) => s.at t = u ∧ (u.hostOn p = true) ∧ (u.ccEn p = true) ∧ (q < u.qidRange p) ∧ (q < 65536) ∧ (off = 0x1004 + 8 * q) ∧ (u.cq? p q = some x) ∧ (w.toNat < x.size) ∧ ((w.toNat + x.size - x.head) % x.size ≤ (x.tail + x.size - x.head) % x.size))
    (hostUp.putCq .a 1 { base := 0x40000, size := 8, ien := false, iv := 0, tail := 2 }) ((hostUp.putCq .a 1 { base := 0x40000, size := 8, ien := false, iv := 0, tail := 2 } : State).at 0) 0 (.a : Port) (0x100C : Nat) (1 : Nat) (2#32 : BitVec 32) ({ base := 0x40000, size := 8, ien := false, iv := 0, tail := 2 } : Cq) :=
  ⟨rfl, by decide +kernel⟩
theorem witness_queueCommands_fetchDecision : (fun (s u : State) (t : Nat) (p : Port) (x : Sq) => s.at t = u ∧ (u.hostOn p = true) ∧ (u.qeng.lastPort ≠ some p) ∧ (u.sq? p 0 = some x) ∧ (u.sqReady p 0 x = true))
    (hostUp) ((hostUp : State).at 0) 0 (.a : Port) ({ base := 0x10000, size := 8, prio := 0, group := 0, vx := false, cqid := 0, tail := 1 } : Sq) :=
  ⟨rfl, by decide +kernel⟩
theorem witness_queueCommands_sqFetchComplete : (fun (s u : State) (t : Nat) (p : Port) (entries : List (List (BitVec 32))) (x : Sq) (q : Nat) (f : Nat) (k : Nat) (e : List (BitVec 32)) (rest : List FetchRun) => s.at t = u ∧ (u.domOn 3 = true) ∧ ((u.port p).reads = ⟨q, f, 1, [k]⟩ :: rest) ∧ (u.sq? p q = some x) ∧ (x.deleting = false) ∧ (entries = [e]) ∧ (fuseOf e = 0))
    (hostUp.setPort .a { hostUp.port .a with reads := [⟨0, 0, 1, [3]⟩] }) ((hostUp.setPort .a { hostUp.port .a with reads := [⟨0, 0, 1, [3]⟩] } : State).at 0) 0 (.a : Port) ([[0x00420006#32]] : List (List (BitVec 32))) ({ base := 0x10000, size := 8, prio := 0, group := 0, vx := false, cqid := 0, tail := 1 } : Sq) (0 : Nat) (0 : Nat) (3 : Nat) ([0x00420006#32] : List (BitVec 32)) ([] : List FetchRun) :=
  ⟨rfl, by decide +kernel⟩
theorem witness_queueCommands_qengDberrPop : (fun (s u : State) (t : Nat) (i : Initiator) (w : Word) (r : List Word) => s.at t = u ∧ (u.domOn 3 = true) ∧ (u.qeng.dberr = w :: r))
    ({ up with qeng := { up.qeng with dberr := [9#32, 8#32] } }) (({ up with qeng := { up.qeng with dberr := [9#32, 8#32] } } : State).at 0) 0 (.cc : Initiator) (9#32 : Word) ([8#32] : List Word) :=
  ⟨rfl, by decide +kernel⟩

theorem witness_slotsAndCompletions_dispatchRecord : (fun (s u : State) (t : Nat) (c : Fin 4) (r : DispRec) (rest : List DispRec) => s.at t = u ∧ (u.domOn 3 = true) ∧ (u.rd (R.QENG_DISP_SIZE c) ≠ 0) ∧ (ringFull (u.rd (R.QENG_DISP_PROD c)) (u.rd (R.QENG_DISP_CONS c)) (u.rd (R.QENG_DISP_SIZE c)) = false) ∧ (firstRec (u.bit R.QENG_PS_CTRL 0) u.qeng.dispQ[c] = some (r, rest)))
    (put { up with qeng := { up.qeng with dispQ := up.qeng.dispQ.set 1 [⟨0, 7, .a, 7#32, 1#32, 4#32, 0#32, false⟩] } } [(R.QENG_DISP_SIZE 1, 16), (R.QENG_DISP_PROD 1, 15), (R.QENG_DISP_CONS 1, 2), (R.QENG_DISP_BASE_LO 1, 0x20000000)]) ((put { up with qeng := { up.qeng with dispQ := up.qeng.dispQ.set 1 [⟨0, 7, .a, 7#32, 1#32, 4#32, 0#32, false⟩] } } [(R.QENG_DISP_SIZE 1, 16), (R.QENG_DISP_PROD 1, 15), (R.QENG_DISP_CONS 1, 2), (R.QENG_DISP_BASE_LO 1, 0x20000000)] : State).at 0) 0 (1 : Fin 4) (⟨0, 7, .a, 7#32, 1#32, 4#32, 0#32, false⟩ : DispRec) ([] : List DispRec) :=
  ⟨rfl, by decide +kernel⟩
theorem witness_slotsAndCompletions_completionPost : (fun (s u : State) (t : Nat) (i : Initiator) (w3 : BitVec 32) (k : Nat) (x : CmdSlot) => s.at t = u ∧ (u.takesWrite i (R.QENG_CPL_W 3) = true) ∧ (k = iniGet 0 u.qeng.cpl0 i % 1024) ∧ (u.slot? k = some x) ∧ (x.win = false) ∧ (x.fate = .live) ∧ (x.posted = false))
    ({ inSlot hostUp slot1 with qeng := { (inSlot hostUp slot1).qeng with cpl0 := [(.app 1, 7)] } }) (({ inSlot hostUp slot1 with qeng := { (inSlot hostUp slot1).qeng with cpl0 := [(.app 1, 7)] } } : State).at 0) 0 (.app 1 : Initiator) (0x4002#32 : BitVec 32) (7 : Nat) (slot1 : CmdSlot) :=
  ⟨rfl, by decide +kernel⟩
theorem witness_slotsAndCompletions_completionCommit : (fun (s u : State) (t : Nat) (slot : Nat) (x : CmdSlot) (d0 : Word) (d1 : Word) (st : Nat) (q : Sq) (c : Cq) => s.at t = u ∧ (u.domOn 3 = true) ∧ (u.slot? slot = some x) ∧ (x.post = some (d0, d1, st)) ∧ (u.sq? x.port x.sqid = some q) ∧ (x.committed = false) ∧ (x.fate ≠ .discarded) ∧ ((u.port x.port).cfs = false) ∧ (u.ordReady x = true) ∧ (u.fuseReady x = true) ∧ (u.cq? x.port q.cqid = some c) ∧ ((c.tail + 1) % c.size ≠ c.head) ∧ (c.ien = false))
    (inSlot hostUp { slot1 with post := some (1#32, 2#32, 3), posted := true }) ((inSlot hostUp { slot1 with post := some (1#32, 2#32, 3), posted := true } : State).at 0) 0 (7 : Nat) ({ slot1 with post := some (1#32, 2#32, 3), posted := true } : CmdSlot) (1#32 : Word) (2#32 : Word) (3 : Nat) ({ base := 0x30000, size := 8, prio := 0, group := 0, vx := false, cqid := 1, head := 1, tail := 3 } : Sq) ({ base := 0x40000, size := 8, ien := false, iv := 0 } : Cq) :=
  ⟨rfl, by decide +kernel⟩
theorem witness_slotsAndCompletions_interruptCoalescingTimeout : (fun (s u : State) (t : Nat) (p : Port) (v : Nat) (r : IcRun) => s.at t = u ∧ (u.domOn 3 = true) ∧ (findKey (2048 * (portNo p).val + v) u.qeng.icRun = some r) ∧ (r.first + 100000 * bitsOf (u.icCfg p v) 15 8 ≤ u.gtc) ∧ (2048 * (portNo p).val + v ∈ u.qeng.unmasked))
    ({ up with qeng := { up.qeng with icRun := [(3, ⟨1, 0⟩)], unmasked := [3] } }) (({ up with qeng := { up.qeng with icRun := [(3, ⟨1, 0⟩)], unmasked := [3] } } : State).at 0) 0 (.a : Port) (3 : Nat) (⟨1, 0⟩ : IcRun) :=
  ⟨rfl, by decide +kernel⟩
theorem witness_slotsAndCompletions_msixUnmask : (fun (s u : State) (t : Nat) (p : Port) (v : Nat) => s.at t = u ∧ (u.hostOn p = true) ∧ (v < u.vectors) ∧ (2048 * (portNo p).val + v ∈ u.qeng.msixPend))
    ({ hostUp with qeng := { hostUp.qeng with msixPend := [3] } }) (({ hostUp with qeng := { hostUp.qeng with msixPend := [3] } } : State).at 0) 0 (.a : Port) (3 : Nat) :=
  ⟨rfl, by decide +kernel⟩
theorem witness_slotsAndCompletions_abortLookup : (fun (s u : State) (t : Nat) (i : Initiator) (w : BitVec 32) (k : Nat) (x : CmdSlot) => s.at t = u ∧ (u.takesWrite i R.QENG_ABORT1 = true) ∧ (u.qeng.slots = [(k, x)]) ∧ (x.port = .a) ∧ (bitOf (iniGet 0 u.qeng.abort0 i) 16 = false) ∧ (x.sqid = iniGet 0 u.qeng.abort0 i % 65536) ∧ (x.cid = w.toNat % 65536) ∧ (x.committed = false) ∧ (x.fate = .live))
    ({ inSlot hostUp slot1 with qeng := { (inSlot hostUp slot1).qeng with abort0 := [(.app 1, 1)] } }) (({ inSlot hostUp slot1 with qeng := { (inSlot hostUp slot1).qeng with abort0 := [(.app 1, 1)] } } : State).at 0) 0 (.app 1 : Initiator) (0x55#32 : BitVec 32) (7 : Nat) (slot1 : CmdSlot) :=
  ⟨rfl, by decide +kernel⟩
theorem witness_slotsAndCompletions_slotRelease : (fun (s u : State) (t : Nat) (i : Initiator) (w : BitVec 32) (k : Nat) (x : CmdSlot) => s.at t = u ∧ (u.takesWrite i R.QENG_SLOT_REL = true) ∧ (k = w.toNat % 1024) ∧ (u.slot? k = some x) ∧ (x.win = false) ∧ (x.committed = true))
    (inSlot hostUp { slot1 with committed := true }) ((inSlot hostUp { slot1 with committed := true } : State).at 0) 0 (.app 0 : Initiator) (7#32 : BitVec 32) (7 : Nat) ({ slot1 with committed := true } : CmdSlot) :=
  ⟨rfl, by decide +kernel⟩
theorem witness_slotsAndCompletions_pause : (fun (s u : State) (t : Nat) (i : Initiator) (p : Port) (on : Bool) => s.at t = u ∧ (u.takesWrite i R.QENG_CTRL = true))
    (up) ((up : State).at 0) 0 (.app 0 : Initiator) (.b : Port) (true : Bool) :=
  ⟨rfl, by decide +kernel⟩
theorem witness_slotsAndCompletions_fetchQuiesced : (fun (s u : State) (t : Nat) (p : Port) => s.at t = u ∧ (u.domOn 3 = true) ∧ (u.bit R.QENG_CTRL (2 + (portNo p).val) = true) ∧ ((u.port p).reads = []))
    (up.setReg R.QENG_CTRL 8) ((up.setReg R.QENG_CTRL 8 : State).at 0) 0 (.b : Port) :=
  ⟨rfl, by decide +kernel⟩
theorem witness_slotsAndCompletions_hold : (fun (s u : State) (t : Nat) (i : Initiator) (on : Bool) => s.at t = u ∧ (u.takesWrite i R.QENG_PS_CTRL = true))
    (up) ((up : State).at 0) 0 (.app 0 : Initiator) (true : Bool) :=
  ⟨rfl, by decide +kernel⟩

theorem witness_powerLossDecision_powerLoss : (fun (s u : State) (t : Nat) => s.at t = u ∧ (u.maon.powerLossAt = none))
    (up) ((up : State).at 0) 0  :=
  ⟨rfl, by decide +kernel⟩

theorem witness_schedulerOperations_transferSubmit : (fun (s u : State) (t : Nat) (i : Initiator) (c : Fin 4) (w : BitVec 32) => s.at t = u ∧ (u.takesWrite i (R.MSCH_XQ_PROD c) = true))
    (up) ((up : State).at 0) 0 (.app 1 : Initiator) (1 : Fin 4) (3#32 : BitVec 32) :=
  ⟨rfl, by decide +kernel⟩
theorem witness_schedulerOperations_transferComplete : (fun (s u : State) (t : Nat) (c : Fin 4) (status : BitVec 4) (bad : Nat) (blocks : List HostBlock) => s.at t = u ∧ (u.domOn 7 = true) ∧ (u.domOn 3 = true) ∧ (u.rd (R.MSCH_XQ_SIZE c) ≠ 0) ∧ (u.rd (R.MSCH_XC_SIZE c) ≠ 0) ∧ (u.rd (R.MSCH_XQ_CONS c) < u.rd (R.MSCH_XQ_SIZE c)) ∧ (u.rd (R.MSCH_XQ_PROD c) < u.rd (R.MSCH_XQ_SIZE c)) ∧ (u.rd (R.MSCH_XQ_CONS c) ≠ u.rd (R.MSCH_XQ_PROD c)) ∧ (ringFull (u.rd (R.MSCH_XC_PROD c)) (u.rd (R.MSCH_XC_CONS c)) (u.rd (R.MSCH_XC_SIZE c)) = false))
    (put up [(R.MSCH_XQ_SIZE 1, 4), (R.MSCH_XQ_PROD 1, 2), (R.MSCH_XC_SIZE 1, 4), (R.MSCH_XQ_BASE_LO 1, 0x20000000), (R.MSCH_XC_BASE_LO 1, 0x20001000)]) ((put up [(R.MSCH_XQ_SIZE 1, 4), (R.MSCH_XQ_PROD 1, 2), (R.MSCH_XC_SIZE 1, 4), (R.MSCH_XQ_BASE_LO 1, 0x20000000), (R.MSCH_XC_BASE_LO 1, 0x20001000)] : State).at 0) 0 (1 : Fin 4) (0#4 : BitVec 4) (0 : Nat) ([] : List HostBlock) :=
  ⟨rfl, by decide +kernel⟩
theorem witness_schedulerOperations_opSubmit : (fun (s u : State) (t : Nat) (i : Initiator) (n : Fin 4) (w : BitVec 32) => s.at t = u ∧ (u.takesWrite i (R.MSCH_SQ_PROD n) = true))
    (up) ((up : State).at 0) 0 (.app 1 : Initiator) (1 : Fin 4) (3#32 : BitVec 32) :=
  ⟨rfl, by decide +kernel⟩
theorem witness_schedulerOperations_opTake : (fun (s u : State) (t : Nat) (n : Fin 4) (zone : Zone) => s.at t = u ∧ (u.domOn 7 = true) ∧ (u.bit (R.MSCH_CTRL n) 0 = true) ∧ (u.maon.powerLossAt = none) ∧ (u.rd (R.MSCH_SQ_CONS n) < u.rd (R.MSCH_SQ_SIZE n)) ∧ (u.rd (R.MSCH_SQ_PROD n) < u.rd (R.MSCH_SQ_SIZE n)) ∧ (u.rd (R.MSCH_SQ_PROD n) ≠ u.rd (R.MSCH_SQ_CONS n)) ∧ ((u.msch n).pending.length + (u.msch n).run.length + b2n (u.msch n).pos.isSome < 256) ∧ ((u.takeRead n).err = false) ∧ (mopBad (u.takeRead n).bytes = false) ∧ ((u.takeZone n).2 = some zone) ∧ ((u.takeMop n).first + (u.takeMop n).count ≤ zone.s))
    (takeState) ((takeState : State).at 0) 0 (1 : Fin 4) (⟨0, 100, 65536, 10, 0, 0⟩ : Zone) :=
  ⟨rfl, by decide +kernel⟩
theorem witness_schedulerOperations_opSelect : (fun (s u : State) (t : Nat) (n : Fin 4) (ang : Nat) (o : Mop) => s.at t = u ∧ (u.domOn 7 = true) ∧ (u.bit (R.MSCH_CTRL n) 0 = true) ∧ (u.maon.powerLossAt = none) ∧ (u.bit (R.MSCH_CTRL n) 1 = false) ∧ ((u.msch n).cur = none) ∧ ((u.msch n).pos = none) ∧ (u.granted n = false) ∧ (u.pickOp n ang = some o) ∧ (u.present n = some (o.head, o.track)))
    (put (m1 up { pending := [mop1] }) [(R.ACT_STATUS 1, 0)]) ((put (m1 up { pending := [mop1] }) [(R.ACT_STATUS 1, 0)] : State).at 0) 0 (1 : Fin 4) (0 : Nat) (mop1 : Mop) :=
  ⟨rfl, by decide +kernel⟩
theorem witness_schedulerOperations_opSelect_2 : (fun (s u : State) (t : Nat) (n : Fin 4) (ang : Nat) (o : Mop) => s.at t = u ∧ (u.domOn 7 = true) ∧ (u.bit (R.MSCH_CTRL n) 0 = true) ∧ (u.maon.powerLossAt = none) ∧ (u.bit (R.MSCH_CTRL n) 1 = false) ∧ ((u.msch n).cur = none) ∧ ((u.msch n).pos = none) ∧ (u.granted n = false) ∧ (u.pickOp n ang = some o) ∧ (u.present n ≠ some (o.head, o.track)) ∧ ((u.msch n).run = []))
    (m1 up { pending := [{ mop1 with track := 50 }] }) ((m1 up { pending := [{ mop1 with track := 50 }] } : State).at 0) 0 (1 : Fin 4) (0 : Nat) ({ mop1 with track := 50 } : Mop) :=
  ⟨rfl, by decide +kernel⟩
theorem witness_schedulerOperations_positioningTimeout : (fun (s u : State) (t : Nat) (n : Fin 4) (r : OpRun) (t0 : Nat) => s.at t = u ∧ (u.domOn 7 = true) ∧ ((u.msch n).pos = some (r, t0)) ∧ ((u.msch n).settled = false) ∧ (t0 + 1000000 * u.fld (R.MSCH_TIME n) 31 16 ≤ u.gtc))
    ((m1 up { pos := some (run1, 0) })) (((m1 up { pos := some (run1, 0) }) : State).at 0) 0 (1 : Fin 4) (run1 : OpRun) (0 : Nat) :=
  ⟨rfl, by decide +kernel⟩
theorem witness_schedulerOperations_opComplete : (fun (s u : State) (t : Nat) (n : Fin 4) (r : OpRec) (rest : List OpRec) => s.at t = u ∧ (u.domOn 7 = true) ∧ ((u.msch n).recs = r :: rest) ∧ (u.rd (R.MSCH_CQ_SIZE n) ≠ 0) ∧ (ringFull (u.rd (R.MSCH_CQ_PROD n)) (u.rd (R.MSCH_CQ_CONS n)) (u.rd (R.MSCH_CQ_SIZE n)) = false))
    (put (m1 up { recs := [⟨[1, 2, 3, 4, 5, 6, 7, 8], true⟩] }) [(R.MSCH_CQ_SIZE 1, 4), (R.MSCH_CQ_BASE_LO 1, 0x20000000)]) ((put (m1 up { recs := [⟨[1, 2, 3, 4, 5, 6, 7, 8], true⟩] }) [(R.MSCH_CQ_SIZE 1, 4), (R.MSCH_CQ_BASE_LO 1, 0x20000000)] : State).at 0) 0 (1 : Fin 4) (⟨[1, 2, 3, 4, 5, 6, 7, 8], true⟩ : OpRec) ([] : List OpRec) :=
  ⟨rfl, by decide +kernel⟩
theorem witness_schedulerOperations_mschCancel : (fun (s u : State) (t : Nat) (i : Initiator) (n : Fin 4) (w : BitVec 32) (o : Mop) => s.at t = u ∧ (u.takesWrite i (R.MSCH_CANCEL n) = true) ∧ ((u.msch n).pending = [o]) ∧ ((u.msch n).run = []) ∧ ((u.msch n).pos = none) ∧ (o.optag = w.toNat % 65536) ∧ (o.bv = false))
    (m1 up { pending := [mop1] }) ((m1 up { pending := [mop1] } : State).at 0) 0 (.app 0 : Initiator) (1 : Fin 4) (0x21#32 : BitVec 32) (mop1 : Mop) :=
  ⟨rfl, by decide +kernel⟩
theorem witness_schedulerOperations_quiet : (fun (s u : State) (t : Nat) (n : Fin 4) => s.at t = u ∧ (u.domOn 7 = true) ∧ (u.bit (R.MSCH_CTRL n) 1 = true) ∧ ((u.msch n).run = []))
    (up.setReg (R.MSCH_CTRL 1) 3) ((up.setReg (R.MSCH_CTRL 1) 3 : State).at 0) 0 (1 : Fin 4) :=
  ⟨rfl, by decide +kernel⟩

theorem witness_schedulerEvents_schedulerEventLoad : (fun (s u : State) (t : Nat) (n : Fin 4) (ang : Nat) (v : State) (r : OpRun) (e : LoadEv) (rest : List LoadEv) => s.at t = u ∧ (v = u.turnTo n ang) ∧ (v.domOn 7 = true) ∧ (v.domOn (16 + n.val) = true) ∧ (v.bit (R.MSCH_CTRL n) 0 = true) ∧ (v.bit (R.MSCH_CTRL n) 1 = false) ∧ (v.linkUp = true) ∧ (v.fld (R.MSCH_CFG n) 9 4 < 256 - (v.sec n).atb.data.length) ∧ (v.maon.powerLossAt = none) ∧ ((u.msch n).run = [r]) ∧ ((u.msch n).pos = none) ∧ (r.todo = e :: rest) ∧ (e.first = true) ∧ (e.sec = none) ∧ (4 * v.rd (R.ATB_LEAD_CNT n) ≤ (e.ang + REV_COUNTS - v.angle n) % REV_COUNTS) ∧ ((e.ang + REV_COUNTS - v.angle n) % REV_COUNTS ≤ v.fld (R.MSCH_CFG n) 2 0 * WEDGE_COUNTS))
    (put (m1 up { run := [run1], cur := some 3 }) [(R.MSCH_CFG 1, 1), (R.ATB_LEAD_CNT 1, 1000)]) ((put (m1 up { run := [run1], cur := some 3 }) [(R.MSCH_CFG 1, 1), (R.ATB_LEAD_CNT 1, 1000)] : State).at 0) 0 (1 : Fin 4) (1000 : Nat) (((put (m1 up { run := [run1], cur := some 3 }) [(R.MSCH_CFG 1, 1), (R.ATB_LEAD_CNT 1, 1000)] : State).at 0).turnTo 1 1000 : State) (run1 : OpRun) (⟨none, 7, 262144, 33, 0, true⟩ : LoadEv) ([] : List LoadEv) :=
  ⟨rfl, by decide +kernel⟩
theorem witness_schedulerEvents_schedulerRecord : (fun (s u : State) (t : Nat) (n : Fin 4) (c : CplRec) (rest : List CplRec) (r : OpRun) (e : OutEv) => s.at t = u ∧ (u.domOn 7 = true) ∧ ((u.msch n).notes = c :: rest) ∧ ((u.msch n).run = [r]) ∧ (r.out = [e]) ∧ (e.tag = c.w0.toNat % 65536) ∧ (e.sec = none) ∧ (r.todo ≠ []))
    (m1 up { run := [run1], notes := [⟨0x8005#32, 0#32, 0#32, 0#32⟩] }) ((m1 up { run := [run1], notes := [⟨0x8005#32, 0#32, 0#32, 0#32⟩] } : State).at 0) 0 (1 : Fin 4) (⟨0x8005#32, 0#32, 0#32, 0#32⟩ : CplRec) ([] : List CplRec) (run1 : OpRun) (⟨0x8005, none, 7, 0⟩ : OutEv) :=
  ⟨rfl, by decide +kernel⟩
theorem witness_schedulerEvents_schedulerLinkRecover : (fun (s u : State) (t : Nat) (n : Fin 4) (r : OpRun) (e : OutEv) => s.at t = u ∧ (u.domOn 7 = true) ∧ (u.linkUp = true) ∧ ((u.sec n).atb.holdSched = []) ∧ ((u.msch n).notes = []) ∧ ((u.msch n).run = [r]) ∧ (r.op.op = 2) ∧ (r.out = [e]) ∧ (e.ups < u.pass.ups) ∧ (e.sec = none) ∧ (r.todo ≠ []))
    (m1 { up with pass := { up.pass with ups := 2 } } { run := [{ run1 with op := { mop1 with op := 2 } }] }) ((m1 { up with pass := { up.pass with ups := 2 } } { run := [{ run1 with op := { mop1 with op := 2 } }] } : State).at 0) 0 (1 : Fin 4) ({ run1 with op := { mop1 with op := 2 } } : OpRun) (⟨0x8005, none, 7, 0⟩ : OutEv) :=
  ⟨rfl, by decide +kernel⟩
theorem witness_schedulerEvents_mediaDmaReadBlock : (fun (s u : State) (t : Nat) (n : Fin 4) (x : MediaUp) (rest : List MediaUp) (r : OpRun) (k : Nat) => s.at t = u ∧ (u.domOn 7 = true) ∧ (u.linkUp = true) ∧ ((u.sec n).chan.up = x :: rest) ∧ (x.block = none) ∧ ((u.msch n).run = [r]) ∧ ((u.msch n).runOfSid x.sid = some (r, k)) ∧ (r.waits k = true) ∧ (r.out ≠ []))
    (ch1 (m1 up { run := [{ run1 with out := [⟨0x8005, some 0, 1, 0⟩] }] }) { up := [⟨0x77, 5#32, none⟩] }) ((ch1 (m1 up { run := [{ run1 with out := [⟨0x8005, some 0, 1, 0⟩] }] }) { up := [⟨0x77, 5#32, none⟩] } : State).at 0) 0 (1 : Fin 4) (⟨0x77, 5#32, none⟩ : MediaUp) ([] : List MediaUp) ({ run1 with out := [⟨0x8005, some 0, 1, 0⟩] } : OpRun) (0 : Nat) :=
  ⟨rfl, by decide +kernel⟩
theorem witness_schedulerEvents_mediaDmaWriteBlock : (fun (s u : State) (t : Nat) (n : Fin 4) (sid : Nat) (rest : List Nat) (r : OpRun) (k : Nat) => s.at t = u ∧ (u.domOn 7 = true) ∧ (u.linkUp = true) ∧ ((u.msch n).wq = sid :: rest) ∧ ((u.msch n).runOfSid sid = some (r, k)) ∧ ((u.blockData n r.op k).err = false) ∧ ((u.blockSide n r.op k).err = false))
    (m1 up { run := [run1], wq := [0x77] }) ((m1 up { run := [run1], wq := [0x77] } : State).at 0) 0 (1 : Fin 4) (0x77 : Nat) ([] : List Nat) (run1 : OpRun) (0 : Nat) :=
  ⟨rfl, by decide +kernel⟩

theorem witness_bufferWords_mergeWrite : (fun (s u : State) (t : Nat) (i : Initiator) (addr : Nat) (bytes : List (BitVec 8)) => s.at t = u ∧ (u.domOn 7 = true) ∧ (inDram addr = true) ∧ ((addr - dramBase) % 16 = 0) ∧ (bytes.length = 16) ∧ (addr - dramBase < u.usable) ∧ (isCore i = false ∨ u.chkOn (addr - dramBase) = false))
    (up) ((up : State).at 0) 0 (.cc : Initiator) (dramBase + 32 : Nat) (List.replicate 16 7#8 : List (BitVec 8)) :=
  ⟨rfl, by decide +kernel⟩
theorem witness_bufferWords_mergeWrite_2 : (fun (s u : State) (t : Nat) (i : Initiator) (addr : Nat) (bytes : List (BitVec 8)) => s.at t = u ∧ (u.domOn 7 = true) ∧ (inDram addr = true) ∧ (0 < bytes.length) ∧ ((addr - dramBase) % 16 + bytes.length < 16) ∧ (addr - dramBase < u.usable) ∧ (eccClass (u.dramSynOf ((addr - dramBase) / 16)) = .clean))
    (up.storeWord 2 0x112233445566 0) ((up.storeWord 2 0x112233445566 0 : State).at 0) 0 (.mgmt : Initiator) (dramBase + 35 : Nat) ([7#8] : List (BitVec 8)) :=
  ⟨rfl, by decide +kernel⟩
theorem witness_bufferWords_ceWriteBack : (fun (s u : State) (t : Nat) (w : Nat) (d : Nat) (rest : List (Nat × Nat)) => s.at t = u ∧ (u.domOn 7 = true) ∧ (u.buf.ceQ = (w, d) :: rest))
    ({ up with buf := { up.buf with ceQ := [(3, 77)] } }) (({ up with buf := { up.buf with ceQ := [(3, 77)] } } : State).at 0) 0 (3 : Nat) (77 : Nat) ([] : List (Nat × Nat)) :=
  ⟨rfl, by decide +kernel⟩
theorem witness_bufferWords_fillGo : (fun (s u : State) (t : Nat) (i : Initiator) (w : BitVec 32) => s.at t = u ∧ (u.takesWrite i R.BUF_FILL_CTRL = true) ∧ (bitOf w.toNat 0 = true) ∧ (u.buf.fill = none) ∧ (u.rd64 R.BUF_FILL_START_LO R.BUF_FILL_START_HI % 16 = 0) ∧ (u.rd64 R.BUF_FILL_LEN_LO R.BUF_FILL_LEN_HI % 16 = 0) ∧ (dramBase ≤ u.rd64 R.BUF_FILL_START_LO R.BUF_FILL_START_HI) ∧ (u.rd64 R.BUF_FILL_START_LO R.BUF_FILL_START_HI + u.rd64 R.BUF_FILL_LEN_LO R.BUF_FILL_LEN_HI ≤ dramBase + u.usable))
    (put up [(R.BUF_FILL_START_LO, dramBase % 2 ^ 32), (R.BUF_FILL_START_HI, dramBase / 2 ^ 32), (R.BUF_FILL_LEN_LO, 64)]) ((put up [(R.BUF_FILL_START_LO, dramBase % 2 ^ 32), (R.BUF_FILL_START_HI, dramBase / 2 ^ 32), (R.BUF_FILL_LEN_LO, 64)] : State).at 0) 0 (.app 1 : Initiator) (1#32 : BitVec 32) :=
  ⟨rfl, by decide +kernel⟩
theorem witness_bufferWords_fillAbort : (fun (s u : State) (t : Nat) (i : Initiator) (f : FillRun) => s.at t = u ∧ (u.takesWrite i R.BUF_FILL_CTRL = true) ∧ (u.buf.fill = some f))
    ({ up with buf := { up.buf with fill := some ⟨0, 1, false, 5⟩ } }) (({ up with buf := { up.buf with fill := some ⟨0, 1, false, 5⟩ } } : State).at 0) 0 (.app 1 : Initiator) (⟨0, 1, false, 5⟩ : FillRun) :=
  ⟨rfl, by decide +kernel⟩
theorem witness_bufferWords_fillDone : (fun (s u : State) (t : Nat) (f : FillRun) => s.at t = u ∧ (u.buf.fill = some f))
    ({ up with buf := { up.buf with fill := some ⟨0, 1, false, 5⟩ } }) (({ up with buf := { up.buf with fill := some ⟨0, 1, false, 5⟩ } } : State).at 0) 0 (⟨0, 1, false, 5⟩ : FillRun) :=
  ⟨rfl, by decide +kernel⟩
theorem witness_bufferWords_scrubRead : (fun (s u : State) (t : Nat) (w : Nat) => s.at t = u ∧ (u.domOn 7 = true) ∧ (u.bit R.BUF_SCRUB_CFG 0 = true) ∧ (u.maon.powerLossAt = none) ∧ (u.scrubWord = some w))
    (put up [(R.BUF_SCRUB_CFG, 1), (R.BUF_INIT 0, 2)]) ((put up [(R.BUF_SCRUB_CFG, 1), (R.BUF_INIT 0, 2)] : State).at 0) 0 (65536 : Nat) :=
  ⟨rfl, by decide +kernel⟩
theorem witness_bufferWords_initSet : (fun (s u : State) (t : Nat) (i : Initiator) (k : Nat) (w : BitVec 32) => s.at t = u ∧ (k < 224) ∧ (u.takesWrite i (R.BUF_INIT k) = true))
    (up) ((up : State).at 0) 0 (.app 1 : Initiator) (223 : Nat) (5#32 : BitVec 32) :=
  ⟨rfl, by decide +kernel⟩
theorem witness_bufferWords_initClr : (fun (s u : State) (t : Nat) (i : Initiator) (w : BitVec 32) => s.at t = u ∧ (u.takesWrite i R.BUF_INIT_CLR = true) ∧ (w.toNat % 8192 < 7168))
    (put up [(R.BUF_INIT 223, 0xFFFFFFFF)]) ((put up [(R.BUF_INIT 223, 0xFFFFFFFF)] : State).at 0) 0 (.app 1 : Initiator) (7167#32 : BitVec 32) :=
  ⟨rfl, by decide +kernel⟩

theorem witness_dirtyTableAndDump_dtMark : (fun (s u : State) (t : Nat) (i : Initiator) (w : BitVec 32) (x : Nat) (c : Nat) => s.at t = u ∧ (u.takesWrite i R.BUF_DT_MARK = true) ∧ (x = w.toNat % 65536) ∧ (u.buf.dumpStarted = false) ∧ ((u.buf.marks.any (fun m => m.1 == x)) = false) ∧ (u.wordsBad (u.dtAddr x) 4 = false) ∧ ((u.dtRead x).err = false) ∧ (c = bitsOf (wordAt (u.dtRead x).bytes 8) 27 16) ∧ (c ≠ 0) ∧ (dwordAt (u.dtRead x).bytes 32 % 4096 = 0) ∧ (dwordAt (u.dtRead x).bytes 40 % 32 = 0) ∧ (u.rd R.BUF_DIRTY + dumpSize c ≤ u.rd R.BUF_DIRTY_LIMIT) ∧ (u.rd R.BUF_DIRTY + dumpSize c + 128 ≤ u.rd R.BUF_DUMP_SIZE))
    (put (ram up 128 (wordsToBytes [0, 0, 0x10000, 0, 0, 0, 0, 0, 0x20020000, 0, 0x20030000])) [(R.BUF_DT_BASE_LO, 0x20000000), (R.BUF_DIRTY_LIMIT, 0x100000), (R.BUF_DUMP_SIZE, 0x100000)]) ((put (ram up 128 (wordsToBytes [0, 0, 0x10000, 0, 0, 0, 0, 0, 0x20020000, 0, 0x20030000])) [(R.BUF_DT_BASE_LO, 0x20000000), (R.BUF_DIRTY_LIMIT, 0x100000), (R.BUF_DUMP_SIZE, 0x100000)] : State).at 0) 0 (.app 1 : Initiator) (2#32 : BitVec 32) (2 : Nat) (1 : Nat) :=
  ⟨rfl, by decide +kernel⟩
theorem witness_dirtyTableAndDump_dtClean : (fun (s u : State) (t : Nat) (i : Initiator) (w : BitVec 32) (x : Nat) (m : Nat × Nat) => s.at t = u ∧ (u.takesWrite i R.BUF_DT_CLEAN = true) ∧ (x = w.toNat % 65536) ∧ (u.buf.dumpStarted = false) ∧ (u.buf.marks.find? (fun m => m.1 == x) = some m))
    (({ up with buf := { up.buf with marks := [(2, 1)] } } : State).setReg R.BUF_DIRTY 9000) ((({ up with buf := { up.buf with marks := [(2, 1)] } } : State).setReg R.BUF_DIRTY 9000 : State).at 0) 0 (.app 1 : Initiator) (2#32 : BitVec 32) (2 : Nat) ((2, 1) : Nat × Nat) :=
  ⟨rfl, by decide +kernel⟩
theorem witness_dirtyTableAndDump_dumpArm : (fun (s u : State) (t : Nat) (i : Initiator) => s.at t = u ∧ (u.takesWrite i R.BUF_DUMP_CTRL = true) ∧ (65536 * u.fld R.BUF_DUMP_BASE 16 0 + u.rd R.BUF_DUMP_SIZE ≤ u.ssCapacity))
    (up) ((up : State).at 0) 0 (.app 1 : Initiator) :=
  ⟨rfl, by decide +kernel⟩
theorem witness_dirtyTableAndDump_dumpDisarm : (fun (s u : State) (t : Nat) (i : Initiator) => s.at t = u ∧ (u.takesWrite i R.BUF_DUMP_CTRL = true) ∧ (u.fld R.BUF_DUMP_STATUS 1 0 ≠ 1))
    (put up [(R.BUF_DUMP_CTRL, 1), (R.BUF_DUMP_STATUS, 2)]) ((put up [(R.BUF_DUMP_CTRL, 1), (R.BUF_DUMP_STATUS, 2)] : State).at 0) 0 (.app 1 : Initiator) :=
  ⟨rfl, by decide +kernel⟩
theorem witness_dirtyTableAndDump_test : (fun (s u : State) (t : Nat) (i : Initiator) => s.at t = u ∧ (u.takesWrite i R.BUF_DUMP_CTRL = true) ∧ (u.lcState = 1 ∨ u.lcState = 2) ∧ (u.bit R.BUF_DUMP_CTRL 0 = true) ∧ (u.buf.dumpStarted = false))
    (put up [(R.BUF_DUMP_CTRL, 1), (R.LCS_STATE, 2)]) ((put up [(R.BUF_DUMP_CTRL, 1), (R.LCS_STATE, 2)] : State).at 0) 0 (.app 1 : Initiator) :=
  ⟨rfl, by decide +kernel⟩
theorem witness_dirtyTableAndDump_dumpStart : (fun (s u : State) (t : Nat) => s.at t = u ∧ (u.domOn 7 = true) ∧ (u.buf.dumpDue.isSome = true) ∧ (u.bit R.BUF_DUMP_CTRL 0 = true) ∧ (u.buf.dumpStarted = false))
    (put { up with buf := { up.buf with dumpDue := some 5 } } [(R.BUF_DUMP_CTRL, 1)]) ((put { up with buf := { up.buf with dumpDue := some 5 } } [(R.BUF_DUMP_CTRL, 1)] : State).at 0) 0  :=
  ⟨rfl, by decide +kernel⟩
theorem witness_dirtyTableAndDump_dumpDone : (fun (s u : State) (t : Nat) (d : DumpRun) => s.at t = u ∧ (u.buf.dump = some d) ∧ (d.base + d.startRec.length + (u.dumpEntries d.entries).bytes.length + 64 ≤ u.ssCapacity))
    ({ up with buf := { up.buf with dump := some ⟨[], 65536, 1, List.replicate 64 1#8⟩ } }) (({ up with buf := { up.buf with dump := some ⟨[], 65536, 1, List.replicate 64 1#8⟩ } } : State).at 0) 0 (⟨[], 65536, 1, List.replicate 64 1#8⟩ : DumpRun) :=
  ⟨rfl, by decide +kernel⟩
theorem witness_dirtyTableAndDump_dumpError : (fun (s u : State) (t : Nat) (d : DumpRun) => s.at t = u ∧ (u.buf.dump = some d))
    ({ up with buf := { up.buf with dump := some ⟨[], 65536, 1, []⟩ } }) (({ up with buf := { up.buf with dump := some ⟨[], 65536, 1, []⟩ } } : State).at 0) 0 (⟨[], 65536, 1, []⟩ : DumpRun) :=
  ⟨rfl, by decide +kernel⟩

theorem witness_mapCacheAccess_mapcAccess : (fun (s u : State) (t : Nat) (c : Fin 4) (addr : Nat) (k : Nat) (w : Nat) (m : MLine) => s.at t = u ∧ (inDram addr = true) ∧ (u.cached addr = true) ∧ (u.mapcStalls = false) ∧ (k ≤ 128 - addr % 128) ∧ (u.wayOf ((addr - dramBase) / 128) = some w) ∧ (u.mline (lineSet ((addr - dramBase) / 128)) w = some m))
    (mc { lines := [(2, ln1 0 false)] }) ((mc { lines := [(2, ln1 0 false)] } : State).at 0) 0 (1 : Fin 4) (dramBase + 3 : Nat) (4 : Nat) (2 : Nat) (ln1 0 false : MLine) :=
  ⟨rfl, by decide +kernel⟩
theorem witness_mapCacheAccess_mapcAccess_2 : (fun (s u : State) (t : Nat) (c : Fin 4) (addr : Nat) (w : Nat) (b : List (BitVec 8)) (m : MLine) => s.at t = u ∧ (inDram addr = true) ∧ (u.cached addr = true) ∧ (u.mapcStalls = false) ∧ (b.length ≤ 128 - addr % 128) ∧ (u.wayOf ((addr - dramBase) / 128) = some w) ∧ (u.mline (lineSet ((addr - dramBase) / 128)) w = some m))
    (mc { lines := [(2, ln1 0 false)] }) ((mc { lines := [(2, ln1 0 false)] } : State).at 0) 0 (1 : Fin 4) (dramBase + 3 : Nat) (2 : Nat) ([9#8] : List (BitVec 8)) (ln1 0 false : MLine) :=
  ⟨rfl, by decide +kernel⟩
theorem witness_mapCacheAccess_mapcAccess_3 : (fun (s u : State) (t : Nat) (c : Fin 4) (addr : Nat) (k : Nat) => s.at t = u ∧ (inDram addr = true) ∧ (u.cached addr = true) ∧ (u.mapcStalls = false) ∧ (k ≤ 128 - addr % 128) ∧ (u.wayOf ((addr - dramBase) / 128) = none) ∧ (u.inPocket ((addr - dramBase) / 128) = none))
    (mc {}) ((mc {} : State).at 0) 0 (1 : Fin 4) (dramBase + 3 : Nat) (4 : Nat) :=
  ⟨rfl, by decide +kernel⟩
theorem witness_mapCacheAccess_mapcFillComplete : (fun (s u : State) (t : Nat) (x : MAccess) (k : Nat) (m : MLine) => s.at t = u ∧ (u.domOn 8 = true) ∧ (u.mapc.miss = some x) ∧ (x.op = .load k) ∧ (u.missLine x = some m) ∧ (u.mapc.wait = []))
    ((List.range 8).foldl (fun s w => s.storeWord w 0 0) (mc { miss := some ⟨1, dramBase + 3, .load 4, 0⟩ })) (((List.range 8).foldl (fun s w => s.storeWord w 0 0) (mc { miss := some ⟨1, dramBase + 3, .load 4, 0⟩ }) : State).at 0) 0 (⟨1, dramBase + 3, .load 4, 0⟩ : MAccess) (4 : Nat) (⟨0, false, List.replicate 128 0#8⟩ : MLine) :=
  ⟨rfl, by decide +kernel⟩

theorem witness_mapCacheCommands_clean : (fun (s u : State) (t : Nat) (i : Initiator) => s.at t = u ∧ (u.takesWrite i R.MAPC_OP_CMD = true) ∧ (u.bit R.MAPC_STATUS 1 = false) ∧ (u.bit R.MAPC_STATUS 2 = false))
    (up) ((up : State).at 0) 0 (.app 0 : Initiator) :=
  ⟨rfl, by decide +kernel⟩
theorem witness_mapCacheCommands_inval : (fun (s u : State) (t : Nat) (i : Initiator) => s.at t = u ∧ (u.takesWrite i R.MAPC_OP_CMD = true) ∧ (u.bit R.MAPC_STATUS 1 = false) ∧ (u.bit R.MAPC_STATUS 2 = false))
    (up) ((up : State).at 0) 0 (.app 0 : Initiator) :=
  ⟨rfl, by decide +kernel⟩
theorem witness_mapCacheCommands_discard : (fun (s u : State) (t : Nat) (i : Initiator) => s.at t = u ∧ (u.takesWrite i R.MAPC_OP_CMD = true) ∧ (u.bit R.MAPC_STATUS 1 = false) ∧ (u.bit R.MAPC_STATUS 2 = false))
    (up) ((up : State).at 0) 0 (.app 0 : Initiator) :=
  ⟨rfl, by decide +kernel⟩
theorem witness_mapCacheCommands_flushAll : (fun (s u : State) (t : Nat) (i : Initiator) => s.at t = u ∧ (u.takesWrite i R.MAPC_OP_CMD = true) ∧ (u.bit R.MAPC_STATUS 1 = false) ∧ (u.bit R.MAPC_STATUS 2 = false))
    (up) ((up : State).at 0) 0 (.app 0 : Initiator) :=
  ⟨rfl, by decide +kernel⟩
theorem witness_mapCacheCommands_preload : (fun (s u : State) (t : Nat) (i : Initiator) (way : BitVec 3) => s.at t = u ∧ (u.takesWrite i R.MAPC_OP_CMD = true) ∧ (u.bit R.MAPC_STATUS 1 = false) ∧ (u.bit R.MAPC_STATUS 2 = false) ∧ (way.toNat < 6) ∧ (u.mapcGrant i = true))
    (up.setReg (R.MB_GRANT 30) 2) ((up.setReg (R.MB_GRANT 30) 2 : State).at 0) 0 (.app 1 : Initiator) (5#3 : BitVec 3) :=
  ⟨rfl, by decide +kernel⟩
theorem witness_mapCacheCommands_mapcOpDone : (fun (s u : State) (t : Nat) (o : MapcOp) => s.at t = u ∧ (u.domOn 8 = true) ∧ (u.mapc.op = some o) ∧ (u.mapc.miss = none))
    (mc { op := some ⟨4, 0, 0, 0⟩, lines := [(2, ln1 0 true), (11, ln1 1 false)], pocket := [ln1 2049 true] }) ((mc { op := some ⟨4, 0, 0, 0⟩, lines := [(2, ln1 0 true), (11, ln1 1 false)], pocket := [ln1 2049 true] } : State).at 0) 0 (⟨4, 0, 0, 0⟩ : MapcOp) :=
  ⟨rfl, by decide +kernel⟩
theorem witness_mapCacheCommands_mapcLock : (fun (s u : State) (t : Nat) (i : Initiator) (w : BitVec 32) => s.at t = u ∧ (u.takesWrite i R.MAPC_LOCK = true) ∧ (u.mapcGrant i = true) ∧ (u.mapc.op = none) ∧ (u.mapc.disabling = false))
    (up) ((up : State).at 0) 0 (.cc : Initiator) (0x45#32 : BitVec 32) :=
  ⟨rfl, by decide +kernel⟩
theorem witness_mapCacheCommands_mapcDisable : (fun (s u : State) (t : Nat) (i : Initiator) => s.at t = u ∧ (u.takesWrite i R.MAPC_CTRL = true) ∧ (u.bit R.MAPC_STATUS 0 = true) ∧ (u.mapc.disabling = false))
    (mc {}) ((mc {} : State).at 0) 0 (.app 0 : Initiator) :=
  ⟨rfl, by decide +kernel⟩
theorem witness_mapCacheCommands_mapcDisableDone : (fun (s u : State) (t : Nat) => s.at t = u ∧ (u.domOn 8 = true) ∧ (u.mapc.disabling = true) ∧ (u.mapc.op = none) ∧ (u.mapc.miss = none) ∧ (u.mapc.wait = []))
    (mc { disabling := true, lines := [(2, ln1 0 true)] }) ((mc { disabling := true, lines := [(2, ln1 0 true)] } : State).at 0) 0  :=
  ⟨rfl, by decide +kernel⟩
theorem witness_mapCacheCommands_mapcEnable : (fun (s u : State) (t : Nat) (i : Initiator) => s.at t = u ∧ (u.takesWrite i R.MAPC_CTRL = true) ∧ (u.mapc.disabling = false) ∧ (u.bit R.MAPC_STATUS 3 = false))
    (up) ((up : State).at 0) 0 (.app 0 : Initiator) :=
  ⟨rfl, by decide +kernel⟩
theorem witness_mapCacheCommands_pocketDisable : (fun (s u : State) (t : Nat) (i : Initiator) => s.at t = u ∧ (u.takesWrite i R.MAPC_CTRL = true) ∧ (u.bit R.MAPC_CTRL 1 = true))
    (mc {}) ((mc {} : State).at 0) 0 (.app 0 : Initiator) :=
  ⟨rfl, by decide +kernel⟩
theorem witness_mapCacheCommands_pocketDisableDone : (fun (s u : State) (t : Nat) => s.at t = u ∧ (u.domOn 8 = true) ∧ (u.mapc.pocketOff = true))
    (mc { pocketOff := true, pocket := [ln1 5 true] }) ((mc { pocketOff := true, pocket := [ln1 5 true] } : State).at 0) 0  :=
  ⟨rfl, by decide +kernel⟩

theorem witness_squeezeJobs_sqzJobStart : (fun (s u : State) (t : Nat) (c : Fin 8) (k : Nat) => s.at t = u ∧ (u.domOn 9 = true) ∧ (u.sqz.ctx[c].ring = none) ∧ (u.ctxFenced .sqz c = false) ∧ (u.nextRing .sqz (ctxDir c) = some k) ∧ (k < 64) ∧ (u.rd (R.SQZ_R_BASE_LO k + 8) ≠ 0))
    (put up [(R.SQZ_CTRL, 1), (R.SQZ_R_BASE_LO 3, 0x20000000), (R.SQZ_R_BASE_LO 3 + 8, 4), (R.SQZ_R_BASE_LO 3 + 12, 1), (R.SQZ_R_BASE_LO 3 + 40, 1)]) ((put up [(R.SQZ_CTRL, 1), (R.SQZ_R_BASE_LO 3, 0x20000000), (R.SQZ_R_BASE_LO 3 + 8, 4), (R.SQZ_R_BASE_LO 3 + 12, 1), (R.SQZ_R_BASE_LO 3 + 40, 1)] : State).at 0) 0 (1 : Fin 8) (3 : Nat) :=
  ⟨rfl, by decide +kernel⟩
theorem witness_squeezeJobs_sqzJobEnd : (fun (s u : State) (t : Nat) (c : Fin 8) => s.at t = u ∧ (u.domOn 9 = true) ∧ (u.sqz.ctx[c].ring.isSome = true) ∧ (u.sqz.ctx[c].rec_ = none) ∧ ((parseSqz u.sqz.ctx[c].desc).dir = 0))
    ({ up with sqz := { up.sqz with ctx := up.sqz.ctx.set 1 { ring := some 3 } } }) (({ up with sqz := { up.sqz with ctx := up.sqz.ctx.set 1 { ring := some 3 } } } : State).at 0) 0 (1 : Fin 8) :=
  ⟨rfl, by decide +kernel⟩
theorem witness_squeezeJobs_sqzCompletionRecord : (fun (s u : State) (t : Nat) (c : Fin 8) (k : Nat) (j : Nat) (b : List Byte) => s.at t = u ∧ (u.domOn 9 = true) ∧ (u.sqz.ctx[c].ring = some k) ∧ (u.sqz.ctx[c].rec_ = some (b, j)) ∧ (∀ d : Fin 8, d ≠ c → u.sqz.ctx[d].ring ≠ some k) ∧ (k < 64) ∧ (u.rd (R.SQZ_R_BASE_LO k + 28) ≠ 0) ∧ (ringFull (u.rd (R.SQZ_R_BASE_LO k + 32)) (u.rd (R.SQZ_R_BASE_LO k + 36)) (u.rd (R.SQZ_R_BASE_LO k + 28)) = false))
    (put { up with sqz := { up.sqz with ctx := up.sqz.ctx.set 1 { ring := some 3, rec_ := some ([1#8], 0) } } } [(R.SQZ_R_BASE_LO 3 + 20, 0x20000000), (R.SQZ_R_BASE_LO 3 + 28, 4)]) ((put { up with sqz := { up.sqz with ctx := up.sqz.ctx.set 1 { ring := some 3, rec_ := some ([1#8], 0) } } } [(R.SQZ_R_BASE_LO 3 + 20, 0x20000000), (R.SQZ_R_BASE_LO 3 + 28, 4)] : State).at 0) 0 (1 : Fin 8) (3 : Nat) (0 : Nat) ([1#8] : List Byte) :=
  ⟨rfl, by decide +kernel⟩
theorem witness_squeezeJobs_sqzRingStopped : (fun (s u : State) (t : Nat) (r : Fin 64) => s.at t = u ∧ (u.domOn 9 = true) ∧ (u.ringEnabled .sqz r = false) ∧ (u.ringRuns .sqz r = false))
    (put up [(R.SQZ_R_BASE_LO 63 + 44, 0)]) ((put up [(R.SQZ_R_BASE_LO 63 + 44, 0)] : State).at 0) 0 (63 : Fin 64) :=
  ⟨rfl, by decide +kernel⟩

theorem witness_aesJobs_aesJobStart : (fun (s u : State) (t : Nat) (e : Fin 2) (k : Nat) => s.at t = u ∧ (u.domOn 10 = true) ∧ (u.aes.ctx[aesCtx e].ring = none) ∧ (u.ctxFenced .aes (aesCtx e) = false) ∧ (u.nextRing .aes 0 = some k) ∧ (k < 8) ∧ (u.rd (R.CRYP_J_BASE_LO k + 8) ≠ 0))
    (put up [(R.CRYP_J_BASE_LO 3, 0x20000000), (R.CRYP_J_BASE_LO 3 + 8, 4), (R.CRYP_J_BASE_LO 3 + 12, 1), (R.CRYP_J_BASE_LO 3 + 40, 1)]) ((put up [(R.CRYP_J_BASE_LO 3, 0x20000000), (R.CRYP_J_BASE_LO 3 + 8, 4), (R.CRYP_J_BASE_LO 3 + 12, 1), (R.CRYP_J_BASE_LO 3 + 40, 1)] : State).at 0) 0 (1 : Fin 2) (3 : Nat) :=
  ⟨rfl, by decide +kernel⟩
theorem witness_aesJobs_aesJobEnd : (fun (s u : State) (t : Nat) (e : Fin 2) => s.at t = u ∧ (u.domOn 10 = true) ∧ (u.aes.ctx[aesCtx e].ring.isSome = true) ∧ (u.aes.ctx[aesCtx e].rec_ = none))
    ({ up with aes := { up.aes with ctx := up.aes.ctx.set 1 { ring := some 3 } } }) (({ up with aes := { up.aes with ctx := up.aes.ctx.set 1 { ring := some 3 } } } : State).at 0) 0 (1 : Fin 2) :=
  ⟨rfl, by decide +kernel⟩
theorem witness_aesJobs_aesCompletionRecord : (fun (s u : State) (t : Nat) (e : Fin 2) (k : Nat) (j : Nat) (b : List Byte) => s.at t = u ∧ (u.domOn 10 = true) ∧ (u.aes.ctx[aesCtx e].ring = some k) ∧ (u.aes.ctx[aesCtx e].rec_ = some (b, j)) ∧ (∀ d : Fin 8, d ≠ aesCtx e → u.aes.ctx[d].ring ≠ some k) ∧ (k < 8) ∧ (u.rd (R.CRYP_J_BASE_LO k + 28) ≠ 0) ∧ (ringFull (u.rd (R.CRYP_J_BASE_LO k + 32)) (u.rd (R.CRYP_J_BASE_LO k + 36)) (u.rd (R.CRYP_J_BASE_LO k + 28)) = false))
    (put { up with aes := { up.aes with ctx := up.aes.ctx.set 1 { ring := some 3, rec_ := some ([1#8], 0) } } } [(R.CRYP_J_BASE_LO 3 + 20, 0x20000000), (R.CRYP_J_BASE_LO 3 + 28, 4)]) ((put { up with aes := { up.aes with ctx := up.aes.ctx.set 1 { ring := some 3, rec_ := some ([1#8], 0) } } } [(R.CRYP_J_BASE_LO 3 + 20, 0x20000000), (R.CRYP_J_BASE_LO 3 + 28, 4)] : State).at 0) 0 (1 : Fin 2) (3 : Nat) (0 : Nat) ([1#8] : List Byte) :=
  ⟨rfl, by decide +kernel⟩

theorem witness_keySlots_ksLoad : (fun (s u : State) (t : Nat) (i : Initiator) (wk : BitVec 2) (k : Nat) => s.at t = u ∧ (u.takesWrite i R.CRYP_KS_CMD = true) ∧ (u.cryp.ksOps = []) ∧ (k = bitsOf (iniGet 0 u.cryp.ksSel i) 11 0))
    (cr { ksSel := [(.app 1, 0x70005)] }) ((cr { ksSel := [(.app 1, 0x70005)] } : State).at 0) 0 (.app 1 : Initiator) (2#2 : BitVec 2) (5 : Nat) :=
  ⟨rfl, by decide +kernel⟩
theorem witness_keySlots_ksErase : (fun (s u : State) (t : Nat) (i : Initiator) (k : Nat) => s.at t = u ∧ (u.takesWrite i R.CRYP_KS_CMD = true) ∧ (u.cryp.ksOps = []) ∧ (k = bitsOf (iniGet 0 u.cryp.ksSel i) 11 0))
    (cr { slots := [(5, ⟨true, 7, 1048575, [1], [2]⟩)], ksSel := [(.app 1, 5)] }) ((cr { slots := [(5, ⟨true, 7, 1048575, [1], [2]⟩)], ksSel := [(.app 1, 5)] } : State).at 0) 0 (.app 1 : Initiator) (5 : Nat) :=
  ⟨rfl, by decide +kernel⟩
theorem witness_keySlots_eraseGroup : (fun (s u : State) (t : Nat) (i : Initiator) (g : Nat) => s.at t = u ∧ (u.takesWrite i R.CRYP_KS_CMD = true) ∧ (u.cryp.ksOps = []) ∧ (g = bitsOf (iniGet 0 u.cryp.ksSel i) 27 16))
    (cr { slots := [(5, ⟨true, 7, 9, [1], [2]⟩), (6, ⟨true, 8, 9, [1], [2]⟩)], ksSel := [(.app 1, 0x70000)] }) ((cr { slots := [(5, ⟨true, 7, 9, [1], [2]⟩), (6, ⟨true, 8, 9, [1], [2]⟩)], ksSel := [(.app 1, 0x70000)] } : State).at 0) 0 (.app 1 : Initiator) (7 : Nat) :=
  ⟨rfl, by decide +kernel⟩
theorem witness_keySlots_setOwner : (fun (s u : State) (t : Nat) (i : Initiator) (k : Nat) => s.at t = u ∧ (u.takesWrite i R.CRYP_KS_CMD = true) ∧ (u.cryp.ksOps = []) ∧ (k = bitsOf (iniGet 0 u.cryp.ksSel i) 11 0) ∧ ((u.keySlot k).valid = true))
    (cr { slots := [(5, ⟨true, 7, 9, [1], [2]⟩)], ksSel := [(.app 1, 0x80005)] }) ((cr { slots := [(5, ⟨true, 7, 9, [1], [2]⟩)], ksSel := [(.app 1, 0x80005)] } : State).at 0) 0 (.app 1 : Initiator) (5 : Nat) :=
  ⟨rfl, by decide +kernel⟩
theorem witness_keySlots_ksDone : (fun (s u : State) (t : Nat) (o : KsOp) => s.at t = u ∧ (u.domOn 10 = true) ∧ (u.cryp.ksOps = [o]))
    ((cr { ksOps := [⟨2, 0, 5, 0, []⟩], ksRes := (3, 0) }).setReg R.CRYP_KS_RES 1) (((cr { ksOps := [⟨2, 0, 5, 0, []⟩], ksRes := (3, 0) }).setReg R.CRYP_KS_RES 1 : State).at 0) 0 (⟨2, 0, 5, 0, []⟩ : KsOp) :=
  ⟨rfl, by decide +kernel⟩

theorem witness_wrappingKeysAndRandomNumbers_wkLoad : (fun (s u : State) (t : Nat) (i : Initiator) (w : BitVec 32) => s.at t = u ∧ (u.takesWrite i R.CRYP_WK_CMD = true) ∧ (2 ≤ bitsOf w.toNat 5 4) ∧ (bitsOf w.toNat 3 2 < 2))
    (up) ((up : State).at 0) 0 (.app 1 : Initiator) (0x20#32 : BitVec 32) :=
  ⟨rfl, by decide +kernel⟩
theorem witness_wrappingKeysAndRandomNumbers_wkClear : (fun (s u : State) (t : Nat) (i : Initiator) (w : BitVec 32) => s.at t = u ∧ (u.takesWrite i R.CRYP_WK_CMD = true) ∧ (2 ≤ bitsOf w.toNat 5 4))
    (cr { wk3 := some zeroKey }) ((cr { wk3 := some zeroKey } : State).at 0) 0 (.app 1 : Initiator) (0x32#32 : BitVec 32) :=
  ⟨rfl, by decide +kernel⟩
theorem witness_wrappingKeysAndRandomNumbers_wrap : (fun (s u : State) (t : Nat) (i : Initiator) (w : BitVec 32) (key : List Nat) => s.at t = u ∧ (u.takesWrite i R.CRYP_WK_CMD = true) ∧ (u.wk (bitsOf w.toNat 3 2) = some key) ∧ (inDram (u.rd64 R.CRYP_WK_SRC_LO R.CRYP_WK_SRC_HI) = true) ∧ ((u.busRead 8 (u.rd64 R.CRYP_WK_SRC_LO R.CRYP_WK_SRC_HI) 64).err = false))
    (put ((List.range 4).foldl (fun s k => s.storeWord k k 0) (cr { wk2 := some zeroKey })) [(R.CRYP_WK_SRC_LO, dramBase % 2 ^ 32), (R.CRYP_WK_SRC_HI, dramBase / 2 ^ 32), (R.CRYP_WK_DST_LO, 0x20000000)]) ((put ((List.range 4).foldl (fun s k => s.storeWord k k 0) (cr { wk2 := some zeroKey })) [(R.CRYP_WK_SRC_LO, dramBase % 2 ^ 32), (R.CRYP_WK_SRC_HI, dramBase / 2 ^ 32), (R.CRYP_WK_DST_LO, 0x20000000)] : State).at 0) 0 (.app 1 : Initiator) (0x8#32 : BitVec 32) (zeroKey : List Nat) :=
  ⟨rfl, by decide +kernel⟩
theorem witness_wrappingKeysAndRandomNumbers_reseed : (fun (s u : State) (t : Nat) (i : Initiator) => s.at t = u ∧ (u.takesWrite i R.CRYP_RNG_CTRL = true))
    (cr { rngCount := 9 }) ((cr { rngCount := 9 } : State).at 0) 0 (.app 1 : Initiator) :=
  ⟨rfl, by decide +kernel⟩
theorem witness_wrappingKeysAndRandomNumbers_clrFail : (fun (s u : State) (t : Nat) (i : Initiator) => s.at t = u ∧ (u.takesWrite i R.CRYP_RNG_CTRL = true))
    (up) ((up : State).at 0) 0 (.app 1 : Initiator) :=
  ⟨rfl, by decide +kernel⟩
theorem witness_wrappingKeysAndRandomNumbers_rngStartupTestDone : (fun (s u : State) (t : Nat) => s.at t = u ∧ (u.domOn 10 = true) ∧ (u.cryp.rngTest = true))
    ((cr { rngTest := true }).setReg R.CRYP_RNG_STATUS 2) (((cr { rngTest := true }).setReg R.CRYP_RNG_STATUS 2 : State).at 0) 0  :=
  ⟨rfl, by decide +kernel⟩
theorem witness_wrappingKeysAndRandomNumbers_rngHealthFail : (fun (s u : State) (t : Nat) => s.at t = u ∧ (u.domOn 10 = true))
    (up) ((up : State).at 0) 0  :=
  ⟨rfl, by decide +kernel⟩
theorem witness_wrappingKeysAndRandomNumbers_rngRead : (fun (s u : State) (t : Nat) (i : Initiator) => s.at t = u ∧ (u.domOn 10 = true) ∧ (u.bit R.CRYP_RNG_STATUS 1 = false))
    (up) ((up : State).at 0) 0 (.app 1 : Initiator) :=
  ⟨rfl, by decide +kernel⟩

theorem witness_metersAndVerify_meterCharge : (fun (s u : State) (t : Nat) (i : Initiator) (w : BitVec 32) (g : Nat) (m : Nat) => s.at t = u ∧ (u.takesWrite i R.MTR_CHG_AMT = true) ∧ (u.domOn 11 = true) ∧ (u.bit R.MTR_CTRL 0 = true) ∧ (g = bitsOf (iniGet 0 u.mtr.chgSel i) 11 0) ∧ (m = bitsOf (iniGet 0 u.mtr.chgSel i) 14 12) ∧ (m = 3 ∨ m = 7))
    (({ up with mtr := { up.mtr with chgSel := [(.app 1, 0x7005)] } } : State).setReg R.MTR_CTRL 1) ((({ up with mtr := { up.mtr with chgSel := [(.app 1, 0x7005)] } } : State).setReg R.MTR_CTRL 1 : State).at 0) 0 (.app 1 : Initiator) (100#32 : BitVec 32) (5 : Nat) (7 : Nat) :=
  ⟨rfl, by decide +kernel⟩
theorem witness_metersAndVerify_epochBoundary : (fun (s u : State) (t : Nat) => s.at t = u ∧ (u.domOn 11 = true) ∧ (u.bit R.MTR_CTRL 0 = true) ∧ (u.boundary ≤ (u.gtc : Int)))
    (({ up with gtc := 60000000001 } : State).setReg R.MTR_CTRL 1) ((({ up with gtc := 60000000001 } : State).setReg R.MTR_CTRL 1 : State).at 0) 0  :=
  ⟨rfl, by decide +kernel⟩
theorem witness_metersAndVerify_mtrOriginWrite : (fun (s u : State) (t : Nat) (i : Initiator) (w : BitVec 32) => s.at t = u ∧ (u.takesWrite i R.MTR_ORIGIN_LO = true))
    (put up [(R.MTR_CTRL, 1), (R.MTR_ORIGIN_HI, 2)]) ((put up [(R.MTR_CTRL, 1), (R.MTR_ORIGIN_HI, 2)] : State).at 0) 0 (.app 1 : Initiator) (100#32 : BitVec 32) :=
  ⟨rfl, by decide +kernel⟩
theorem witness_metersAndVerify_meterEnable : (fun (s u : State) (t : Nat) (i : Initiator) (on : Bool) => s.at t = u ∧ (u.takesWrite i R.MTR_CTRL = true))
    (up) ((up : State).at 0) 0 (.app 1 : Initiator) (true : Bool) :=
  ⟨rfl, by decide +kernel⟩
theorem witness_metersAndVerify_meterLogWritten : (fun (s u : State) (t : Nat) (b : Bank) (rest : List Bank) => s.at t = u ∧ (u.domOn 11 = true) ∧ (u.mtr.closing = b :: rest))
    ({ up with mtr := { up.mtr with closing := [{}] } }) (({ up with mtr := { up.mtr with closing := [{}] } } : State).at 0) 0 ({} : Bank) ([] : List Bank) :=
  ⟨rfl, by decide +kernel⟩
theorem witness_metersAndVerify_capRefill : (fun (s u : State) (t : Nat) (g : Nat) => s.at t = u ∧ (u.domOn 11 = true))
    ({ up with mtr := { up.mtr with caps := [(5, { rateCmd := 10, burstCmd := 1 })] } }) (({ up with mtr := { up.mtr with caps := [(5, { rateCmd := 10, burstCmd := 1 })] } } : State).at 0) 0 (5 : Nat) :=
  ⟨rfl, by decide +kernel⟩
theorem witness_metersAndVerify_bvEnable : (fun (s u : State) (t : Nat) (i : Initiator) (n : Fin 4) (on : Bool) => s.at t = u ∧ (u.takesWrite i (R.BV_CTRL n) = true))
    (up) ((up : State).at 0) 0 (.app 1 : Initiator) (1 : Fin 4) (true : Bool) :=
  ⟨rfl, by decide +kernel⟩
theorem witness_metersAndVerify_bvRestart : (fun (s u : State) (t : Nat) (i : Initiator) (n : Fin 4) => s.at t = u ∧ (u.takesWrite i (R.BV_CTRL n) = true))
    (put up [(R.BV_FIRST 1, 55), (R.BV_CFG 1, 0xF4)]) ((put up [(R.BV_FIRST 1, 55), (R.BV_CFG 1, 0xF4)] : State).at 0) 0 (.app 1 : Initiator) (1 : Fin 4) :=
  ⟨rfl, by decide +kernel⟩
theorem witness_metersAndVerify_bvSubmit : (fun (s u : State) (t : Nat) (n : Fin 4) => s.at t = u ∧ (u.bvReady n = true) ∧ (u.domOn 7 = true) ∧ ((u.msch n).bvPending = false) ∧ ((u.msch n).pending = []) ∧ ((u.msch n).run = []) ∧ ((u.msch n).pos = none) ∧ ((u.msch n).idleAt + u.fld (R.BV_CFG n) 31 24 * 1000000 ≤ u.gtc) ∧ (u.bit (R.MSCH_CTRL n) 1 = false) ∧ (u.granted n = false) ∧ ((u.bvFind n 9 (u.fld (R.BV_POS n) 26 24) (u.fld (R.BV_POS n) 23 0) (u.fld (R.BV_POS_SECT n) 11 0)).2.isSome = true))
    (put takeState [(R.ACT_STATUS 1, 0), (R.BV_CTRL 1, 1), (R.BV_CFG 1, 0x201), (R.BV_LAST 1, 99)]) ((put takeState [(R.ACT_STATUS 1, 0), (R.BV_CTRL 1, 1), (R.BV_CFG 1, 0x201), (R.BV_LAST 1, 99)] : State).at 0) 0 (1 : Fin 4) :=
  ⟨rfl, by decide +kernel⟩

theorem witness_mailboxChannels_mailboxRing : (fun (s u : State) (t : Nat) (i : Initiator) (ch : Fin 16) => s.at t = u ∧ (mbOwner ch i = true) ∧ (u.ringAccepted ch = true) ∧ (u.mbRunning ch = false) ∧ ((u.chan ch).kept = none))
    (up) ((up : State).at 0) 0 (.app 1 : Initiator) (2 : Fin 16) :=
  ⟨rfl, by decide +kernel⟩
theorem witness_mailboxChannels_mailboxRing_2 : (fun (s u : State) (t : Nat) (i : Initiator) (ch : Fin 16) (r : List Nat) => s.at t = u ∧ (mbOwner ch i = true) ∧ (u.ringAccepted ch = true) ∧ (u.mbRunning ch = false) ∧ (u.wounserUp = true) ∧ (u.maon.powerLossAt = none) ∧ ((u.chan ch).kept = some r) ∧ (keptSeq r = u.fld (R.MB_REQ ch 0) 31 16))
    ((up.onMbChan 2 (fun c => { c with kept := some [0x10002] })).setReg (R.MB_REQ 2 0) 0x10002) (((up.onMbChan 2 (fun c => { c with kept := some [0x10002] })).setReg (R.MB_REQ 2 0) 0x10002 : State).at 0) 0 (.app 1 : Initiator) (2 : Fin 16) ([0x10002] : List Nat) :=
  ⟨rfl, by decide +kernel⟩
theorem witness_mailboxChannels_mailboxTimeout : (fun (s u : State) (t : Nat) (ch : Fin 16) => s.at t = u ∧ (u.fld (R.MB_STAT ch) 1 0 = 1) ∧ ((u.chan ch).busyAt + 100000000 * u.fld (R.MB_CFG ch) 23 16 ≤ u.gtc))
    (up.setReg (R.MB_STAT 2) 5) ((up.setReg (R.MB_STAT 2) 5 : State).at 0) 0 (2 : Fin 16) :=
  ⟨rfl, by decide +kernel⟩
theorem witness_mailboxChannels_mailboxComplete : (fun (s u : State) (t : Nat) (ch : Fin 16) (n : Fin 4) => s.at t = u ∧ (u.wounserUp = true) ∧ ((u.chan ch).run = some (.unload n)) ∧ (u.motionEnds n = false) ∧ (u.parked n = true))
    (up.onMbChan 2 (fun c => { c with run := some (.unload 1) })) ((up.onMbChan 2 (fun c => { c with run := some (.unload 1) }) : State).at 0) 0 (2 : Fin 16) (1 : Fin 4) :=
  ⟨rfl, by decide +kernel⟩
theorem witness_mailboxChannels_challengeLapse : (fun (s u : State) (t : Nat) (ch : Fin 16) (x : Nat) (t0 : Nat) => s.at t = u ∧ ((u.chan ch).chal = some (x, t0)) ∧ (t0 + 60000000000 ≤ u.gtc))
    (({ up with gtc := 60000000000 } : State).onMbChan 2 (fun c => { c with chal := some (7, 0) })) ((({ up with gtc := 60000000000 } : State).onMbChan 2 (fun c => { c with chal := some (7, 0) }) : State).at 0) 0 (2 : Fin 16) (7 : Nat) (0 : Nat) :=
  ⟨rfl, by decide +kernel⟩
theorem witness_mailboxChannels_wounserRestart : (fun (s u : State) (t : Nat) => s.at t = u ∧ (u.wounserUp = false) ∧ (u.domOn 4 = true) ∧ (u.sump.ccoreReset = false) ∧ (u.fld R.PWR_BOOT_STATUS 3 0 = 3))
    (put up [(R.MB_VER, 0), (R.PWR_BOOT_STATUS, 3)]) ((put up [(R.MB_VER, 0), (R.PWR_BOOT_STATUS, 3)] : State).at 0) 0  :=
  ⟨rfl, by decide +kernel⟩

theorem witness_mailboxBasics_info : (fun (s u : State) (t : Nat) (ch : Fin 16) => s.at t = u ∧ (u.mbGoes ch 0x01 false true = true))
    (ask up 2 0x01 []) ((ask up 2 0x01 [] : State).at 0) 0 (2 : Fin 16) :=
  ⟨rfl, by decide +kernel⟩
theorem witness_mailboxBasics_status : (fun (s u : State) (t : Nat) (ch : Fin 16) (n : Fin 4) => s.at t = u ∧ (u.mbGoes ch 0x02 false true = true))
    (ask up 2 0x02 []) ((ask up 2 0x02 [] : State).at 0) 0 (2 : Fin 16) (1 : Fin 4) :=
  ⟨rfl, by decide +kernel⟩
theorem witness_mailboxBasics_lcGet : (fun (s u : State) (t : Nat) (ch : Fin 16) => s.at t = u ∧ (u.mbGoes ch 0x60 false true = true))
    (ask up 2 0x60 []) ((ask up 2 0x60 [] : State).at 0) 0 (2 : Fin 16) :=
  ⟨rfl, by decide +kernel⟩
theorem witness_mailboxBasics_ownGet : (fun (s u : State) (t : Nat) (ch : Fin 16) => s.at t = u ∧ (u.mbGoes ch 0x80 false true = true))
    (ask up 2 0x80 []) ((ask up 2 0x80 [] : State).at 0) 0 (2 : Fin 16) :=
  ⟨rfl, by decide +kernel⟩
theorem witness_mailboxBasics_spinStart : (fun (s u : State) (t : Nat) (ch : Fin 16) => s.at t = u ∧ (u.mbGoes ch 0x10 (State.noSpin u) (true) = true) ∧ (u.linkUp = true) ∧ (u.domOn 15 = true) ∧ (u.rpmBad ch = false) ∧ (u.safeHolds = false) ∧ (u.spin_ = spOFF) ∧ (u.held 8 = false) ∧ (u.speedOk (u.mbReq ch 1 % 2 ^ 14) = true) ∧ (u.maon.powerLossAt = none))
    (ask up 2 0x10 [7200]) ((ask up 2 0x10 [7200] : State).at 0) 0 (2 : Fin 16) :=
  ⟨rfl, by decide +kernel⟩
theorem witness_mailboxBasics_spinSpeed : (fun (s u : State) (t : Nat) (ch : Fin 16) => s.at t = u ∧ (u.mbGoes ch 0x13 (State.noSpin u) (true) = true) ∧ (u.linkUp = true) ∧ (u.domOn 15 = true) ∧ (u.rpmBad ch = false) ∧ (u.safeHolds = false) ∧ (u.speedOk (u.mbReq ch 1 % 2 ^ 14) = true))
    (ask (put up [(R.SP_STATUS, 4)]) 2 0x13 [5400]) ((ask (put up [(R.SP_STATUS, 4)]) 2 0x13 [5400] : State).at 0) 0 (2 : Fin 16) :=
  ⟨rfl, by decide +kernel⟩
theorem witness_mailboxBasics_spinStop : (fun (s u : State) (t : Nat) (ch : Fin 16) => s.at t = u ∧ (u.mbGoes ch 0x11 (State.noSpin u) (true) = true) ∧ (u.linkUp = true) ∧ (u.domOn 15 = true) ∧ (u.allParked = true) ∧ (u.peerStopped = true) ∧ (u.spin_ = spSPEED ∨ u.spin_ = spRUN))
    (ask (put up [(R.SP_STATUS, 4)]) 2 0x11 []) ((ask (put up [(R.SP_STATUS, 4)]) 2 0x11 [] : State).at 0) 0 (2 : Fin 16) :=
  ⟨rfl, by decide +kernel⟩
theorem witness_mailboxBasics_spinCoast : (fun (s u : State) (t : Nat) (ch : Fin 16) => s.at t = u ∧ (u.mbGoes ch 0x12 (State.noSpin u) (true) = true) ∧ (u.linkUp = true) ∧ (u.domOn 15 = true) ∧ (u.allParked = true) ∧ (u.peerStopped = true) ∧ (u.spin_ ≠ spFAULT) ∧ (u.spin_ ≠ spGEN))
    (ask (put up [(R.SP_STATUS, 4)]) 2 0x12 []) ((ask (put up [(R.SP_STATUS, 4)]) 2 0x12 [] : State).at 0) 0 (2 : Fin 16) :=
  ⟨rfl, by decide +kernel⟩
theorem witness_mailboxBasics_spinCfg : (fun (s u : State) (t : Nat) (ch : Fin 16) => s.at t = u ∧ (u.mbGoes ch 0x14 false true = true) ∧ (u.domOn 15 = true) ∧ (addrBad (u.mbAddr ch 1) 68 = false) ∧ (u.spin_ = spOFF) ∧ ((u.mbBytes ch 1 68).err = false) ∧ (spinBlockOk (u.mbBytes ch 1 68).bytes = true))
    (ask (dramPut (oem up) 0 (withCrc (wordsToBytes ((List.range 16).map (fun k => (resetOf (R.SP_ENC + 4 * k)).toNat))))) 2 0x14 [dramBase % 2 ^ 32, dramBase / 2 ^ 32]) ((ask (dramPut (oem up) 0 (withCrc (wordsToBytes ((List.range 16).map (fun k => (resetOf (R.SP_ENC + 4 * k)).toNat))))) 2 0x14 [dramBase % 2 ^ 32, dramBase / 2 ^ 32] : State).at 0) 0 (2 : Fin 16) :=
  ⟨rfl, by decide +kernel⟩

theorem witness_mailboxActuators_actLoad : (fun (s u : State) (t : Nat) (ch : Fin 16) (n : Fin 4) => s.at t = u ∧ (u.mbGoes ch 0x20 (State.noSect ch u) (true) = true) ∧ (n = u.mbSect ch) ∧ (u.safeHolds = false) ∧ (u.fenced n = false) ∧ (u.domOn 15 = true) ∧ (u.domOn (16 + n) = true) ∧ (u.spin_ = spRUN) ∧ (u.bit R.SP_STATUS 4 = true) ∧ (u.parked n = true) ∧ (u.retracting n = false) ∧ (u.atbState n = stMASTER) ∧ (u.psetBare n (u.defPset n) = false) ∧ (u.held 8 = false) ∧ (u.held n = false) ∧ (u.motionRuns n = false))
    (ask (put up [(R.SP_STATUS, 0x14), (R.PG_SET 1 3, 5)]) 2 0x20 [1, 100, 0]) ((ask (put up [(R.SP_STATUS, 0x14), (R.PG_SET 1 3, 5)]) 2 0x20 [1, 100, 0] : State).at 0) 0 (2 : Fin 16) (1 : Fin 4) :=
  ⟨rfl, by decide +kernel⟩
theorem witness_mailboxActuators_loadHandoff : (fun (s u : State) (t : Nat) (n : Fin 4) (l : LoadRun) => s.at t = u ∧ ((u.sec n).load = some l) ∧ (u.wounserUp = true) ∧ (u.linkUp = true) ∧ (u.atbState n ≠ stMASTER) ∧ (l.step = 2) ∧ (8 ≤ l.good))
    ((up.setSec 1 { up.sec 1 with load := some ⟨2, 0, 2, 8, 1#32, 100#32, 0#32⟩ }).setReg (R.ATB_STATUS 1) 1) (((up.setSec 1 { up.sec 1 with load := some ⟨2, 0, 2, 8, 1#32, 100#32, 0#32⟩ }).setReg (R.ATB_STATUS 1) 1 : State).at 0) 0 (1 : Fin 4) (⟨2, 0, 2, 8, 1#32, 100#32, 0#32⟩ : LoadRun) :=
  ⟨rfl, by decide +kernel⟩
theorem witness_mailboxActuators_loadTimeout : (fun (s u : State) (t : Nat) (n : Fin 4) (l : LoadRun) (c : Fin 16) => s.at t = u ∧ ((u.sec n).load = some l) ∧ (u.wounserUp = true) ∧ (u.atbState n = stMASTER) ∧ (l.t0 + 100000000 ≤ u.gtc) ∧ (c.val = l.ch % 16))
    (up.setSec 1 { up.sec 1 with load := some ⟨2, 0, 2, 8, 1#32, 100#32, 0#32⟩ }) ((up.setSec 1 { up.sec 1 with load := some ⟨2, 0, 2, 8, 1#32, 100#32, 0#32⟩ } : State).at 0) 0 (1 : Fin 4) (⟨2, 0, 2, 8, 1#32, 100#32, 0#32⟩ : LoadRun) (2 : Fin 16) :=
  ⟨rfl, by decide +kernel⟩
theorem witness_mailboxActuators_actUnload : (fun (s u : State) (t : Nat) (ch : Fin 16) (n : Fin 4) => s.at t = u ∧ (u.mbGoes ch 0x21 (State.noSect ch u) (true) = true) ∧ (n = u.mbSect ch) ∧ (u.fenced n = false) ∧ (u.domOn (16 + n) = true) ∧ (u.parked n = false) ∧ (u.motionRuns n = false))
    (ask (put up [(R.ACT_STATUS 1, 0)]) 2 0x21 [1]) ((ask (put up [(R.ACT_STATUS 1, 0)]) 2 0x21 [1] : State).at 0) 0 (2 : Fin 16) (1 : Fin 4) :=
  ⟨rfl, by decide +kernel⟩
theorem witness_mailboxActuators_actSeek : (fun (s u : State) (t : Nat) (ch : Fin 16) (n : Fin 4) => s.at t = u ∧ (u.mbGoes ch 0x22 (State.noSect ch u) (true) = true) ∧ (n = u.mbSect ch) ∧ (u.safeHolds = false) ∧ (u.fenced n = false) ∧ (u.domOn (16 + n) = true) ∧ (u.parked n = false) ∧ (u.retracting n = false) ∧ (u.psetBare n (bitsOf (u.mbReq ch 1) 7 6) = false) ∧ (u.motionRuns n = false) ∧ (u.mschHolds n = false))
    (ask (put up [(R.ACT_STATUS 1, 0), (R.PG_SET 1 3, 5)]) 2 0x22 [9, 100, 7]) ((ask (put up [(R.ACT_STATUS 1, 0), (R.PG_SET 1 3, 5)]) 2 0x22 [9, 100, 7] : State).at 0) 0 (2 : Fin 16) (1 : Fin 4) :=
  ⟨rfl, by decide +kernel⟩
theorem witness_mailboxActuators_actMjog : (fun (s u : State) (t : Nat) (ch : Fin 16) (n : Fin 4) => s.at t = u ∧ (u.mbGoes ch 0x23 (State.noSect ch u) (true) = true) ∧ (n = u.mbSect ch) ∧ (u.linkUp = true) ∧ (u.safeHolds = false) ∧ (u.fenced n = false) ∧ (u.domOn (16 + n) = true) ∧ (u.rd (R.ATB_LEAD_CNT n) ≠ 0xFFFFFFFF))
    (ask (put up [(R.ATB_LEAD_CNT 1, 1000)]) 2 0x23 [1, 0xFFF0]) ((ask (put up [(R.ATB_LEAD_CNT 1, 1000)]) 2 0x23 [1, 0xFFF0] : State).at 0) 0 (2 : Fin 16) (1 : Fin 4) :=
  ⟨rfl, by decide +kernel⟩
theorem witness_mailboxActuators_actOcClr : (fun (s u : State) (t : Nat) (ch : Fin 16) (n : Fin 4) => s.at t = u ∧ (u.mbGoes ch 0x24 (State.noSect ch u) (true) = true) ∧ (n = u.mbSect ch) ∧ (u.linkUp = true) ∧ (u.domOn (16 + n) = true))
    (ask (put up [(R.ACT_STATUS 1, 0x140)]) 2 0x24 [1]) ((ask (put up [(R.ACT_STATUS 1, 0x140)]) 2 0x24 [1] : State).at 0) 0 (2 : Fin 16) (1 : Fin 4) :=
  ⟨rfl, by decide +kernel⟩
theorem witness_mailboxActuators_actParams : (fun (s u : State) (t : Nat) (ch : Fin 16) (n : Fin 4) => s.at t = u ∧ (u.mbGoes ch 0x25 false true = true) ∧ (n = u.mbSect ch) ∧ (u.domOn (16 + n) = true) ∧ (regOk (R.RT_CFG n) (u.mbReq ch 3) = true) ∧ (regOk (R.RT_TIME n) (u.mbReq ch 4) = true))
    (ask (oem up) 2 0x25 [0x21, 500, 0x640A05, 0x6464]) ((ask (oem up) 2 0x25 [0x21, 500, 0x640A05, 0x6464] : State).at 0) 0 (2 : Fin 16) (1 : Fin 4) :=
  ⟨rfl, by decide +kernel⟩
theorem witness_mailboxActuators_positioningLoad : (fun (s u : State) (t : Nat) (n : Fin 4) (ang : Nat) (e : Nat) (r : PosReq) (rest : List PosReq) => s.at t = u ∧ (u.linkUp = true) ∧ (u.wounserUp = true) ∧ (u.plRuns = false) ∧ ((u.sec n).load = none) ∧ ((u.sec n).msch.reqs = r :: rest) ∧ ((u.turnTo n ang).reqIgnored n r = false) ∧ ((u.turnTo n ang).bandChanges n r = false) ∧ ((u.turnTo n ang).ahead n = some e))
    (put ((m1 up { reqs := [⟨0, 5, 0⟩] }).setSec 1 { (m1 up { reqs := [⟨0, 5, 0⟩] }).sec 1 with zoneNew := Vector.replicate 8 (some ⟨100, []⟩) }) [(R.ACT_STATUS 1, 0), (R.PG_SET 1 3, 5), (R.ATB_LEAD_CNT 1, 1000)]) ((put ((m1 up { reqs := [⟨0, 5, 0⟩] }).setSec 1 { (m1 up { reqs := [⟨0, 5, 0⟩] }).sec 1 with zoneNew := Vector.replicate 8 (some ⟨100, []⟩) }) [(R.ACT_STATUS 1, 0), (R.PG_SET 1 3, 5), (R.ATB_LEAD_CNT 1, 1000)] : State).at 0) 0 (1 : Fin 4) (500 : Nat) (2500 : Nat) (⟨0, 5, 0⟩ : PosReq) ([] : List PosReq) :=
  ⟨rfl, by decide +kernel⟩

theorem witness_mailboxTables_ldLedge : (fun (s u : State) (t : Nat) (ch : Fin 16) (d : Nat) (x : LedgeRec) => s.at t = u ∧ (u.mbGoes ch 0x30 false true = true) ∧ (u.mbReq ch 3 % 64 = 1) ∧ (addrBad (u.mbAddr ch 1) 80 = false) ∧ ((u.mbBytes ch 1 80).err = false) ∧ (parseLedge ((u.mbBytes ch 1 80).bytes.take 80) = some (d, x)) ∧ (d < 32))
    (ask (dramPut up 0 ledgeBytes) 2 0x30 [dramBase % 2 ^ 32, dramBase / 2 ^ 32, 1]) ((ask (dramPut up 0 ledgeBytes) 2 0x30 [dramBase % 2 ^ 32, dramBase / 2 ^ 32, 1] : State).at 0) 0 (2 : Fin 16) (9 : Nat) (⟨100, 0, (List.range 33).map Int.ofNat⟩ : LedgeRec) :=
  ⟨rfl, by decide +kernel⟩
theorem witness_mailboxTables_ldZone : (fun (s u : State) (t : Nat) (ch : Fin 16) (z : ZoneTable) => s.at t = u ∧ (u.mbGoes ch 0x31 false true = true) ∧ (u.mbTableOk ch 6 (fun z => 20 + 16 * min z 257) = true) ∧ (halfAt (u.mbTableBytes ch 6 (fun z => 20 + 16 * min z 257)).bytes 4 < 32) ∧ (parseZoneTable (halfAt (u.mbTableBytes ch 6 (fun z => 20 + 16 * min z 257)).bytes 4) u.maxRpm (u.mbTableBytes ch 6 (fun z => 20 + 16 * min z 257)).bytes = some z))
    (ask (dramPut (oem up) 0 (withCrc (wordsToBytes [0x5A540001, 0x10009, 100, 0, 0, 100, 65536, 10]))) 2 0x31 [dramBase % 2 ^ 32, dramBase / 2 ^ 32]) ((ask (dramPut (oem up) 0 (withCrc (wordsToBytes [0x5A540001, 0x10009, 100, 0, 0, 100, 65536, 10]))) 2 0x31 [dramBase % 2 ^ 32, dramBase / 2 ^ 32] : State).at 0) 0 (2 : Fin 16) (⟨100, [⟨0, 100, 65536, 10, 0, 0⟩]⟩ : ZoneTable) :=
  ⟨rfl, by decide +kernel⟩
theorem witness_mailboxTables_ldChcal : (fun (s u : State) (t : Nat) (ch : Fin 16) => s.at t = u ∧ (u.mbGoes ch 0x32 false true = true))
    (ask (oem up) 2 0x32 [dramBase % 2 ^ 32, dramBase / 2 ^ 32]) ((ask (oem up) 2 0x32 [dramBase % 2 ^ 32, dramBase / 2 ^ 32] : State).at 0) 0 (2 : Fin 16) :=
  ⟨rfl, by decide +kernel⟩
theorem witness_mailboxTables_ldLoop : (fun (s u : State) (t : Nat) (ch : Fin 16) (n : Fin 4) (k : Fin 512) => s.at t = u ∧ (u.mbGoes ch 0x33 (false) (State.loopLevel ch u) = true) ∧ (n = u.mbSect ch) ∧ (u.linkUp = true) ∧ (u.domOn (16 + n) = true) ∧ (addrBad (u.mbAddr ch 2) 2180 = false) ∧ (u.loopMode n = 2))
    (ask (put (dramPut up 0 loopBytes) [(R.MB_GRANT 1, 1)]) 2 0x33 [1, dramBase % 2 ^ 32, dramBase / 2 ^ 32]) ((ask (put (dramPut up 0 loopBytes) [(R.MB_GRANT 1, 1)]) 2 0x33 [1, dramBase % 2 ^ 32, dramBase / 2 ^ 32] : State).at 0) 0 (2 : Fin 16) (1 : Fin 4) (3 : Fin 512) :=
  ⟨rfl, by decide +kernel⟩
theorem witness_mailboxTables_setPset : (fun (s u : State) (t : Nat) (ch : Fin 16) (n : Fin 4) (j : Fin 4) => s.at t = u ∧ (u.mbGoes ch 0x34 false true = true) ∧ (n = u.mbSect ch) ∧ (u.linkUp = true) ∧ (u.domOn (16 + n) = true) ∧ (psetOk ((List.range 4).map (fun k => u.mbReq ch (2 + k))) = true))
    (ask up 2 0x34 [5, 100, 40, 20, 20]) ((ask up 2 0x34 [5, 100, 40, 20, 20] : State).at 0) 0 (2 : Fin 16) (1 : Fin 4) (3 : Fin 4) :=
  ⟨rfl, by decide +kernel⟩
theorem witness_mailboxTables_setBudget : (fun (s u : State) (t : Nat) (ch : Fin 16) => s.at t = u ∧ (u.mbGoes ch 0x35 false true = true) ∧ (u.linkUp = true) ∧ (u.domOn 14 = true) ∧ (u.mbReq ch 1 ≠ 0) ∧ (u.mbReq ch 1 ≤ 20000) ∧ (u.mbReq ch 3 ≤ u.mbReq ch 1) ∧ (u.mbReq ch 2 < 65536))
    (ask (oem up) 2 0x35 [3000, 500, 100]) ((ask (oem up) 2 0x35 [3000, 500, 100] : State).at 0) 0 (2 : Fin 16) :=
  ⟨rfl, by decide +kernel⟩
theorem witness_mailboxTables_ldCpl : (fun (s u : State) (t : Nat) (ch : Fin 16) (k : Fin 16) => s.at t = u ∧ (u.mbGoes ch 0x36 (false) (State.loopsLevel ch u) = true) ∧ (u.linkUp = true) ∧ (u.domOn 14 = true))
    (ask (put up ((List.range 4).map (fun g => (R.MB_GRANT g, 1)))) 2 0x36 [1, 0x80020003]) ((ask (put up ((List.range 4).map (fun g => (R.MB_GRANT g, 1)))) 2 0x36 [1, 0x80020003] : State).at 0) 0 (2 : Fin 16) (3 : Fin 16) :=
  ⟨rfl, by decide +kernel⟩
theorem witness_mailboxTables_setPeriod : (fun (s u : State) (t : Nat) (ch : Fin 16) => s.at t = u ∧ (u.mbGoes ch 0x37 false true = true) ∧ (u.linkUp = true) ∧ (u.domOn 14 = true) ∧ (regOk R.LE_PERIOD (u.mbReq ch 1) = true) ∧ (u.allParked = true))
    (ask (oem up) 2 0x37 [(resetOf R.LE_PERIOD).toNat]) ((ask (oem up) 2 0x37 [(resetOf R.LE_PERIOD).toNat] : State).at 0) 0 (2 : Fin 16) :=
  ⟨rfl, by decide +kernel⟩
theorem witness_mailboxTables_saveCal : (fun (s u : State) (t : Nat) (ch : Fin 16) => s.at t = u ∧ (u.mbGoes ch 0x38 false true = true))
    (ask (oem up) 2 0x38 [0]) ((ask (oem up) 2 0x38 [0] : State).at 0) 0 (2 : Fin 16) :=
  ⟨rfl, by decide +kernel⟩

theorem witness_grantsAndTokens_grChal : (fun (s u : State) (t : Nat) (ch : Fin 16) => s.at t = u ∧ (u.mbGoes ch 0x40 false true = true) ∧ (u.bit R.CRYP_RNG_STATUS 1 = false))
    (ask up 2 0x40 []) ((ask up 2 0x40 [] : State).at 0) 0 (2 : Fin 16) :=
  ⟨rfl, by decide +kernel⟩
theorem witness_grantsAndTokens_grToken : (fun (s u : State) (t : Nat) (ch : Fin 16) (k : Nat) => s.at t = u ∧ (u.mbGoes ch 0x41 false true = true) ∧ (u.mbReq ch 1 % 256 % 16 = 0) ∧ (u.mbReq ch 1 % 256 ≤ 144) ∧ (bitsOf (u.mbReq ch 1) 15 8 ≤ 48) ∧ (u.mbReq ch 1 % 256 + bitsOf (u.mbReq ch 1) 15 8 ≤ 160) ∧ (k < bitsOf (u.mbReq ch 1) 15 8))
    (ask up 2 0x41 [0x1010, 0x04030201, 0x08070605]) ((ask up 2 0x41 [0x1010, 0x04030201, 0x08070605] : State).at 0) 0 (2 : Fin 16) (5 : Nat) :=
  ⟨rfl, by decide +kernel⟩
theorem witness_grantsAndTokens_grReq : (fun (s u : State) (t : Nat) (ch : Fin 16) (g : Fin 31) (f : Nat) (n : Fin 4) => s.at t = u ∧ (u.mbGoes ch 0x42 (State.grantForeign ch u) (true) = true) ∧ (u.mbGrant ch = some g) ∧ (u.fld (R.MB_STAT ch) 10 8 < 4) ∧ (f = u.mbReq ch 1 % 8) ∧ (n.val = bitsOf (u.mbReq ch 1) 5 4) ∧ (u.lcState = 3 → u.grantToken ch = true) ∧ (f ≤ 1 → u.fenced n = false ∧ u.domOn (16 + n) = true) ∧ (f = 2 → u.domOn 15 = true ∧ u.allParked = true ∧ u.peerStopped = true) ∧ (f = 0 → (u.sec n).load = none ∧ u.retracting n = false) ∧ (u.atLimit f = false) ∧ (u.holder g = 0))
    (ask (oem up) 2 0x42 [0x10, 60]) ((ask (oem up) 2 0x42 [0x10, 60] : State).at 0) 0 (2 : Fin 16) (1 : Fin 31) (0 : Nat) (1 : Fin 4) :=
  ⟨rfl, by decide +kernel⟩
theorem witness_grantsAndTokens_grRel : (fun (s u : State) (t : Nat) (ch : Fin 16) (g : Fin 31) => s.at t = u ∧ (u.mbGoes ch 0x43 (State.notHolder ch u) (true) = true) ∧ (u.mbGrant ch = some g) ∧ (u.held g = true) ∧ (u.mbReq ch 1 % 8 = 4 → u.xunitUsed (bitsOf (u.mbReq ch 1) 7 4) = false))
    (ask (put up [(R.MB_GRANT 1, 0x21)]) 2 0x43 [0x10]) ((ask (put up [(R.MB_GRANT 1, 0x21)]) 2 0x43 [0x10] : State).at 0) 0 (2 : Fin 16) (1 : Fin 31) :=
  ⟨rfl, by decide +kernel⟩
theorem witness_grantsAndTokens_grQuery : (fun (s u : State) (t : Nat) (ch : Fin 16) (g : Fin 31) => s.at t = u ∧ (u.mbGoes ch 0x44 false true = true) ∧ (u.mbGrant ch = some g))
    (ask (put up [(R.MB_GRANT 1, 0x21)]) 2 0x44 [0x10]) ((ask (put up [(R.MB_GRANT 1, 0x21)]) 2 0x44 [0x10] : State).at 0) 0 (2 : Fin 16) (1 : Fin 31) :=
  ⟨rfl, by decide +kernel⟩
theorem witness_grantsAndTokens_xrw : (fun (s u : State) (t : Nat) (ch : Fin 16) (g : Fin 31) => s.at t = u ∧ (u.mbGoes ch 0x45 (State.xrwDenied ch u) (State.xrwLevel ch u) = true) ∧ (u.mbGrant ch = some g) ∧ (u.xrwAddr ch % 4 = 0) ∧ (u.xrwWrites ch = false))
    (ask (put up [(R.MB_GRANT 1, 1)]) 2 0x45 [0x10, (R.LOOP_STATUS 1) % 2 ^ 32, (R.LOOP_STATUS 1) / 2 ^ 32]) ((ask (put up [(R.MB_GRANT 1, 1)]) 2 0x45 [0x10, (R.LOOP_STATUS 1) % 2 ^ 32, (R.LOOP_STATUS 1) / 2 ^ 32] : State).at 0) 0 (2 : Fin 16) (1 : Fin 31) :=
  ⟨rfl, by decide +kernel⟩
theorem witness_grantsAndTokens_xrw_2 : (fun (s u : State) (t : Nat) (ch : Fin 16) (g : Fin 31) => s.at t = u ∧ (u.mbGoes ch 0x45 (State.xrwDenied ch u) (State.xrwLevel ch u) = true) ∧ (u.mbGrant ch = some g) ∧ (u.xrwAddr ch % 4 = 0) ∧ (u.xrwWrites ch = true))
    (ask (put up [(R.MB_GRANT 1, 1)]) 2 0x45 [0x110, (R.LOOP_REGION 1 0) % 2 ^ 32, (R.LOOP_REGION 1 0) / 2 ^ 32, 0x1003F, 15]) ((ask (put up [(R.MB_GRANT 1, 1)]) 2 0x45 [0x110, (R.LOOP_REGION 1 0) % 2 ^ 32, (R.LOOP_REGION 1 0) / 2 ^ 32, 0x1003F, 15] : State).at 0) 0 (2 : Fin 16) (1 : Fin 31) :=
  ⟨rfl, by decide +kernel⟩
theorem witness_grantsAndTokens_grantExpiry : (fun (s u : State) (t : Nat) (g : Fin 31) (e : Nat) => s.at t = u ∧ (u.wounserUp = true) ∧ (findKey g.val u.mbox.expiry = some e) ∧ (e ≤ u.gtc) ∧ (u.held g = true))
    (({ up with mbox := { up.mbox with expiry := [(1, 5)] } } : State).setReg (R.MB_GRANT 1) 0x21) ((({ up with mbox := { up.mbox with expiry := [(1, 5)] } } : State).setReg (R.MB_GRANT 1) 0x21 : State).at 0) 0 (1 : Fin 31) (5 : Nat) :=
  ⟨rfl, by decide +kernel⟩
theorem witness_grantsAndTokens_grantExpiryWarn : (fun (s u : State) (t : Nat) (g : Fin 31) (e : Nat) => s.at t = u ∧ (u.wounserUp = true) ∧ (findKey g.val u.mbox.expiry = some e) ∧ (e ≤ u.gtc + 10000000000) ∧ (u.mbox.warned.contains g.val = false) ∧ (u.held g = true))
    (({ up with mbox := { up.mbox with expiry := [(1, 9000000000)] } } : State).setReg (R.MB_GRANT 1) 0x21) ((({ up with mbox := { up.mbox with expiry := [(1, 9000000000)] } } : State).setReg (R.MB_GRANT 1) 0x21 : State).at 0) 0 (1 : Fin 31) (9000000000 : Nat) :=
  ⟨rfl, by decide +kernel⟩
theorem witness_grantsAndTokens_grantRestore : (fun (s u : State) (t : Nat) (g : Fin 31) => s.at t = u ∧ (u.wounserUp = true) ∧ (u.holder g = 6))
    (up.setReg (R.MB_GRANT 1) 0x26) ((up.setReg (R.MB_GRANT 1) 0x26 : State).at 0) 0 (1 : Fin 31) :=
  ⟨rfl, by decide +kernel⟩

theorem witness_safetyAndLifeCycleCommands_safeEnter : (fun (s u : State) (t : Nat) (ch : Fin 16) => s.at t = u ∧ (u.mbGoes ch 0x50 false true = true))
    (ask up 2 0x50 []) ((ask up 2 0x50 [] : State).at 0) 0 (2 : Fin 16) :=
  ⟨rfl, by decide +kernel⟩
theorem witness_safetyAndLifeCycleCommands_safeExit : (fun (s u : State) (t : Nat) (ch : Fin 16) => s.at t = u ∧ (u.mbGoes ch 0x51 false true = true) ∧ (u.safeHolds = true) ∧ (u.safeExitOk = true))
    (ask (put { up with sump := { up.sump with safeLine := true } } [(R.SUMP_STATUS, 1)]) 2 0x51 []) ((ask (put { up with sump := { up.sump with safeLine := true } } [(R.SUMP_STATUS, 1)]) 2 0x51 [] : State).at 0) 0 (2 : Fin 16) :=
  ⟨rfl, by decide +kernel⟩
theorem witness_safetyAndLifeCycleCommands_fence : (fun (s u : State) (t : Nat) (ch : Fin 16) (x : FUnit) => s.at t = u ∧ (u.mbGoes ch 0x52 false true = true) ∧ (u.mbUnit ch = some x))
    (ask up 2 0x52 [67]) ((ask up 2 0x52 [67] : State).at 0) 0 (2 : Fin 16) (.sqz 3 : FUnit) :=
  ⟨rfl, by decide +kernel⟩
theorem witness_safetyAndLifeCycleCommands_unfence : (fun (s u : State) (t : Nat) (ch : Fin 16) (x : FUnit) => s.at t = u ∧ (u.mbGoes ch 0x53 false true = true) ∧ (u.mbUnit ch = some x) ∧ (u.unitFault x = false))
    (ask (put up [(R.SUMP_FENCED, 0x80)]) 2 0x53 [67]) ((ask (put up [(R.SUMP_FENCED, 0x80)]) 2 0x53 [67] : State).at 0) 0 (2 : Fin 16) (.sqz 3 : FUnit) :=
  ⟨rfl, by decide +kernel⟩
theorem witness_safetyAndLifeCycleCommands_lcMove : (fun (s u : State) (t : Nat) (ch : Fin 16) (to_ : Nat) (keys : List Nat) => s.at t = u ∧ (u.mbGoes ch 0x61 false true = true) ∧ (u.mbox.lc = none) ∧ (to_ = u.mbReq ch 1) ∧ (to_ ≤ 5) ∧ (transition u.fuses.state to_ = some keys) ∧ (u.transitionReady to_ = true) ∧ (keys ≠ [] → u.lcToken ch = true) ∧ (u.bit R.CRYP_RNG_STATUS 1 = false))
    (ask (oem { up with fuses := { up.fuses with lcc := 2 } }) 2 0x61 [5]) ((ask (oem { up with fuses := { up.fuses with lcc := 2 } }) 2 0x61 [5] : State).at 0) 0 (2 : Fin 16) (5 : Nat) ([] : List Nat) :=
  ⟨rfl, by decide +kernel⟩
theorem witness_safetyAndLifeCycleCommands_lcFuseProgram : (fun (s u : State) (t : Nat) (r : LcRun) => s.at t = u ∧ (u.wounserUp = true) ∧ (u.mbox.lc = some r) ∧ (r.done = none) ∧ (u.plRuns = false) ∧ (u.allParked = true) ∧ (u.fld R.BUF_DUMP_STATUS 1 0 ≠ 1))
    ({ up with mbox := { up.mbox with lc := some ⟨2, 4, none⟩ } }) (({ up with mbox := { up.mbox with lc := some ⟨2, 4, none⟩ } } : State).at 0) 0 (⟨2, 4, none⟩ : LcRun) :=
  ⟨rfl, by decide +kernel⟩
theorem witness_safetyAndLifeCycleCommands_lcReset : (fun (s u : State) (t : Nat) (r : LcRun) (t0 : Nat) => s.at t = u ∧ (u.wounserUp = true) ∧ (u.mbox.lc = some r) ∧ (r.done = some t0) ∧ (t0 + 1000000 ≤ u.gtc))
    ({ up with mbox := { up.mbox with lc := some ⟨2, 4, some 0⟩ } }) (({ up with mbox := { up.mbox with lc := some ⟨2, 4, some 0⟩ } } : State).at 0) 0 (⟨2, 4, some 0⟩ : LcRun) (0 : Nat) :=
  ⟨rfl, by decide +kernel⟩
theorem witness_safetyAndLifeCycleCommands_imgLoad : (fun (s u : State) (t : Nat) (ch : Fin 16) => s.at t = u ∧ (u.mbGoes ch 0x62 false true = true) ∧ (u.mbReq ch 4 % 4 ≠ 3) ∧ (u.mbReq ch 3 ≠ 0) ∧ (addrBad (u.mbAddr ch 1) (u.mbReq ch 3) = false) ∧ (u.mbReq ch 3 ≤ imgMax (u.mbReq ch 4 % 4)) ∧ ((u.mbBytes ch 1 (u.mbReq ch 3)).err = false))
    (ask (dramPut up 0 (List.replicate 16 1#8)) 2 0x62 [dramBase % 2 ^ 32, dramBase / 2 ^ 32, 16, 1]) ((ask (dramPut up 0 (List.replicate 16 1#8)) 2 0x62 [dramBase % 2 ^ 32, dramBase / 2 ^ 32, 16, 1] : State).at 0) 0 (2 : Fin 16) :=
  ⟨rfl, by decide +kernel⟩
theorem witness_safetyAndLifeCycleCommands_appRelease : (fun (s u : State) (t : Nat) => s.at t = u ∧ (u.domOn 5 = true) ∧ (u.domOn 7 = true) ∧ (u.domOn 12 = true) ∧ (u.wounserUp = true) ∧ (u.bootStage = 2 ∨ (u.bootStage = 4 ∧ u.pwr.winFw = true)) ∧ (1 ≤ u.lcState) ∧ (u.lcState ≤ 4))
    (up.setReg R.PWR_BOOT_STATUS 2) ((up.setReg R.PWR_BOOT_STATUS 2 : State).at 0) 0  :=
  ⟨rfl, by decide +kernel⟩
theorem witness_safetyAndLifeCycleCommands_ownTake : (fun (s u : State) (t : Nat) (ch : Fin 16) => s.at t = u ∧ (u.mbGoes ch 0x81 (State.pairRefuses ch 0x81 u) (true) = true) ∧ (ch ≠ 15))
    (ask (put up [(R.ROPE_STATUS, 3)]) 2 0x81 [6]) ((ask (put up [(R.ROPE_STATUS, 3)]) 2 0x81 [6] : State).at 0) 0 (2 : Fin 16) :=
  ⟨rfl, by decide +kernel⟩
theorem witness_safetyAndLifeCycleCommands_ownGive : (fun (s u : State) (t : Nat) (ch : Fin 16) => s.at t = u ∧ (u.mbGoes ch 0x82 (State.pairRefuses ch 0x82 u) (true) = true) ∧ (ch ≠ 15) ∧ (((List.finRange 4).any (fun n => maskSec (u.mbReq ch 1 % 32) n && u.bit (R.MSCH_CTRL n) 0)) = false) ∧ (bitOf (u.mbReq ch 1 % 32) 0 = false))
    (ask (put up [(R.ROPE_STATUS, 3)]) 2 0x82 [6]) ((ask (put up [(R.ROPE_STATUS, 3)]) 2 0x82 [6] : State).at 0) 0 (2 : Fin 16) :=
  ⟨rfl, by decide +kernel⟩
theorem witness_safetyAndLifeCycleCommands_ownTakeTimeout : (fun (s u : State) (t : Nat) (ch : Fin 16) (mask : Nat) (t0 : Nat) => s.at t = u ∧ (u.wounserUp = true) ∧ ((u.chan ch).run = some (.take mask t0)) ∧ (t0 + 25000000 ≤ u.gtc))
    (up.onMbChan 2 (fun c => { c with run := some (.take 6 0) })) ((up.onMbChan 2 (fun c => { c with run := some (.take 6 0) }) : State).at 0) 0 (2 : Fin 16) (6 : Nat) (0 : Nat) :=
  ⟨rfl, by decide +kernel⟩
theorem witness_safetyAndLifeCycleCommands_plReport : (fun (s u : State) (t : Nat) (ch : Fin 16) => s.at t = u ∧ (u.mbGoes ch 0x83 (State.notPaired u) (true) = true))
    (ask (put up [(R.ROPE_STATUS, 3)]) 15 0x83 [6]) ((ask (put up [(R.ROPE_STATUS, 3)]) 15 0x83 [6] : State).at 0) 0 (15 : Fin 16) :=
  ⟨rfl, by decide +kernel⟩

theorem witness_flowstoneCommands_flowSwtrig : (fun (s u : State) (t : Nat) (i : Initiator) (w : BitVec 32) (d : Nat) => s.at t = u ∧ (u.takesWrite i R.FLOW_SWTRIG = true) ∧ (u.flowOn = true) ∧ (d = w.toNat % 64) ∧ (u.flowDefOn d 0 = true) ∧ (u.bit R.FLOW_STATUS 2 = false) ∧ (u.flow.fifo.length < 16))
    (put up [(R.FLOW_CTRL, 1), (R.FLOW_DEF_W0 3, 9)]) ((put up [(R.FLOW_CTRL, 1), (R.FLOW_DEF_W0 3, 9)] : State).at 0) 0 (.app 1 : Initiator) (3#32 : BitVec 32) (3 : Nat) :=
  ⟨rfl, by decide +kernel⟩
theorem witness_flowstoneCommands_flowRecordStart : (fun (s u : State) (t : Nat) (x : Trig) (rest : List Trig) (k : Nat) => s.at t = u ∧ (u.domOn 11 = true) ∧ (u.flow.fifo = x :: rest) ∧ (u.flow.run = none) ∧ (u.sealed = false) ∧ (u.badWord x.def_ = none) ∧ (u.bit R.FLOW_CFG 0 = false) ∧ (k < (u.defRun x.def_).2))
    (put { up with flow := { up.flow with fifo := [⟨3, 0, 9, 0, 0⟩] } } [(R.FLOW_DEF_W1 3, 0x30000)]) ((put { up with flow := { up.flow with fifo := [⟨3, 0, 9, 0, 0⟩] } } [(R.FLOW_DEF_W1 3, 0x30000)] : State).at 0) 0 (⟨3, 0, 9, 0, 0⟩ : Trig) ([] : List Trig) (1 : Nat) :=
  ⟨rfl, by decide +kernel⟩
theorem witness_flowstoneCommands_flowRecordEnd : (fun (s u : State) (t : Nat) (r : FlowRun) (k : Nat) (v : Word) => s.at t = u ∧ (u.domOn 11 = true) ∧ (u.flow.run = some r) ∧ (r.words[k]? = some v) ∧ (r.ofs % 4 = 0) ∧ (r.ofs + 4 * r.words.length ≤ ringBytes))
    ({ up with flow := { up.flow with run := some ⟨64, 5, [1#32, 2#32, 3#32]⟩ } }) (({ up with flow := { up.flow with run := some ⟨64, 5, [1#32, 2#32, 3#32]⟩ } } : State).at 0) 0 (⟨64, 5, [1#32, 2#32, 3#32]⟩ : FlowRun) (2 : Nat) (3#32 : Word) :=
  ⟨rfl, by decide +kernel⟩
theorem witness_flowstoneCommands_flowBackgroundCheck : (fun (s u : State) (t : Nat) => s.at t = u ∧ (u.domOn 11 = true))
    (up) ((up : State).at 0) 0  :=
  ⟨rfl, by decide +kernel⟩
theorem witness_flowstoneCommands_flowBackgroundCheck_2 : (fun (s u : State) (t : Nat) (mem : Fin 4) (word : Nat) => s.at t = u ∧ (u.domOn 11 = true) ∧ (u.sealed = false) ∧ (mem ≠ 3))
    (up) ((up : State).at 0) 0 (1 : Fin 4) (5 : Nat) :=
  ⟨rfl, by decide +kernel⟩
theorem witness_flowstoneCommands_unseal : (fun (s u : State) (t : Nat) (i : Initiator) => s.at t = u ∧ (u.takesWrite i R.FLOW_CTRL = true) ∧ (u.sealed = true))
    (put up [(R.FLOW_STATUS, 4)]) ((put up [(R.FLOW_STATUS, 4)] : State).at 0) 0 (.cc : Initiator) :=
  ⟨rfl, by decide +kernel⟩
theorem witness_flowstoneCommands_unsealDone : (fun (s u : State) (t : Nat) => s.at t = u ∧ (u.domOn 11 = true) ∧ (u.flow.unsealing = true))
    (put { up with flow := { up.flow with unsealing := true } } [(R.FLOW_STATUS, 4)]) ((put { up with flow := { up.flow with unsealing := true } } [(R.FLOW_STATUS, 4)] : State).at 0) 0  :=
  ⟨rfl, by decide +kernel⟩
theorem witness_flowstoneCommands_flowClear : (fun (s u : State) (t : Nat) (i : Initiator) => s.at t = u ∧ (u.takesWrite i R.FLOW_CTRL = true) ∧ (u.flowIdle = true))
    (put up [(R.FLOW_HEAD_SEQ, 7)]) ((put up [(R.FLOW_HEAD_SEQ, 7)] : State).at 0) 0 (.cc : Initiator) :=
  ⟨rfl, by decide +kernel⟩
theorem witness_flowstoneCommands_lwClr : (fun (s u : State) (t : Nat) (i : Initiator) (k : Fin 8) => s.at t = u ∧ (u.takesWrite i R.FLOW_CTRL = true))
    (put up [(R.FLOW_LW 3, 7)]) ((put up [(R.FLOW_LW 3, 7)] : State).at 0) 0 (.cc : Initiator) (3 : Fin 8) :=
  ⟨rfl, by decide +kernel⟩

theorem witness_counterCommands_counterOverflow : (fun (s u : State) (t : Nat) (k : Fin 128) => s.at t = u ∧ (u.pmuOn = true) ∧ (u.bit (R.PMU_EVSEL k) 10 = true) ∧ ((k.val % 2 == 1 && u.bit (R.PMU_EVSEL k) 11) = false) ∧ ((k.val % 2 == 0 && u.bit (R.PMU_EVSEL (k.val + 1)) 11) = false) ∧ (2 ^ 48 ≤ u.pmuCnt k + 1023) ∧ (u.pmuCnt k < 2 ^ 48))
    (put up [(R.PMU_EVSEL 6, 0x411), (R.PMU_CNT_LO 6, 0xFFFFFFF0), (R.PMU_CNT_HI 6, 0xFFFF)]) ((put up [(R.PMU_EVSEL 6, 0x411), (R.PMU_CNT_LO 6, 0xFFFFFFF0), (R.PMU_CNT_HI 6, 0xFFFF)] : State).at 0) 0 (6 : Fin 128) :=
  ⟨rfl, by decide +kernel⟩
theorem witness_counterCommands_pmuMdieSums : (fun (s u : State) (t : Nat) => s.at t = u ∧ (u.linkUp = true))
    ({ up with flow := { up.flow with msums := [(5, 2)] } }) (({ up with flow := { up.flow with msums := [(5, 2)] } } : State).at 0) 0  :=
  ⟨rfl, by decide +kernel⟩
theorem witness_counterCommands_snap : (fun (s u : State) (t : Nat) (i : Initiator) (k : Fin 128) => s.at t = u ∧ (u.takesWrite i R.PMU_SNAP = true) ∧ (u.gtc < 2 ^ 64))
    (put up [(R.PMU_CNT_LO 100, 77), (R.PMU_CNT_HI 100, 7)]) ((put up [(R.PMU_CNT_LO 100, 77), (R.PMU_CNT_HI 100, 7)] : State).at 0) 0 (.app 2 : Initiator) (100 : Fin 128) :=
  ⟨rfl, by decide +kernel⟩
theorem witness_counterCommands_mlostClr : (fun (s u : State) (t : Nat) (i : Initiator) => s.at t = u ∧ (u.takesWrite i R.PMU_SNAP = true))
    (put up [(R.PMU_STATUS, 4)]) ((put up [(R.PMU_STATUS, 4)] : State).at 0) 0 (.app 2 : Initiator) :=
  ⟨rfl, by decide +kernel⟩
theorem witness_counterCommands_pmuDump : (fun (s u : State) (t : Nat) => s.at t = u ∧ (u.domOn 11 = true) ∧ (u.bit R.PMU_CTRL 2 = true) ∧ (u.flow.dumpAt ≤ u.gtc))
    (put up [(R.PMU_CTRL, 4), (R.PMU_DUMP_BASE_HI, dramBase / 2 ^ 32), (R.PMU_DUMP_SLOTS, 4), (R.PMU_DUMP_PERIOD, 10)]) ((put up [(R.PMU_CTRL, 4), (R.PMU_DUMP_BASE_HI, dramBase / 2 ^ 32), (R.PMU_DUMP_SLOTS, 4), (R.PMU_DUMP_PERIOD, 10)] : State).at 0) 0  :=
  ⟨rfl, by decide +kernel⟩
theorem witness_counterCommands_pmuCntRead : (fun (s u : State) (t : Nat) (i : Initiator) (k : Fin 128) => s.at t = u ∧ (u.domOn 11 = true) ∧ (u.latched i (R.PMU_CNT_LO k + 1) ≠ 1))
    (put up [(R.PMU_CNT_LO 100, 77), (R.PMU_CNT_HI 100, 7)]) ((put up [(R.PMU_CNT_LO 100, 77), (R.PMU_CNT_HI 100, 7)] : State).at 0) 0 (.app 2 : Initiator) (100 : Fin 128) :=
  ⟨rfl, by decide +kernel⟩

theorem witness_ropeLink_ropeFlitReceive : (fun (s u : State) (t : Nat) (flit : BitVec 144) => s.at t = u ∧ (u.domOn 13 = true) ∧ (u.ropeUp = true) ∧ (eccLinkClass (chk (flit.toNat / 65536) ^^^ (flit.toNat % 65536)) = .clean))
    (put up [(R.ROPE_STATUS, 1)]) ((put up [(R.ROPE_STATUS, 1)] : State).at 0) 0 (0#144 : BitVec 144) :=
  ⟨rfl, by decide +kernel⟩
theorem witness_ropeLink_ropeFlitReceive_2 : (fun (s u : State) (t : Nat) (flit : BitVec 144) => s.at t = u ∧ (u.domOn 13 = true) ∧ (u.ropeUp = true) ∧ (eccLinkClass (chk (flit.toNat / 65536) ^^^ (flit.toNat % 65536)) = .ue) ∧ (u.rope.rx.replays < 8))
    (put up [(R.ROPE_STATUS, 1)]) ((put up [(R.ROPE_STATUS, 1)] : State).at 0) 0 (0xB#144 : BitVec 144) :=
  ⟨rfl, by decide +kernel⟩
theorem witness_ropeLink_ropeLinkUp : (fun (s u : State) (t : Nat) => s.at t = u ∧ (u.domOn 13 = true) ∧ (u.ropeUp = false))
    ({ up with rope := { up.rope with txq := [[1#32]] } }) (({ up with rope := { up.rope with txq := [[1#32]] } } : State).at 0) 0  :=
  ⟨rfl, by decide +kernel⟩
theorem witness_ropeLink_ropeRetrain : (fun (s u : State) (t : Nat) (i : Initiator) => s.at t = u ∧ (u.takesWrite i R.ROPE_CMD = true) ∧ (u.ropeUp = true))
    (put up [(R.ROPE_STATUS, 3)]) ((put up [(R.ROPE_STATUS, 3)] : State).at 0) 0 (.cc : Initiator) :=
  ⟨rfl, by decide +kernel⟩
theorem witness_ropeLink_pair : (fun (s u : State) (t : Nat) (p : PeerId) => s.at t = u ∧ (u.domOn 13 = true) ∧ (u.bit R.ROPE_CTRL 0 = true) ∧ (u.ropeUp = true) ∧ (u.bit R.ROPE_STATUS 4 = false) ∧ (p.en = true) ∧ (p.lc = u.lcState) ∧ (p.major = u.fld R.MB_VER 30 16))
    (put up [(R.ROPE_STATUS, 1), (R.ROPE_CTRL, 1)]) ((put up [(R.ROPE_STATUS, 1), (R.ROPE_CTRL, 1)] : State).at 0) 0 (⟨true, 77, 3, 0⟩ : PeerId) :=
  ⟨rfl, by decide +kernel⟩
theorem witness_ropeLink_ropeHbKick : (fun (s u : State) (t : Nat) (i : Initiator) (w : BitVec 32) => s.at t = u ∧ (u.takesWrite i R.ROPE_HB_KICK = true) ∧ (w = 0x4B43#32))
    (up) ((up : State).at 0) 0 (.cc : Initiator) (0x4B43#32 : BitVec 32) :=
  ⟨rfl, by decide +kernel⟩
theorem witness_ropeLink_heartbeatSend : (fun (s u : State) (t : Nat) (k : Nat) => s.at t = u ∧ (u.domOn 13 = true) ∧ (u.ropeUp = true) ∧ (u.rope.kickAt = some k) ∧ (u.bit R.ROPE_CTRL 2 = true) ∧ (u.gtc ≤ k + 1000000))
    (put { up with rope := { up.rope with kickAt := some 5000000000 } } [(R.ROPE_STATUS, 1), (R.ROPE_CTRL, 4)]) ((put { up with rope := { up.rope with kickAt := some 5000000000 } } [(R.ROPE_STATUS, 1), (R.ROPE_CTRL, 4)] : State).at 0) 0 (5000000000 : Nat) :=
  ⟨rfl, by decide +kernel⟩
theorem witness_ropeLink_heartbeatReceive : (fun (s u : State) (t : Nat) => s.at t = u ∧ (u.domOn 13 = true) ∧ (u.ropeUp = true))
    (put up [(R.ROPE_STATUS, 5)]) ((put up [(R.ROPE_STATUS, 5)] : State).at 0) 0  :=
  ⟨rfl, by decide +kernel⟩
theorem witness_ropeLink_heartbeatLoss : (fun (s u : State) (t : Nat) => s.at t = u ∧ (u.domOn 13 = true) ∧ (u.suspect = false) ∧ (u.paired = true) ∧ (u.rope.hbAt + 150000 ≤ u.gtc))
    (put up [(R.ROPE_STATUS, 3)]) ((put up [(R.ROPE_STATUS, 3)] : State).at 0) 0  :=
  ⟨rfl, by decide +kernel⟩
theorem witness_ropeLink_peerSafeReceive : (fun (s u : State) (t : Nat) => s.at t = u ∧ (u.domOn 13 = true) ∧ (u.ropeUp = true))
    (put up [(R.ROPE_STATUS, 1), (R.ROPE_OWN, 0x1E00), (R.ACT_STATUS 1, 0)]) ((put up [(R.ROPE_STATUS, 1), (R.ROPE_OWN, 0x1E00), (R.ACT_STATUS 1, 0)] : State).at 0) 0  :=
  ⟨rfl, by decide +kernel⟩
theorem witness_ropeLink_ropeMessageSend : (fun (s u : State) (t : Nat) (i : Initiator) (w3 : BitVec 32) => s.at t = u ∧ (u.takesWrite i (R.ROPE_TXMSG 3) = true) ∧ (u.ropeUp = true))
    (put up [(R.ROPE_STATUS, 1)]) ((put up [(R.ROPE_STATUS, 1)] : State).at 0) 0 (.app 1 : Initiator) (7#32 : BitVec 32) :=
  ⟨rfl, by decide +kernel⟩
theorem witness_ropeLink_ropeMessageSend_2 : (fun (s u : State) (t : Nat) (i : Initiator) (w3 : BitVec 32) => s.at t = u ∧ (u.takesWrite i (R.ROPE_TXMSG 3) = true) ∧ (u.ropeUp = false) ∧ (u.rope.txq.length < 16))
    (up) ((up : State).at 0) 0 (.app 1 : Initiator) (7#32 : BitVec 32) :=
  ⟨rfl, by decide +kernel⟩
theorem witness_ropeLink_ropeMessageReceive : (fun (s u : State) (t : Nat) (w0 : BitVec 32) (w1 : BitVec 32) (w2 : BitVec 32) (w3 : BitVec 32) => s.at t = u ∧ (u.domOn 13 = true) ∧ (u.ropeUp = true) ∧ (u.rope.rxq.length < 16))
    (put up [(R.ROPE_STATUS, 1)]) ((put up [(R.ROPE_STATUS, 1)] : State).at 0) 0 (1#32 : BitVec 32) (2#32 : BitVec 32) (3#32 : BitVec 32) (4#32 : BitVec 32) :=
  ⟨rfl, by decide +kernel⟩
theorem witness_ropeLink_ropeRxmsgPop : (fun (s u : State) (t : Nat) (i : Initiator) (m : List Word) (r : List (List Word)) => s.at t = u ∧ (u.takesWrite i R.ROPE_RXMSG_POP = true) ∧ (u.rope.rxq = m :: r))
    ({ up with rope := { up.rope with rxq := [[1#32]] } }) (({ up with rope := { up.rope with rxq := [[1#32]] } } : State).at 0) 0 (.app 1 : Initiator) ([1#32] : List Word) ([] : List (List Word)) :=
  ⟨rfl, by decide +kernel⟩
theorem witness_ropeLink_ropeLaneLockLoss : (fun (s u : State) (t : Nat) (lane : Fin 2) => s.at t = u ∧ (u.domOn 13 = true) ∧ (u.ropeUp = true))
    (put up [(R.ROPE_STATUS, 0x303)]) ((put up [(R.ROPE_STATUS, 0x303)] : State).at 0) 0 (1 : Fin 2) :=
  ⟨rfl, by decide +kernel⟩

theorem witness_ownership_ownReqWrite : (fun (s u : State) (t : Nat) (i : Initiator) (w : BitVec 32) => s.at t = u ∧ (u.takesWrite i R.ROPE_OWN_REQ = true))
    (up) ((up : State).at 0) 0 (.cc : Initiator) (6#32 : BitVec 32) :=
  ⟨rfl, by decide +kernel⟩
theorem witness_ownership_ownGntChange : (fun (s u : State) (t : Nat) (n : Fin 5) => s.at t = u ∧ (u.owned n = false) ∧ (u.suspect = false) ∧ (n ≠ 0))
    (put up [(R.ROPE_OWN, 0)]) ((put up [(R.ROPE_OWN, 0)] : State).at 0) 0 (2 : Fin 5) :=
  ⟨rfl, by decide +kernel⟩
theorem witness_ownership_ownGntChange_2 : (fun (s u : State) (t : Nat) (n : Fin 5) => s.at t = u ∧ (u.owned n = true) ∧ (n ≠ 0))
    (up) ((up : State).at 0) 0 (2 : Fin 5) :=
  ⟨rfl, by decide +kernel⟩
theorem witness_ownership_ownGntChange_3 : (fun (s u : State) (t : Nat) (n : Fin 5) => s.at t = u ∧ (u.owned n = true) ∧ (n = 0))
    (up) ((up : State).at 0) 0 (0 : Fin 5) :=
  ⟨rfl, by decide +kernel⟩

theorem witness_mirrorJobs_copy : (fun (s u : State) (t : Nat) (c : Fin 4) (w : List Nat) => s.at t = u ∧ (0 < u.rd (R.ROPE_MQ_SIZE c)) ∧ (u.domOn 13 = true) ∧ (u.rope.mir[c] = none) ∧ (u.rd (R.ROPE_MQ_PROD c) % u.rd (R.ROPE_MQ_SIZE c) ≠ u.rd (R.ROPE_MQ_CONS c) % u.rd (R.ROPE_MQ_SIZE c)) ∧ (u.domOn 5 = true) ∧ (w = u.mirHead c) ∧ (mirOp w ≠ 2) ∧ (mirOp w ≠ 3) ∧ (mirOk w = false))
    ((ram (put up [(R.ROPE_STATUS, 3), (R.ROPE_MQ_BASE_LO 1, 0x20000000), (R.ROPE_MQ_SIZE 1, 8), (R.ROPE_MQ_PROD 1, 1)]) 0 (wordsToBytes ([4] ++ List.replicate 6 0)))) (((ram (put up [(R.ROPE_STATUS, 3), (R.ROPE_MQ_BASE_LO 1, 0x20000000), (R.ROPE_MQ_SIZE 1, 8), (R.ROPE_MQ_PROD 1, 1)]) 0 (wordsToBytes ([4] ++ List.replicate 6 0))) : State).at 0) 0 (1 : Fin 4) (((ram (put up [(R.ROPE_STATUS, 3), (R.ROPE_MQ_BASE_LO 1, 0x20000000), (R.ROPE_MQ_SIZE 1, 8), (R.ROPE_MQ_PROD 1, 1)]) 0 (wordsToBytes ([4] ++ List.replicate 6 0)))).mirHead 1 : List Nat) :=
  ⟨rfl, by decide +kernel⟩
theorem witness_mirrorJobs_copy_2 : (fun (s u : State) (t : Nat) (c : Fin 4) (w : List Nat) => s.at t = u ∧ (0 < u.rd (R.ROPE_MQ_SIZE c)) ∧ (u.domOn 13 = true) ∧ (u.rope.mir[c] = none) ∧ (u.rd (R.ROPE_MQ_PROD c) % u.rd (R.ROPE_MQ_SIZE c) ≠ u.rd (R.ROPE_MQ_CONS c) % u.rd (R.ROPE_MQ_SIZE c)) ∧ (w = u.mirHead c) ∧ (mirOp w = 1) ∧ (mirOk w = true) ∧ (u.paired = true) ∧ (u.suspect = false) ∧ ((u.busRead 5 (w.getD 4 0 + 2 ^ 32 * w.getD 5 0) (w.getD 2 0)).err = false))
    ((ram (put up [(R.ROPE_STATUS, 3), (R.ROPE_MQ_BASE_LO 1, 0x20000000), (R.ROPE_MQ_SIZE 1, 8), (R.ROPE_MQ_PROD 1, 1)]) 0 (wordsToBytes ([1 + 65536 * 9, 0, 64, 0, dramBase % 2 ^ 32, dramBase / 2 ^ 32, dramBase % 2 ^ 32, dramBase / 2 ^ 32, dramBase % 2 ^ 32, dramBase / 2 ^ 32] ++ List.replicate 6 0)))) (((ram (put up [(R.ROPE_STATUS, 3), (R.ROPE_MQ_BASE_LO 1, 0x20000000), (R.ROPE_MQ_SIZE 1, 8), (R.ROPE_MQ_PROD 1, 1)]) 0 (wordsToBytes ([1 + 65536 * 9, 0, 64, 0, dramBase % 2 ^ 32, dramBase / 2 ^ 32, dramBase % 2 ^ 32, dramBase / 2 ^ 32, dramBase % 2 ^ 32, dramBase / 2 ^ 32] ++ List.replicate 6 0))) : State).at 0) 0 (1 : Fin 4) (((ram (put up [(R.ROPE_STATUS, 3), (R.ROPE_MQ_BASE_LO 1, 0x20000000), (R.ROPE_MQ_SIZE 1, 8), (R.ROPE_MQ_PROD 1, 1)]) 0 (wordsToBytes ([1 + 65536 * 9, 0, 64, 0, dramBase % 2 ^ 32, dramBase / 2 ^ 32, dramBase % 2 ^ 32, dramBase / 2 ^ 32, dramBase % 2 ^ 32, dramBase / 2 ^ 32] ++ List.replicate 6 0)))).mirHead 1 : List Nat) :=
  ⟨rfl, by decide +kernel⟩
theorem witness_mirrorJobs_copyMark : (fun (s u : State) (t : Nat) (c : Fin 4) (w : List Nat) => s.at t = u ∧ (0 < u.rd (R.ROPE_MQ_SIZE c)) ∧ (u.domOn 13 = true) ∧ (u.rope.mir[c] = none) ∧ (u.rd (R.ROPE_MQ_PROD c) % u.rd (R.ROPE_MQ_SIZE c) ≠ u.rd (R.ROPE_MQ_CONS c) % u.rd (R.ROPE_MQ_SIZE c)) ∧ (w = u.mirHead c) ∧ (mirOp w = 2) ∧ (mirOk w = true) ∧ (u.paired = false ∨ u.suspect = true))
    (put ((ram (put up [(R.ROPE_STATUS, 3), (R.ROPE_MQ_BASE_LO 1, 0x20000000), (R.ROPE_MQ_SIZE 1, 8), (R.ROPE_MQ_PROD 1, 1)]) 0 (wordsToBytes ([2 + 65536 * 9, 3, 64, 0, dramBase % 2 ^ 32, dramBase / 2 ^ 32, dramBase % 2 ^ 32, dramBase / 2 ^ 32, dramBase % 2 ^ 32, dramBase / 2 ^ 32] ++ List.replicate 6 0)))) [(R.ROPE_STATUS, 1)]) ((put ((ram (put up [(R.ROPE_STATUS, 3), (R.ROPE_MQ_BASE_LO 1, 0x20000000), (R.ROPE_MQ_SIZE 1, 8), (R.ROPE_MQ_PROD 1, 1)]) 0 (wordsToBytes ([2 + 65536 * 9, 3, 64, 0, dramBase % 2 ^ 32, dramBase / 2 ^ 32, dramBase % 2 ^ 32, dramBase / 2 ^ 32, dramBase % 2 ^ 32, dramBase / 2 ^ 32] ++ List.replicate 6 0)))) [(R.ROPE_STATUS, 1)] : State).at 0) 0 (1 : Fin 4) (((ram (put up [(R.ROPE_STATUS, 3), (R.ROPE_MQ_BASE_LO 1, 0x20000000), (R.ROPE_MQ_SIZE 1, 8), (R.ROPE_MQ_PROD 1, 1)]) 0 (wordsToBytes ([2 + 65536 * 9, 3, 64, 0, dramBase % 2 ^ 32, dramBase / 2 ^ 32, dramBase % 2 ^ 32, dramBase / 2 ^ 32, dramBase % 2 ^ 32, dramBase / 2 ^ 32] ++ List.replicate 6 0)))).mirHead 1 : List Nat) :=
  ⟨rfl, by decide +kernel⟩
theorem witness_mirrorJobs_mirrorClean : (fun (s u : State) (t : Nat) (c : Fin 4) (w : List Nat) => s.at t = u ∧ (0 < u.rd (R.ROPE_MQ_SIZE c)) ∧ (u.domOn 13 = true) ∧ (u.rope.mir[c] = none) ∧ (u.rd (R.ROPE_MQ_PROD c) % u.rd (R.ROPE_MQ_SIZE c) ≠ u.rd (R.ROPE_MQ_CONS c) % u.rd (R.ROPE_MQ_SIZE c)) ∧ (w = u.mirHead c) ∧ (mirOp w = 3) ∧ (mirOk w = true) ∧ (u.paired = true) ∧ (u.suspect = false) ∧ (u.ropeUp = true))
    ((ram (put up [(R.ROPE_STATUS, 3), (R.ROPE_MQ_BASE_LO 1, 0x20000000), (R.ROPE_MQ_SIZE 1, 8), (R.ROPE_MQ_PROD 1, 1)]) 0 (wordsToBytes ([3 + 65536 * 9, 5, 0, 0, 0, 0, 0, 0, 0, 0] ++ List.replicate 6 0)))) (((ram (put up [(R.ROPE_STATUS, 3), (R.ROPE_MQ_BASE_LO 1, 0x20000000), (R.ROPE_MQ_SIZE 1, 8), (R.ROPE_MQ_PROD 1, 1)]) 0 (wordsToBytes ([3 + 65536 * 9, 5, 0, 0, 0, 0, 0, 0, 0, 0] ++ List.replicate 6 0))) : State).at 0) 0 (1 : Fin 4) ([3 + 65536 * 9, 5, 0, 0, 0, 0, 0, 0, 0, 0, 0, 0, 0, 0, 0, 0] : List Nat) :=
  ⟨rfl, by decide +kernel⟩
theorem witness_mirrorJobs_mirrorComplete : (fun (s u : State) (t : Nat) (c : Fin 4) (status : BitVec 4) (res : BitVec 32) (m : MirRun) => s.at t = u ∧ (u.rope.mir[c] = some m) ∧ (u.domOn 13 = true) ∧ (ringFull (u.rd (R.ROPE_MC_PROD c)) (u.rd (R.ROPE_MC_CONS c)) (u.rd (R.ROPE_MC_SIZE c)) = false))
    (put { up with rope := { up.rope with mir := Vector.replicate 4 (some ⟨9, none⟩) } } [(R.ROPE_MC_SIZE 1, 8), (R.ROPE_MC_BASE_LO 1, 0x20000000)]) ((put { up with rope := { up.rope with mir := Vector.replicate 4 (some ⟨9, none⟩) } } [(R.ROPE_MC_SIZE 1, 8), (R.ROPE_MC_BASE_LO 1, 0x20000000)] : State).at 0) 0 (1 : Fin 4) (0#4 : BitVec 4) (0#32 : BitVec 32) (⟨9, none⟩ : MirRun) :=
  ⟨rfl, by decide +kernel⟩

theorem witness_commandWindow_identify : (fun (s u : State) (t : Nat) (i : Initiator) => s.at t = u ∧ (u.pathOn i = true) ∧ (u.cwBusy = false) ∧ (u.cwLocked (pathCode i) = false) ∧ (u.cwRefusal 1 = 0) ∧ (u.fuses.devid.length = 16))
    (up) ((up : State).at 0) 0 (.mgmt : Initiator) :=
  ⟨rfl, by decide +kernel⟩
theorem witness_commandWindow_ssRead : (fun (s u : State) (t : Nat) (i : Initiator) => s.at t = u ∧ (u.pathOn i = true) ∧ (u.cwBusy = false) ∧ (u.cwLocked (pathCode i) = false) ∧ (u.cwRefusal 0x10 = 0))
    (put (oem up) [(R.CW_COUNT, 1)]) ((put (oem up) [(R.CW_COUNT, 1)] : State).at 0) 0 (.mgmt : Initiator) :=
  ⟨rfl, by decide +kernel⟩
theorem witness_commandWindow_ssWrite : (fun (s u : State) (t : Nat) (i : Initiator) => s.at t = u ∧ (u.pathOn i = true) ∧ (u.cwBusy = false) ∧ (u.cwLocked (pathCode i) = false) ∧ (u.cwRefusal 0x11 = 0))
    (put (oem up) [(R.CW_COUNT, 1)]) ((put (oem up) [(R.CW_COUNT, 1)] : State).at 0) 0 (.mgmt : Initiator) :=
  ⟨rfl, by decide +kernel⟩
theorem witness_commandWindow_ssErase : (fun (s u : State) (t : Nat) (i : Initiator) => s.at t = u ∧ (u.pathOn i = true) ∧ (u.cwBusy = false) ∧ (u.cwLocked (pathCode i) = false) ∧ (u.cwRefusal 0x12 = 0))
    (put (oem up) [(R.CW_COUNT, 1)]) ((put (oem up) [(R.CW_COUNT, 1)] : State).at 0) 0 (.mgmt : Initiator) :=
  ⟨rfl, by decide +kernel⟩
theorem witness_commandWindow_imgStage : (fun (s u : State) (t : Nat) (i : Initiator) => s.at t = u ∧ (u.pathOn i = true) ∧ (u.cwBusy = false) ∧ (u.cwLocked (pathCode i) = false) ∧ (u.cwRefusal 0x20 = 0))
    (up) ((up : State).at 0) 0 (.mgmt : Initiator) :=
  ⟨rfl, by decide +kernel⟩
theorem witness_commandWindow_imgCommit : (fun (s u : State) (t : Nat) (i : Initiator) => s.at t = u ∧ (u.pathOn i = true) ∧ (u.cwBusy = false) ∧ (u.cwLocked (pathCode i) = false) ∧ (u.cwRefusal 0x21 = 0))
    (put up [(R.CW_COUNT, 1)]) ((put up [(R.CW_COUNT, 1)] : State).at 0) 0 (.mgmt : Initiator) :=
  ⟨rfl, by decide +kernel⟩
theorem witness_commandWindow_physRead : (fun (s u : State) (t : Nat) (i : Initiator) => s.at t = u ∧ (u.pathOn i = true) ∧ (u.cwBusy = false) ∧ (u.cwLocked (pathCode i) = false) ∧ (u.cwRefusal 0x30 = 0))
    (put (oem up) [(R.SP_STATUS, 0x25), (R.ACT_STATUS 0, 0)]) ((put (oem up) [(R.SP_STATUS, 0x25), (R.ACT_STATUS 0, 0)] : State).at 0) 0 (.mgmt : Initiator) :=
  ⟨rfl, by decide +kernel⟩
theorem witness_commandWindow_ssRead_2 : (fun (s u : State) (t : Nat) (i : Initiator) (c : Nat) => s.at t = u ∧ (u.pathOn i = true) ∧ (u.cwBusy = false) ∧ (u.cwLocked (pathCode i) = false) ∧ (u.cwRefusal 0x10 = c) ∧ (c ≠ 0))
    (up) ((up : State).at 0) 0 (.mgmt : Initiator) (3 : Nat) :=
  ⟨rfl, by decide +kernel⟩
theorem witness_commandWindow_driveFirmwareOpcode : (fun (s u : State) (t : Nat) (i : Initiator) (op : BitVec 8) (k : Nat) (r : List Nat) => s.at t = u ∧ (u.pathOn i = true) ∧ (u.cwBusy = false) ∧ (u.cwLocked (pathCode i) = false) ∧ (0x80 ≤ op.toNat) ∧ (u.cwRefusal op.toNat = 0) ∧ (u.lowestFree u.reserved 1 0 1024 = k :: r))
    (put up [(R.CW_STATUS, 0x40), (R.QENG_SLOT_CFG, 2)]) ((put up [(R.CW_STATUS, 0x40), (R.QENG_SLOT_CFG, 2)] : State).at 0) 0 (.mgmt : Initiator) (0x85#8 : BitVec 8) (0 : Nat) ([] : List Nat) :=
  ⟨rfl, by decide +kernel⟩
theorem witness_commandWindow_cwLock : (fun (s u : State) (t : Nat) (i : Initiator) (w : BitVec 32) => s.at t = u ∧ (u.pathOn i = true) ∧ (w.toNat % 4 = pathCode i) ∧ (u.cwLock = 0))
    (up) ((up : State).at 0) 0 (.mgmt : Initiator) (3#32 : BitVec 32) :=
  ⟨rfl, by decide +kernel⟩
theorem witness_commandWindow_cwLock_2 : (fun (s u : State) (t : Nat) (i : Initiator) (w : BitVec 32) => s.at t = u ∧ (u.pathOn i = true) ∧ (w.toNat % 4 = 0) ∧ (u.cwLock = pathCode i))
    (put up [(R.CW_LOCK, 3)]) ((put up [(R.CW_LOCK, 3)] : State).at 0) 0 (.mgmt : Initiator) (0#32 : BitVec 32) :=
  ⟨rfl, by decide +kernel⟩
theorem witness_commandWindow_cwLockTimeout : (fun (s u : State) (t : Nat) => s.at t = u ∧ (u.cwLock ≠ 0) ∧ (u.cwBusy = false) ∧ (u.mgmt.cwTouch + 10000000000 ≤ u.gtc))
    (put { up with gtc := 10000000000 } [(R.CW_LOCK, 3)]) ((put { up with gtc := 10000000000 } [(R.CW_LOCK, 3)] : State).at 0) 0  :=
  ⟨rfl, by decide +kernel⟩

theorem witness_commandWindowEnds_cwComplete : (fun (s u : State) (t : Nat) (res : BitVec 32) (bytes : List (BitVec 8)) (k : Fin 1024) => s.at t = u ∧ (u.cwBusy = true) ∧ (u.cwServer = true) ∧ (u.fld R.BUF_DUMP_STATUS 1 0 ≠ 1) ∧ (u.fld R.CW_STATUS 15 8 = 0x10))
    (busy up 0x10) ((busy up 0x10 : State).at 0) 0 (0#32 : BitVec 32) ([] : List (BitVec 8)) (7 : Fin 1024) :=
  ⟨rfl, by decide +kernel⟩
theorem witness_commandWindowEnds_cwComplete_2 : (fun (s u : State) (t : Nat) (res : BitVec 32) (bytes : List (BitVec 8)) => s.at t = u ∧ (u.cwBusy = true) ∧ (u.cwServer = true) ∧ (u.fld R.BUF_DUMP_STATUS 1 0 ≠ 1) ∧ (u.fld R.CW_STATUS 15 8 = 0x11))
    (busy up 0x11) ((busy up 0x11 : State).at 0) 0 (0#32 : BitVec 32) ([] : List (BitVec 8)) :=
  ⟨rfl, by decide +kernel⟩
theorem witness_commandWindowEnds_cwComplete_3 : (fun (s u : State) (t : Nat) (res : BitVec 32) (bytes : List (BitVec 8)) (a : Nat) => s.at t = u ∧ (u.cwBusy = true) ∧ (u.cwServer = true) ∧ (u.fld R.BUF_DUMP_STATUS 1 0 ≠ 1) ∧ (u.fld R.CW_STATUS 15 8 = 0x12))
    (busy up 0x12) ((busy up 0x12 : State).at 0) 0 (0#32 : BitVec 32) ([] : List (BitVec 8)) (5 : Nat) :=
  ⟨rfl, by decide +kernel⟩
theorem witness_commandWindowEnds_cwComplete_4 : (fun (s u : State) (t : Nat) (res : BitVec 32) (bytes : List (BitVec 8)) => s.at t = u ∧ (u.cwBusy = true) ∧ (u.cwServer = true) ∧ (u.fld R.BUF_DUMP_STATUS 1 0 ≠ 1) ∧ (u.fld R.CW_STATUS 15 8 = 0x10))
    (busy up 0x10) ((busy up 0x10 : State).at 0) 0 (0#32 : BitVec 32) ([] : List (BitVec 8)) :=
  ⟨rfl, by decide +kernel⟩
theorem witness_commandWindowEnds_cwTimeout : (fun (s u : State) (t : Nat) => s.at t = u ∧ (u.cwBusy = true) ∧ (u.mgmt.cwAt + 1000000000 * u.fld R.CW_CFG 15 8 ≤ u.gtc))
    (busy { up with gtc := 300000000000 } 0x10) ((busy { up with gtc := 300000000000 } 0x10 : State).at 0) 0  :=
  ⟨rfl, by decide +kernel⟩
theorem witness_commandWindowEnds_cwAbort : (fun (s u : State) (t : Nat) (i : Initiator) => s.at t = u ∧ (u.pathOn i = true) ∧ (u.cwBusy = true))
    (busy up 0x10) ((busy up 0x10 : State).at 0) 0 (.mgmt : Initiator) :=
  ⟨rfl, by decide +kernel⟩
theorem witness_commandWindowEnds_cwSvcOn : (fun (s u : State) (t : Nat) (i : Initiator) => s.at t = u ∧ (u.takesWrite i R.CW_SVC = true))
    (up) ((up : State).at 0) 0 (.app 1 : Initiator) :=
  ⟨rfl, by decide +kernel⟩
theorem witness_commandWindowEnds_cwSvcOff : (fun (s u : State) (t : Nat) (i : Initiator) => s.at t = u ∧ (u.takesWrite i R.CW_SVC = true) ∧ (u.mgmt.cwSlot = none))
    (put up [(R.CW_STATUS, 0x40)]) ((put up [(R.CW_STATUS, 0x40)] : State).at 0) 0 (.app 1 : Initiator) :=
  ⟨rfl, by decide +kernel⟩
theorem witness_commandWindowEnds_cwSvcOff_2 : (fun (s u : State) (t : Nat) (i : Initiator) (k : Nat) => s.at t = u ∧ (u.takesWrite i R.CW_SVC = true) ∧ (u.mgmt.cwSlot = some k))
    (put (mg { cwSlot := some 3 }) [(R.CW_STATUS, 0x8541)]) ((put (mg { cwSlot := some 3 }) [(R.CW_STATUS, 0x8541)] : State).at 0) 0 (.app 1 : Initiator) (3 : Nat) :=
  ⟨rfl, by decide +kernel⟩
theorem witness_commandWindowEnds_cwFwDone : (fun (s u : State) (t : Nat) (i : Initiator) (w : BitVec 32) (k : Nat) => s.at t = u ∧ (u.takesWrite i R.CW_FW_DONE = true) ∧ (2 ≤ w.toNat % 8) ∧ (w.toNat % 8 ≤ 4) ∧ (u.mgmt.cwLate = []) ∧ (u.mgmt.cwSlot = some k))
    (put (mg { cwSlot := some 3 }) [(R.CW_STATUS, 0x8541)]) ((put (mg { cwSlot := some 3 }) [(R.CW_STATUS, 0x8541)] : State).at 0) 0 (.app 1 : Initiator) (2#32 : BitVec 32) (3 : Nat) :=
  ⟨rfl, by decide +kernel⟩

theorem witness_chimneyMessages_mctpPacket : (fun (s u : State) (t : Nat) (p : MctpPacket) => s.at t = u ∧ (u.chmServes = true) ∧ (u.chmAddressed p.bytes = true) ∧ (u.chmUnwrap p.bytes = none))
    (up) ((up : State).at 0) 0 (⟨[BitVec.ofNat 8 (2 * up.fld R.CHM_CFG 6 0), 5]⟩ : MctpPacket) :=
  ⟨rfl, by decide +kernel⟩
theorem witness_chimneyMessages_mctpPacket_2 : (fun (s u : State) (t : Nat) (p : MctpPacket) (b : List Byte) => s.at t = u ∧ (u.chmServes = true) ∧ (u.chmAddressed p.bytes = true) ∧ (u.chmUnwrap p.bytes = some b) ∧ (byteAt b 1 = 0) ∧ (bitsOf (byteAt b 3) 7 6 = 3) ∧ (byteAt b 4 % 128 ≠ 0x7E) ∧ ((b.drop 4).length ≤ u.mgmt.unit) ∧ ((b.drop 4).length ≤ 4104))
    (up) ((up : State).at 0) 0 (chmPkt 0xC8 [4, 8] : MctpPacket) ([1, 0, 9, 0xC8, 4, 8] : List Byte) :=
  ⟨rfl, by decide +kernel⟩
theorem witness_chimneyMessages_setEndpointId : (fun (s u : State) (t : Nat) (e : BitVec 8) => s.at t = u ∧ (u.chmServes = true) ∧ (e ≠ 0) ∧ (e ≠ 0xFF))
    (up) ((up : State).at 0) 0 (9 : BitVec 8) :=
  ⟨rfl, by decide +kernel⟩
theorem witness_chimneyMessages_getEndpointId : (fun (s u : State) (t : Nat) => s.at t = u ∧ (u.chmServes = true))
    (up) ((up : State).at 0) 0  :=
  ⟨rfl, by decide +kernel⟩
theorem witness_chimneyMessages_getEndpointUuid : (fun (s u : State) (t : Nat) => s.at t = u ∧ (u.chmServes = true))
    (up) ((up : State).at 0) 0  :=
  ⟨rfl, by decide +kernel⟩
theorem witness_chimneyMessages_getMctpVersionSupport : (fun (s u : State) (t : Nat) => s.at t = u ∧ (u.chmServes = true))
    (up) ((up : State).at 0) 0  :=
  ⟨rfl, by decide +kernel⟩
theorem witness_chimneyMessages_getMessageTypeSupport : (fun (s u : State) (t : Nat) => s.at t = u ∧ (u.chmServes = true))
    (up) ((up : State).at 0) 0  :=
  ⟨rfl, by decide +kernel⟩
theorem witness_chimneyMessages_readNvmeMiDataStructure : (fun (s u : State) (t : Nat) (d : BitVec 8) => s.at t = u ∧ (u.chmServes = true) ∧ (d.toNat ≤ 1))
    (up) ((up : State).at 0) 0 (1 : BitVec 8) :=
  ⟨rfl, by decide +kernel⟩
theorem witness_chimneyMessages_nvmSubsystemHealthStatusPoll : (fun (s u : State) (t : Nat) => s.at t = u ∧ (u.chmServes = true) ∧ (u.hlthFresh = true))
    (mg { fresh := true, hlthAt := 4900000000 }) ((mg { fresh := true, hlthAt := 4900000000 } : State).at 0) 0  :=
  ⟨rfl, by decide +kernel⟩
theorem witness_chimneyMessages_nvmSubsystemHealthStatusPoll_2 : (fun (s u : State) (t : Nat) => s.at t = u ∧ (u.chmServes = true) ∧ (u.hlthFresh = false))
    (up) ((up : State).at 0) 0  :=
  ⟨rfl, by decide +kernel⟩
theorem witness_chimneyMessages_configurationGet : (fun (s u : State) (t : Nat) => s.at t = u ∧ (u.chmServes = true))
    (up) ((up : State).at 0) 0  :=
  ⟨rfl, by decide +kernel⟩
theorem witness_chimneyMessages_configurationGet_2 : (fun (s u : State) (t : Nat) => s.at t = u ∧ (u.chmServes = true))
    (up) ((up : State).at 0) 0  :=
  ⟨rfl, by decide +kernel⟩
theorem witness_chimneyMessages_configurationSet : (fun (s u : State) (t : Nat) (v : Nat) => s.at t = u ∧ (u.chmServes = true) ∧ (1 ≤ v) ∧ (v ≤ 3))
    (up) ((up : State).at 0) 0 (2 : Nat) :=
  ⟨rfl, by decide +kernel⟩
theorem witness_chimneyMessages_configurationSet_2 : (fun (s u : State) (t : Nat) (v : Nat) => s.at t = u ∧ (u.chmServes = true) ∧ (64 ≤ v) ∧ (v ≤ 256))
    (up) ((up : State).at 0) 0 (128 : Nat) :=
  ⟨rfl, by decide +kernel⟩
theorem witness_chimneyMessages_vpdRead : (fun (s u : State) (t : Nat) (ofs : Nat) (len : Nat) => s.at t = u ∧ (u.chmServes = true) ∧ (u.vpdWaits = false) ∧ (ofs + len ≤ 512))
    (up) ((up : State).at 0) 0 (8 : Nat) (4 : Nat) :=
  ⟨rfl, by decide +kernel⟩
theorem witness_chimneyMessages_vpdWrite : (fun (s u : State) (t : Nat) (ofs : Nat) (bytes : List (BitVec 8)) (x : Nat) => s.at t = u ∧ (u.chmServes = true) ∧ (u.vpdWaits = false) ∧ (ofs + bytes.length ≤ 512))
    (up) ((up : State).at 0) 0 (8 : Nat) ([1, 2] : List (BitVec 8)) (65536 * 6 + 9 : Nat) :=
  ⟨rfl, by decide +kernel⟩
theorem witness_chimneyMessages_nvmeMiReset : (fun (s u : State) (t : Nat) => s.at t = u ∧ (u.chmServes = true) ∧ (u.domOn 3 = true))
    (up) ((up : State).at 0) 0  :=
  ⟨rfl, by decide +kernel⟩
theorem witness_chimneyMessages_dynamicAddressAssign : (fun (s u : State) (t : Nat) (a : BitVec 7) => s.at t = u ∧ (u.chmServes = true) ∧ (u.i3c = true))
    (put up [(R.CHM_STATUS, 1)]) ((put up [(R.CHM_STATUS, 1)] : State).at 0) 0 (0x55 : BitVec 7) :=
  ⟨rfl, by decide +kernel⟩
theorem witness_chimneyMessages_healthUpdate : (fun (s u : State) (t : Nat) (i : Initiator) (w : BitVec 32) => s.at t = u ∧ (u.takesWrite i R.CHM_HLTH0 = true))
    (up) ((up : State).at 0) 0 (.app 1 : Initiator) (0x500#32 : BitVec 32) :=
  ⟨rfl, by decide +kernel⟩
theorem witness_chimneyMessages_healthStale : (fun (s u : State) (t : Nat) => s.at t = u ∧ (u.chmServes = true) ∧ (u.hlthLate = true))
    (mg { fresh := true, hlthAt := 0 }) ((mg { fresh := true, hlthAt := 0 } : State).at 0) 0  :=
  ⟨rfl, by decide +kernel⟩

theorem witness_chimneyVendorMessages_forwardRequest : (fun (s u : State) (t : Nat) (b : List (BitVec 8)) => s.at t = u ∧ (u.chmServes = true) ∧ (u.fwdOn = true) ∧ (u.bit R.CHM_FWD_CTRL 0 = false) ∧ (b.length ≤ 4104))
    (put up [(R.CHM_CFG, 0x200)]) ((put up [(R.CHM_CFG, 0x200)] : State).at 0) 0 ([4, 8, 0] : List (BitVec 8)) :=
  ⟨rfl, by decide +kernel⟩
theorem witness_chimneyVendorMessages_forwardResponse : (fun (s u : State) (t : Nat) (i : Initiator) (w : BitVec 32) => s.at t = u ∧ (u.takesWrite i R.CHM_FWD_RLEN = true) ∧ (u.bit R.CHM_FWD_CTRL 0 = true) ∧ (0 < w.toNat % 8192) ∧ (w.toNat % 8192 ≤ 4104) ∧ (u.mgmt.fwdQ = []))
    (put up [(R.CHM_FWD_CTRL, 1)]) ((put up [(R.CHM_FWD_CTRL, 1)] : State).at 0) 0 (.app 1 : Initiator) (4#32 : BitVec 32) :=
  ⟨rfl, by decide +kernel⟩
theorem witness_chimneyVendorMessages_moreProcessingRequired : (fun (s u : State) (t : Nat) => s.at t = u ∧ (u.chmServes = true) ∧ (u.bit R.CHM_FWD_CTRL 0 = true) ∧ (u.mgmt.more = false) ∧ (u.mgmt.fwdAt + 100000000 ≤ u.gtc))
    (put up [(R.CHM_FWD_CTRL, 1)]) ((put up [(R.CHM_FWD_CTRL, 1)] : State).at 0) 0  :=
  ⟨rfl, by decide +kernel⟩
theorem witness_chimneyVendorMessages_forwardTimeout : (fun (s u : State) (t : Nat) => s.at t = u ∧ (u.chmServes = true) ∧ (u.bit R.CHM_FWD_CTRL 0 = true) ∧ (u.mgmt.fwdQ = []) ∧ (u.mgmt.fwdAt + 5000000000 ≤ u.gtc))
    (put up [(R.CHM_FWD_CTRL, 1)]) ((put up [(R.CHM_FWD_CTRL, 1)] : State).at 0) 0  :=
  ⟨rfl, by decide +kernel⟩
theorem witness_chimneyVendorMessages_regRead : (fun (s u : State) (t : Nat) (ofs : Nat) (len : Nat) => s.at t = u ∧ (u.chmServes = true) ∧ (u.vdmOk = true) ∧ (vdmRange false ofs len = true))
    (oem up) ((oem up : State).at 0) 0 (4 : Nat) (8 : Nat) :=
  ⟨rfl, by decide +kernel⟩
theorem witness_chimneyVendorMessages_dataRead : (fun (s u : State) (t : Nat) (ofs : Nat) (len : Nat) => s.at t = u ∧ (u.chmServes = true) ∧ (u.vdmOk = true) ∧ (vdmRange true ofs len = true))
    (oem up) ((oem up : State).at 0) 0 (4 : Nat) (8 : Nat) :=
  ⟨rfl, by decide +kernel⟩
theorem witness_chimneyVendorMessages_regWrite : (fun (s u : State) (t : Nat) (ofs : Nat) (len : Nat) (w : List (BitVec 32)) => s.at t = u ∧ (u.chmServes = true) ∧ (u.vdmOk = true) ∧ (vdmRange false ofs len = true) ∧ (4 * w.length = len))
    (oem up) ((oem up : State).at 0) 0 (4 : Nat) (8 : Nat) ([1, 2] : List (BitVec 32)) :=
  ⟨rfl, by decide +kernel⟩
theorem witness_chimneyVendorMessages_dataWrite : (fun (s u : State) (t : Nat) (ofs : Nat) (len : Nat) (w : List (BitVec 32)) => s.at t = u ∧ (u.chmServes = true) ∧ (u.vdmOk = true) ∧ (vdmRange true ofs len = true) ∧ (4 * w.length = len))
    (oem up) ((oem up : State).at 0) 0 (4 : Nat) (8 : Nat) ([1, 2] : List (BitVec 32)) :=
  ⟨rfl, by decide +kernel⟩
theorem witness_chimneyVendorMessages_dataWrite_2 : (fun (s u : State) (t : Nat) (ofs : Nat) (len : Nat) (w : List (BitVec 32)) (k : Nat) (v : BitVec 32) => s.at t = u ∧ (u.chmServes = true) ∧ (u.vdmOk = true) ∧ (vdmRange true ofs len = true) ∧ (4 * w.length = len) ∧ (u.cwBusy = false) ∧ (u.cwLocked 3 = false) ∧ (w[k]? = some v))
    (oem up) ((oem up : State).at 0) 0 (4 : Nat) (8 : Nat) ([1, 2] : List (BitVec 32)) (1 : Nat) (2 : BitVec 32) :=
  ⟨rfl, by decide +kernel⟩
theorem witness_chimneyVendorMessages_mbox : (fun (s u : State) (t : Nat) (w : List (BitVec 32)) (k : Nat) (v : BitVec 32) => s.at t = u ∧ (u.chmServes = true) ∧ (u.vdmOk = true) ∧ (w.length = 16) ∧ (u.wounserUp = true) ∧ (u.mbRunning 14 = false) ∧ (u.mgmt.mboxWait = false) ∧ ((u.chan 14).kept = none) ∧ (w[k]? = some v))
    (oem up) ((oem up : State).at 0) 0 ((List.range 16).map (fun j => BitVec.ofNat 32 (7 * j)) : List (BitVec 32)) (3 : Nat) (21 : BitVec 32) :=
  ⟨rfl, by decide +kernel⟩
theorem witness_chimneyVendorMessages_mboxResponse : (fun (s u : State) (t : Nat) => s.at t = u ∧ (u.chmServes = true) ∧ (u.mgmt.mboxWait = true) ∧ (2 ≤ u.fld (R.MB_STAT 14) 1 0))
    (put (mg { mboxWait := true }) [(R.MB_STAT 14, 2)]) ((put (mg { mboxWait := true }) [(R.MB_STAT 14, 2)] : State).at 0) 0  :=
  ⟨rfl, by decide +kernel⟩
theorem witness_chimneyVendorMessages_mgmtReset : (fun (s u : State) (t : Nat) (i : Initiator) => s.at t = u ∧ (u.takesWrite i R.PWR_RST_CTRL = true) ∧ ((iniIsCc i || iniIsApp i) = true))
    (put (mg { rx := [[4]] }) [(R.CW_LOCK, 3), (R.PWR_MWDOG_CFG, 0x80000000)]) ((put (mg { rx := [[4]] }) [(R.CW_LOCK, 3), (R.PWR_MWDOG_CFG, 0x80000000)] : State).at 0) 0 (.app 1 : Initiator) :=
  ⟨rfl, by decide +kernel⟩
theorem witness_chimneyVendorMessages_mwdogExpiry : (fun (s u : State) (t : Nat) => s.at t = u ∧ (u.bit R.PWR_MWDOG_CFG 31 = true) ∧ (u.pwr.mwdogAt + 1000000 * u.pwr.mwdogTmo ≤ u.gtc))
    (put (mg { rx := [[4]] }) [(R.PWR_MWDOG_CFG, 0x80000000)]) ((put (mg { rx := [[4]] }) [(R.PWR_MWDOG_CFG, 0x80000000)] : State).at 0) 0  :=
  ⟨rfl, by decide +kernel⟩

theorem witness_registerAccess_registerWrite : (fun (s u : State) (t : Nat) (i : Initiator) (a : Nat) (k : Nat) (d : BitVec 32) (x : Nat) => s.at t = u ∧ (u.reaches i a = true) ∧ (placeOf a = .sram) ∧ (1 ≤ k) ∧ (k ≤ 4) ∧ (u.domOn 5 = true) ∧ (a + k ≤ 0x20400000))
    (up) ((up : State).at 0) 0 (.mgmt : Initiator) (0x20000000 + 6 : Nat) (2 : Nat) (0x1234#32 : BitVec 32) (7 : Nat) :=
  ⟨rfl, by decide +kernel⟩
theorem witness_registerAccess_registerWrite_2 : (fun (s u : State) (t : Nat) (i : Initiator) (a : Nat) (k : Nat) (d : BitVec 32) (x : Nat) => s.at t = u ∧ (u.reaches i a = true) ∧ (placeOf a = .ccSram) ∧ (1 ≤ k) ∧ (k ≤ 4) ∧ (i = .cc))
    (up) ((up : State).at 0) 0 (.cc : Initiator) (0x10000000 + 6 : Nat) (2 : Nat) (0x1234#32 : BitVec 32) (7 : Nat) :=
  ⟨rfl, by decide +kernel⟩
theorem witness_registerAccess_registerWrite_3 : (fun (s u : State) (t : Nat) (i : Initiator) (a : Nat) (d : BitVec 32) (b : Blk) (n : Nat) (k : Nat) (r : RegRow) => s.at t = u ∧ (u.reaches i a = true) ∧ (accessFaults i a = false) ∧ (inMWindow a = true) ∧ (u.linkUp = true) ∧ (a % 4 = 0) ∧ (regAt a = some (b, n, r, k)) ∧ (b ≠ .atb ∨ r.off ≠ 0x20))
    (up) ((up : State).at 0) 0 (.cc : Initiator) (R.SP_TGT : Nat) (7#32 : BitVec 32) (.spin : Blk) (0 : Nat) (((regAt R.SP_TGT).map (fun x => x.2.2.2)).getD 0 : Nat) (((regAt R.SP_TGT).map (fun x => x.2.2.1)).getD ⟨0, 0, 0, 0, .cc, []⟩ : RegRow) :=
  ⟨rfl, by decide +kernel⟩
theorem witness_registerAccess_registerWrite_4 : (fun (s u : State) (t : Nat) (i : Initiator) (a : Nat) (d : BitVec 32) (n : Nat) (k : Nat) (r : RegRow) => s.at t = u ∧ (u.reaches i a = true) ∧ (a % 4 = 0) ∧ (u.addrOn a = true) ∧ (regAt a = some (.xfer, n, r, k)) ∧ (u.verdict ⟨i, .xfer, n, offOf a, a, r, d.toNat⟩ = .take))
    (up) ((up : State).at 0) 0 (.app 1 : Initiator) (R.MSCH_XQ_BASE_LO 1 : Nat) (0x20000000#32 : BitVec 32) (1 : Nat) (((regAt (R.MSCH_XQ_BASE_LO 1)).map (fun x => x.2.2.2)).getD 0 : Nat) (((regAt (R.MSCH_XQ_BASE_LO 1)).map (fun x => x.2.2.1)).getD ⟨0, 0, 0, 0, .cc, []⟩ : RegRow) :=
  ⟨rfl, by decide +kernel⟩
theorem witness_registerAccess_registerReadClear : (fun (s u : State) (t : Nat) (i : Initiator) (a : Nat) (b : Blk) (n : Nat) (k : Nat) (r : RegRow) => s.at t = u ∧ (u.reaches i a = true) ∧ (a % 4 = 0) ∧ (inMWindow a = false) ∧ (u.addrOn a = true) ∧ (regAt a = some (b, n, r, k)) ∧ (r.has .rc = true) ∧ (hiOf a = none) ∧ (isHi a = false) ∧ (b = .buf ∨ b = .passh ∨ b = .flow))
    (put up [(R.BUF_CNT_CE, 7)]) ((put up [(R.BUF_CNT_CE, 7)] : State).at 0) 0 (.app 1 : Initiator) (R.BUF_CNT_CE : Nat) (.buf : Blk) (0 : Nat) (((regAt R.BUF_CNT_CE).map (fun x => x.2.2.2)).getD 0 : Nat) (((regAt R.BUF_CNT_CE).map (fun x => x.2.2.1)).getD ⟨0, 0, 0, 0, .cc, []⟩ : RegRow) :=
  ⟨rfl, by decide +kernel⟩
theorem witness_registerAccess_loRead : (fun (s u : State) (t : Nat) (i : Initiator) (a : Nat) (hi : Nat) (b : Blk) (n : Nat) (k : Nat) (r : RegRow) => s.at t = u ∧ (u.reaches i a = true) ∧ (a % 4 = 0) ∧ (inMWindow a = false) ∧ (u.addrOn a = true) ∧ (regAt a = some (b, n, r, k)) ∧ (b = .pwr ∨ b = .mtr) ∧ (hiOf a = some hi))
    (up) ((up : State).at 0) 0 (.app 1 : Initiator) (basePwr : Nat) (basePwr + 4 : Nat) (.pwr : Blk) (0 : Nat) (((regAt basePwr).map (fun x => x.2.2.2)).getD 0 : Nat) (((regAt basePwr).map (fun x => x.2.2.1)).getD ⟨0, 0, 0, 0, .cc, []⟩ : RegRow) :=
  ⟨rfl, by decide +kernel⟩
theorem witness_registerAccess_unalignedAccess : (fun (s u : State) (t : Nat) (i : Initiator) (a : Nat) (k : Nat) (w : Bool) (b : Blk) (n : Nat) (o : Nat) => s.at t = u ∧ (u.reaches i a = true) ∧ (placeOf a = .block b n o) ∧ (inWord a k = false))
    (up) ((up : State).at 0) 0 (.app 1 : Initiator) (baseBuf + 2 : Nat) (4 : Nat) (false : Bool) (.buf : Blk) (0 : Nat) (2 : Nat) :=
  ⟨rfl, by decide +kernel⟩

theorem witness_narrowAndStraddlingAccesses : (fun (s u : State) (t : Nat) (i : Initiator) (a k : Nat) (b : Blk) (n o : Nat) => s.at t = u ∧ u.reaches i a = true ∧ placeOf a = .block b n o ∧ 1 ≤ k ∧ (inMWindow a = true → u.linkUp = true) ∧ inWord a k = true)
    up (up.at 0) 0 .cc (R.SP_TGT + 1) 2 .spin 0 0xD :=
  ⟨rfl, by decide +kernel⟩
theorem witness_narrowAndStraddlingAccesses_2 : (fun (s u : State) (t : Nat) (i : Initiator) (a k : Nat) (b : Blk) (n o : Nat) => s.at t = u ∧ u.reaches i a = true ∧ placeOf a = .block b n o ∧ 1 ≤ k ∧ (inMWindow a = true → u.linkUp = true) ∧ inWord a k = false)
    up (up.at 0) 0 .cc (R.SP_TGT + 1) 4 .spin 0 0xD :=
  ⟨rfl, by decide +kernel⟩

theorem witness_unassignedOffsets : (fun (s u : State) (t : Nat) (i : Initiator) (a : Nat) (b : Blk) (n o : Nat) => s.at t = u ∧ u.reaches i a = true ∧ placeOf a = .block b n o ∧ regAt a = none ∧ u.addrOn a = true ∧ a % 4 = 0 ∧ inMWindow a = false)
    up (up.at 0) 0 .cc (baseLcs + 0xFF00) .lcs 0 0xFF00 :=
  ⟨rfl, by decide +kernel⟩

theorem witness_accessFaults : coreIni (.app 1) = true ∧ placeOf 0x600000000 = .hole ∧ placeOf 0x100E00000 = .hole :=
  by decide +kernel
theorem witness_accessFaults_ccSram : coreIni (.app 1) = true ∧ placeOf 0x10000004 = .ccSram ∧ Initiator.app 1 ≠ .cc :=
  by decide +kernel

theorem witness_sectionAddresses : 0x3FFFC < 0x40000 :=
  by decide +kernel

theorem witness_mapCacheBusyWrites : (fun (u : State) (i : Initiator) => u.takesWrite i R.MAPC_OP_CMD = true ∧ (u.bit R.MAPC_STATUS 2 = true ∨ u.bit R.MAPC_STATUS 1 = true))
    ((put (mc {}) [(R.MAPC_STATUS, 5)]).at 0) (.app 1) :=
  by decide +kernel
theorem witness_mapCacheBusyWrites_lock : (fun (u : State) (i : Initiator) (o : MapcOp) => u.takesWrite i R.MAPC_LOCK = true ∧ u.mapc.op = some o ∧ o.op = 5)
    ((mc { op := some ⟨5, 0, 0, 2⟩ }).at 0) (.app 1) ⟨5, 0, 0, 2⟩ :=
  by decide +kernel

theorem witness_triggerOrder : (fun (u : State) (src kind : Nat) => u.flowOn = true ∧ u.bit R.FLOW_STATUS 2 = false ∧ u.flow.fifo.length + ((List.range 64).filter (u.flowTakes src kind)).length ≤ 16 ∧ u.flowTakes src kind 3 = true ∧ u.flowTakes src kind 5 = true)
    (put up [(R.FLOW_CTRL, 1), (R.FLOW_DEF_W0 3, 13), (R.FLOW_DEF_W0 5, 5)]) 36 6 :=
  by decide +kernel
theorem witness_triggerOrder_counter : (fun (u : State) (n : Nat) => u.flowOn = true ∧ u.bit R.FLOW_STATUS 2 = false ∧ u.flow.fifo.length + ((List.range 64).filter (u.flowCounts n)).length ≤ 16 ∧ u.flowCounts n 3 = true)
    (put up [(R.FLOW_CTRL, 1), (R.FLOW_DEF_W0 3, 7 + 1024 * 6)]) 6 :=
  by decide +kernel

theorem witness_storedBytes : (fun (s : State) (a : Nat) (b : List Byte) => 0x20000000 ≤ a ∧ a + b.length ≤ 0x20400000 ∧ s.domOn 5 = true)
    up 0x20000010 [1, 2, 3] :=
  by decide +kernel
theorem witness_storedBytes_dram : (fun (s : State) (o : Nat) (b : List Byte) => o + b.length ≤ s.usable ∧ s.domOn 7 = true)
    up 14 [1, 2, 3] :=
  by decide +kernel

theorem witness_recordStores_opComplete : (fun (s u : State) (t : Nat) (n : Fin 4) (r : OpRec) (rest : List OpRec) => s.at t = u ∧ (u.domOn 7 = true) ∧ ((u.msch n).recs = r :: rest) ∧ (ringFull (u.rd (R.MSCH_CQ_PROD n)) (u.rd (R.MSCH_CQ_CONS n)) (u.rd (R.MSCH_CQ_SIZE n)) = false))
    (put (m1 up { recs := [⟨[1, 2, 3, 4, 5, 6, 7, 8], true⟩] }) [(R.MSCH_CQ_SIZE 1, 4), (R.MSCH_CQ_BASE_LO 1, 0x20000000)]) ((put (m1 up { recs := [⟨[1, 2, 3, 4, 5, 6, 7, 8], true⟩] }) [(R.MSCH_CQ_SIZE 1, 4), (R.MSCH_CQ_BASE_LO 1, 0x20000000)] : State).at 0) 0 (1 : Fin 4) (⟨[1, 2, 3, 4, 5, 6, 7, 8], true⟩ : OpRec) ([] : List OpRec) :=
  ⟨rfl, by decide +kernel⟩
theorem witness_recordStores_dispatchRecord : (fun (s u : State) (t : Nat) (c : Fin 4) (r : DispRec) (rest : List DispRec) => s.at t = u ∧ (u.domOn 3 = true) ∧ (ringFull (u.rd (R.QENG_DISP_PROD c)) (u.rd (R.QENG_DISP_CONS c)) (u.rd (R.QENG_DISP_SIZE c)) = false) ∧ (firstRec (u.bit R.QENG_PS_CTRL 0) u.qeng.dispQ[c] = some (r, rest)))
    (put { up with qeng := { up.qeng with dispQ := up.qeng.dispQ.set 1 [⟨0, 7, .a, 7#32, 1#32, 4#32, 0#32, false⟩] } } [(R.QENG_DISP_SIZE 1, 16), (R.QENG_DISP_PROD 1, 15), (R.QENG_DISP_CONS 1, 2), (R.QENG_DISP_BASE_LO 1, 0x20000000)]) ((put { up with qeng := { up.qeng with dispQ := up.qeng.dispQ.set 1 [⟨0, 7, .a, 7#32, 1#32, 4#32, 0#32, false⟩] } } [(R.QENG_DISP_SIZE 1, 16), (R.QENG_DISP_PROD 1, 15), (R.QENG_DISP_CONS 1, 2), (R.QENG_DISP_BASE_LO 1, 0x20000000)] : State).at 0) 0 (1 : Fin 4) (⟨0, 7, .a, 7#32, 1#32, 4#32, 0#32, false⟩ : DispRec) ([] : List DispRec) :=
  ⟨rfl, by decide +kernel⟩
theorem witness_recordStores_mirrorComplete : (fun (s u : State) (t : Nat) (c : Fin 4) (status : BitVec 4) (res : BitVec 32) (m : MirRun) => s.at t = u ∧ (u.rope.mir[c] = some m) ∧ (u.domOn 13 = true) ∧ (m.status = none) ∧ (ringFull (u.rd (R.ROPE_MC_PROD c)) (u.rd (R.ROPE_MC_CONS c)) (u.rd (R.ROPE_MC_SIZE c)) = false))
    (put { up with rope := { up.rope with mir := Vector.replicate 4 (some ⟨9, none⟩) } } [(R.ROPE_MC_SIZE 1, 8), (R.ROPE_MC_BASE_LO 1, 0x20000000)]) ((put { up with rope := { up.rope with mir := Vector.replicate 4 (some ⟨9, none⟩) } } [(R.ROPE_MC_SIZE 1, 8), (R.ROPE_MC_BASE_LO 1, 0x20000000)] : State).at 0) 0 (1 : Fin 4) (0#4 : BitVec 4) (0#32 : BitVec 32) (⟨9, none⟩ : MirRun) :=
  ⟨rfl, by decide +kernel⟩

theorem witness_stepRunsFrontCommand : ({ up with pending := [.smbusTimeout 0] } : State).pending = Instr.smbusTimeout 0 :: [] :=
  by decide +kernel

theorem witness_idleStepAndTime : State.reset.pending = [] :=
  by decide +kernel
theorem witness_idleStepAndTime_reg : blkOf R.SP_TGT ≠ some .flow ∧ blkOf R.SP_TGT ≠ some .pmu :=
  by decide +kernel

theorem witness_stepKeepsCanonicalForm : State.reset.canon = true ∧ step State.reset = .next State.reset :=
  ⟨by decide +kernel, rfl⟩

theorem witness_noStepClearsAFuse : step State.reset = .next State.reset :=
  rfl

theorem witness_memoryFrame : (fun (p : Part) (c : Instr) (s s' : State) => exec c s = .next s' ∧ p ∈ [Part.dram, .sram, .ccSram, .store] ∧ p.setBy c = false)
    .dram (.smbusTimeout 0) up (up.at 0) :=
  ⟨rfl, by decide +kernel⟩

theorem witness_unitFrame : (fun (p : Part) (c : Instr) (s s' : State) => exec c s = .next s' ∧ p ∉ [Part.dram, .sram, .ccSram, .store] ∧ p.setBy c = false)
    .fuses (.smbusTimeout 0) up (up.at 0) :=
  ⟨rfl, by decide +kernel⟩

theorem witness_registerFrame : (fun (c : Instr) (s s' : State) (a : Nat) (b : Blk) => exec c s = .next s' ∧ anyBlock c = false ∧ (blocksOf c).length ≤ 2 ∧ blkOf a = some b ∧ b ≠ .flow ∧ b ≠ .pmu ∧ b ∉ blocksOf c)
    (.smbusTimeout 0) up (up.at 0) R.SP_TGT .spin :=
  ⟨rfl, by decide +kernel⟩

theorem witness_registerFrameWide : (fun (c : Instr) (s s' : State) (a : Nat) (b : Blk) => exec c s = .next s' ∧ anyBlock c = false ∧ (blocksOf c).length > 2 ∧ blkOf a = some b ∧ b ≠ .flow ∧ b ≠ .pmu ∧ b ∉ blocksOf c)
    (.mwdogExpiry 0) up ((up.at 0).mwdogExpiry) R.SP_TGT .spin :=
  ⟨rfl, by decide +kernel⟩

end Sys2Proof.Tests
end

section
/-! PROOF. R10 and R11: accesses to registers that are narrow or straddle, and accesses at unassigned offsets. -/

namespace Sys2Proof.Machine

open Sys2Proof

/-! ### The aligned word of an address -/

theorem alignedWord_lt {k a : Nat} (h : 4 ∣ k) : a / 4 * 4 < k ↔ a < k := by omega

theorem alignedWord_sub {k a : Nat} (h : 4 ∣ k) : a / 4 * 4 - k = (a - k) / 4 * 4 := by omega

theorem alignedWord_div {k a : Nat} (h : 4 ∣ k) : a / 4 * 4 / k = a / k := by
  obtain ⟨c, rfl⟩ := h
  rw [Nat.mul_comm 4 c, Nat.mul_div_mul_right _ _ (by decide), Nat.div_div_eq_div_mul, Nat.mul_comm 4 c]

theorem alignedWord_mod {k a : Nat} (h : 4 ∣ k) : a / 4 * 4 % k = a % k / 4 * 4 := by
  obtain ⟨c, rfl⟩ := h
  rw [Nat.mod_mul_right_div_self, Nat.mul_comm 4 c, Nat.mul_mod_mul_right]

/-- The place of the word that holds a byte of a register: every block begins at a whole word (R528 to R533). -/
def Place.aligned : Place → Place
  | .block b n off => .block b n (off / 4 * 4)
  | p => p

/-- A bound of the map is a whole word, so a byte and its word lie on the same side of it. -/
theorem Place.aligned_ite {a k : Nat} {p q p' q' : Place} (hk : 4 ∣ k) (hp : p = p'.aligned) (hq : q = q'.aligned) :
    (if a / 4 * 4 < k then p else q) = (if a < k then p' else q').aligned := by
  simp only [alignedWord_lt hk, hp, hq, apply_ite Place.aligned]

theorem placeM_alignedWord (o : Nat) : placeM (o / 4 * 4) = (placeM o).aligned := by
  unfold placeM
  rw [alignedWord_mod (by decide)]
  dsimp only
  repeat' apply Place.aligned_ite (by decide)
  all_goals simp (disch := decide) only [alignedWord_sub, alignedWord_div, Place.aligned]

theorem placeOf_alignedWord (a : Nat) : placeOf (a / 4 * 4) = (placeOf a).aligned := by
  unfold placeOf
  rw [alignedWord_sub (by decide), alignedWord_div (by decide), alignedWord_mod (by decide)]
  iterate 6 refine Place.aligned_ite (by decide) rfl ?_
  refine Place.aligned_ite (by decide) ?hDie (Place.aligned_ite (by decide) rfl
    (Place.aligned_ite (by decide) ?mDie ?_))
  case hDie =>
    generalize (a - 0x100000000) / 0x100000 = w, a % 0x100000 = o
    dsimp only
    split
    all_goals repeat' apply Place.aligned_ite (by decide)
    all_goals simp (disch := decide) only [alignedWord_sub, alignedWord_div, alignedWord_mod, Place.aligned]
  case mDie => rw [alignedWord_sub (by decide), placeM_alignedWord]
  iterate 2 refine Place.aligned_ite (by decide) rfl ?_
  rfl

/-! ### An access at a register address -/

section
variable {s u : State} {t : Nat} {i : Initiator} {a k n o : Nat} {b : Blk}

/-- An access at an address of a block ends with no access fault (R529). -/
theorem accessFaults_of_block (hp : placeOf a = .block b n o) : accessFaults i a = false := by
  simp only [accessFaults, hp]

/-- REGISTER_WRITE at an address of a block. -/
theorem exec_registerWrite_of_block (hu : s.at t = u) (hr : u.reaches i a = true) (hp : placeOf a = .block b n o)
    (d : BitVec 32) : exec (.registerWrite t i a k d) s = .next (u.regWrite i a k d.toNat) := by
  subst hu
  change execRegisterWrite t i a k d s = _
  simp [execRegisterWrite, State.busStore, hr, hp, accessFaults_of_block hp]

/-- REGISTER_READ_CLEAR at an address of a block. -/
theorem exec_registerReadClear_of_block (hu : s.at t = u) (hr : u.reaches i a = true) (hp : placeOf a = .block b n o) :
    exec (.registerReadClear t i a k) s = .next (u.busRegRead i a k) := by
  subst hu
  change execRegisterReadClear t i a k s = _
  simp [execRegisterReadClear, State.readCmd, State.busLoad, hr, hp, accessFaults_of_block hp]

/-- UNALIGNED_ACCESS that straddles, at an address of a block. -/
theorem exec_unalignedAccess_of_block (hu : s.at t = u) (hr : u.reaches i a = true) (hp : placeOf a = .block b n o)
    (hk : inWord a k = false) (isWrite : Bool) :
    exec (.unalignedAccess t i a k isWrite) s =
      .next (if isWrite then u.badAccess a else { u.badAccess a with lastRead := 0#32 }) := by
  subst hu
  change execUnalignedAccess t i a k isWrite s = _
  simp [execUnalignedAccess, hr, hp, hk, accessFaults_of_block hp]

/-- A refused access sends PROTOCOL of the block, or of PWR while the block's domain is not ON (R10, R433). -/
theorem State.badAccess_of_block (hp : placeOf a = .block b n o) (hl : inMWindow a = true → u.linkUp = true) :
    u.badAccess a = u.protocol (if u.addrOn a then b.src n else 0) 0 := by
  have hlink : ¬(inMWindow a = true ∧ u.linkUp = false) := fun ⟨hw, hd⟩ => by simp [hl hw] at hd
  cases hon : u.addrOn a <;> simp [State.badAccess, hlink, hon, hp]

theorem State.regWrite_of_not_wholeWord (hk : k ≠ 4 ∨ inWord a k = false) (w : Nat) :
    u.regWrite i a k w = u.badAccess a :=
  if_pos hk.symm

theorem State.busRegRead_of_straddles (hk : inWord a k = false) :
    u.busRegRead i a k = { u.badAccess a with lastRead := 0#32 } :=
  if_pos hk

theorem State.busRegRead_of_inWord (hk : inWord a k = true) (hw : inMWindow a = false) :
    u.busRegRead i a k = u.regRead i a k := by
  simp [State.busRegRead, hk, hw]

theorem inWord_four (ha : a % 4 = 0) : inWord a 4 = true := by
  simp only [inWord, Bool.and_eq_true, decide_eq_true_eq, beq_iff_eq]
  omega

theorem State.regWrite_wholeWord (ha : a % 4 = 0) (hw : inMWindow a = false) (w : Nat) :
    u.regWrite i a 4 w = u.regArrive i a w := by
  simp [State.regWrite, inWord_four ha, hw]

end

/-! ### What a read of a register returns and changes -/

/-- An access of the Command Window by the holder restarts the time of its lock (R382), and does no more. -/
theorem State.cwAccess_eq (s : State) (code : Nat) :
    s.cwAccess code = s ∨ s.cwAccess code = { s with mgmt := { s.mgmt with cwTouch := s.gtc } } := by
  unfold State.cwAccess
  split
  · exact .inr rfl
  · exact .inl rfl

/-- An access by a path to the registers of the management block that count as the Command Window's (R382). -/
def touchesWindow (i : Initiator) (a : Nat) : Bool :=
  match placeOf a with
  | .block .mgmt _ off => pathCode i != 0 && decide (off < 0x2000)
  | _ => false

theorem touchesWindow_alignedWord (i : Initiator) (a : Nat) : touchesWindow i (a / 4 * 4) = touchesWindow i a := by
  unfold touchesWindow
  rw [placeOf_alignedWord]
  cases placeOf a with
  | block b n off =>
    have hoff : off / 4 * 4 < 0x2000 ↔ off < 0x2000 := alignedWord_lt (by decide)
    cases b <;> simp [Place.aligned, hoff]
  | _ => rfl

/-- What the read of the word that holds `a` leaves, with the whole word read. -/
def State.wordRead (s : State) (i : Initiator) (a : Nat) : State :=
  if touchesWindow i a then (s.readReg i (a / 4 * 4)).cwAccess (pathCode i) else s.readReg i (a / 4 * 4)

theorem State.regRead_eq (s : State) (i : Initiator) (a k : Nat) :
    s.regRead i a k = { s.wordRead i a with lastRead := BitVec.ofNat 32 (narrow (s.wordRead i a).lastRead.toNat a k) } := rfl

theorem State.wordRead_alignedWord (s : State) (i : Initiator) (a : Nat) : s.wordRead i (a / 4 * 4) = s.wordRead i a := by
  have haa : a / 4 * 4 / 4 * 4 = a / 4 * 4 := by omega
  simp only [State.wordRead, touchesWindow_alignedWord, haa]

/-- A read of a whole word returns it unshifted. -/
theorem narrow_wholeWord (w : BitVec 32) (a : Nat) : BitVec.ofNat 32 (narrow w.toNat (a / 4 * 4) 4) = w := by
  apply BitVec.eq_of_toNat_eq
  simp only [narrow, Nat.mul_mod_left, Nat.mul_zero, Nat.pow_zero, Nat.div_one, BitVec.toNat_ofNat]
  have hw := w.isLt
  omega

theorem State.regRead_wholeWord (s : State) (i : Initiator) (a : Nat) : s.regRead i (a / 4 * 4) 4 = s.wordRead i a := by
  simp only [State.regRead_eq, State.wordRead_alignedWord, narrow_wholeWord]

/-- R10: a narrower read changes what the read of its word changes, and returns the addressed bytes of it. -/
theorem State.regRead_narrow (s : State) (i : Initiator) (a k : Nat) :
    s.regRead i a k = { s.regRead i (a / 4 * 4) 4 with
      lastRead := BitVec.ofNat 32 (narrow (s.regRead i (a / 4 * 4) 4).lastRead.toNat a k) } := by
  rw [State.regRead_wholeWord, State.regRead_eq]

/-! ### Unassigned offsets (R11) -/

theorem State.regArrive_unassigned {u : State} {a : Nat} (h : regAt a = none) (hon : u.addrOn a = true) (i : Initiator) (w : Nat) :
    u.regArrive i a w = u := by
  simp [State.regArrive, h, hon]

theorem State.wordRead_unassigned {u : State} {a : Nat} (h : regAt a = none) (ha : a % 4 = 0) (i : Initiator) :
    (u.wordRead i a).lastRead = 0#32 ∧ (u.wordRead i a).sump = u.sump := by
  have haa : a / 4 * 4 = a := by omega
  have hread : u.readReg i a = { u with lastRead := 0#32 } := by simp only [State.readReg, h]
  unfold State.wordRead
  rw [haa, hread]
  split
  · rcases State.cwAccess_eq { u with lastRead := 0#32 } (pathCode i) with hc | hc <;> rw [hc] <;> exact ⟨rfl, rfl⟩
  · exact ⟨rfl, rfl⟩

theorem State.regRead_unassigned {u : State} {a : Nat} (h : regAt a = none) (ha : a % 4 = 0) (i : Initiator) :
    (u.regRead i a 4).lastRead = 0#32 ∧ (u.regRead i a 4).sump = u.sump := by
  have haa : a / 4 * 4 = a := by omega
  have hword := State.regRead_wholeWord u i a
  rw [haa] at hword
  rw [hword]
  exact State.wordRead_unassigned h ha i

/-! ### The obligations -/

/-- Settles O44: a refused access is one PROTOCOL message, and a narrow read is the read of its word, narrowed. -/
theorem narrowAndStraddlingAccesses : Obligations.NarrowAndStraddlingAccesses := by
  intro s u t i a k b n o hu hr hp _ hl
  obtain ⟨src, hbad⟩ : ∃ src, u.badAccess a = u.protocol src 0 := ⟨_, State.badAccess_of_block hp hl⟩
  refine ⟨fun hk => ⟨src, fun d => ?_⟩, fun hk => ⟨src, ?_, ?_, ?_⟩,
    fun hk => ⟨State.regRead_narrow u i a k, fun hw => ?_⟩⟩
  · rw [exec_registerWrite_of_block hu hr hp, State.regWrite_of_not_wholeWord hk, hbad]
  · rw [exec_registerReadClear_of_block hu hr hp, State.busRegRead_of_straddles hk, hbad]
  · rw [exec_unalignedAccess_of_block hu hr hp hk, if_pos rfl, hbad]
  · rw [exec_unalignedAccess_of_block hu hr hp hk, if_neg Bool.false_ne_true, hbad]
  · rw [exec_registerReadClear_of_block hu hr hp, State.busRegRead_of_inWord hk hw]

/-- Settles O45: with no row at the offset the write has no block to act on, and the read returns 0 and sends no message. -/
theorem unassignedOffsets : Obligations.UnassignedOffsets := by
  intro s u t i a b n o hu hr hp h hon ha
  obtain ⟨hzero, hsump⟩ := State.regRead_unassigned (u := u) h ha i
  refine ⟨State.regArrive_unassigned h hon i, hzero, fun hw => ⟨fun d => ?_, u.regRead i a 4, ?_, hzero, hsump⟩⟩
  · rw [exec_registerWrite_of_block hu hr hp, State.regWrite_wholeWord ha hw, State.regArrive_unassigned h hon]
  · rw [exec_registerReadClear_of_block hu hr hp, State.busRegRead_of_inWord (inWord_four ha) hw]

end Sys2Proof.Machine
end

section
/-! PROOF. R308: a busy Map Cache discards writes to MAPC_OP_CMD and to MAPC_LOCK with a PROTOCOL message. -/

namespace Sys2Proof.Machine

open Sys2Proof

/-! ### A core's write at the address of a register -/

section
variable {s u : State} {t : Nat} {i : Initiator} {a n k : Nat} {b : Blk} {r : RegRow}

theorem Who.core_allows : Who.core.allows i = true ↔ i = .cc ∨ ∃ c, i = .app c := by
  cases i <;> simp [Who.allows]

/-- A core reaches every address. -/
theorem State.reaches_of_core (h : Who.core.allows i = true) : u.reaches i a = true := by
  obtain rfl | ⟨c, rfl⟩ := Who.core_allows.mp h <;> rfl

theorem placeOf_of_regAt (h : regAt a = some (b, n, r, k)) : ∃ o, placeOf a = .block b n o := by
  unfold regAt at h
  split at h
  next b' n' o hp =>
    obtain ⟨q, -, hq⟩ := Option.map_eq_some_iff.mp h
    cases hq
    exact ⟨o, hp⟩
  next => cases h

/-- What `takesWrite` says of a register that its block's row describes. -/
theorem State.takesWrite_of_regAt (hrow : regAt a = some (b, n, r, k)) (h : u.takesWrite i a = true) :
    u.addrOn a = true ∧ r.who.allows i = true := by
  simp only [State.takesWrite, whoAt, hrow, Bool.and_eq_true] at h
  exact ⟨h.1.2, h.2⟩

/-- A core's write to a register of the cores takes effect or is refused with a message; it is not ignored (R26, R366). -/
theorem State.verdict_ne_ignore_of_core {x : RegWrite} (hwho : x.row.who = .core) (hi : Who.core.allows x.ini = true) :
    u.verdict x ≠ .ignore := by
  unfold State.verdict
  rw [hwho]
  dsimp only
  rw [if_pos hi]
  split
  · split <;> exact Verdict.noConfusion
  · split
    · split <;> exact Verdict.noConfusion
    · exact Verdict.noConfusion

/-- Where its block would answer with PROTOCOL only, a core's write has that answer whether the checks let it pass or not. -/
theorem State.regArrive_protocol (hrow : regAt a = some (b, n, r, k)) (hwho : r.who = .core) (ht : u.takesWrite i a = true)
    {w : Nat} (heff : u.regEffect ⟨i, b, n, offOf a, a, r, w⟩ = u.protocol (b.src n) 0) :
    u.regArrive i a w = u.protocol (b.src n) 0 := by
  obtain ⟨hon, hallows⟩ := State.takesWrite_of_regAt hrow ht
  have hverdict := State.verdict_ne_ignore_of_core (u := u) (x := ⟨i, b, n, offOf a, a, r, w⟩) hwho (hwho ▸ hallows)
  simp only [State.regArrive, hon, hrow, Bool.true_eq_false, if_false]
  split
  next => exact heff
  next => rfl
  next h => exact absurd h hverdict

/-- REGISTER_WRITE by a core, at a register outside the M-die window, of a word its block answers with PROTOCOL only. -/
theorem exec_registerWrite_protocol (hu : s.at t = u) (hrow : regAt a = some (b, n, r, k)) (hwho : r.who = .core)
    (ha : a % 4 = 0) (hw : inMWindow a = false) (ht : u.takesWrite i a = true) {d : BitVec 32}
    (heff : u.regEffect ⟨i, b, n, offOf a, a, r, d.toNat⟩ = u.protocol (b.src n) 0) :
    exec (.registerWrite t i a 4 d) s = .next (u.protocol (b.src n) 0) := by
  obtain ⟨o, hp⟩ := placeOf_of_regAt hrow
  have hcore : Who.core.allows i = true := hwho ▸ (State.takesWrite_of_regAt hrow ht).2
  rw [exec_registerWrite_of_block hu (State.reaches_of_core hcore) hp, State.regWrite_wholeWord ha hw,
    State.regArrive_protocol hrow hwho ht heff]

end

/-! ### The Map Cache's registers -/

theorem regAt_MAPC_OP_CMD : regAt R.MAPC_OP_CMD = some (.mapc, 0, ⟨0x1C, 1, 4, 0, .core, [⟨31, 0, .wo, .any⟩]⟩, 0) := by decide

theorem regAt_MAPC_LOCK : regAt R.MAPC_LOCK = some (.mapc, 0, ⟨0x8, 1, 4, 0, .core, [⟨5, 0, .rwg, .any⟩]⟩, 0) := by decide

/-- An operation asked for while OP_BUSY or DISABLE_BUSY is 1 is discarded (R308). -/
theorem State.mapcCmd_busy {u : State} (h : u.bit R.MAPC_STATUS 2 = true ∨ u.bit R.MAPC_STATUS 1 = true) (i : Initiator) (w : Nat) :
    u.mapcCmd i w = u.protocol 48 0 :=
  if_pos h.symm

/-- A PRELOAD runs (R308). Whether the writer holds the grant does not matter: without it the answer is the same (R366). -/
theorem State.mapcLock_preloading {u : State} (h : ∃ o, u.mapc.op = some o ∧ o.op = 5) (i : Initiator) (w : Nat) :
    u.mapcLock i w = u.protocol 48 0 := by
  obtain ⟨o, hop, hpreload⟩ := h
  simp [State.mapcLock, hop, hpreload]

/-- The one outcome of every command that writes MAPC_OP_CMD, whatever operation it asks for (R308). -/
theorem State.onReg_mapcCmd_busy {u : State} {i : Initiator} (ht : u.takesWrite i R.MAPC_OP_CMD = true)
    (h : u.bit R.MAPC_STATUS 2 = true ∨ u.bit R.MAPC_STATUS 1 = true) (w : Nat) :
    u.onReg i R.MAPC_OP_CMD (fun s => s.mapcCmd i w) = u.protocol 48 0 := by
  rw [State.onReg_takes u i _ _ ht, State.mapcCmd_busy h]

/-- The one outcome of a command that writes MAPC_LOCK while a PRELOAD runs (R308). -/
theorem State.onReg_mapcLock_preloading {u : State} {i : Initiator} (ht : u.takesWrite i R.MAPC_LOCK = true)
    (h : ∃ o, u.mapc.op = some o ∧ o.op = 5) (w : Nat) :
    u.onReg i R.MAPC_LOCK (fun s => s.mapcLock i w) = u.protocol 48 0 := by
  rw [State.onReg_takes u i _ _ ht, State.mapcLock_preloading h]

/-- Settles O48: both registers answer a write with PROTOCOL of the Map Cache, by command and by address. -/
theorem mapCacheBusyWrites : Obligations.MapCacheBusyWrites := by
  rintro s u t i rfl
  refine ⟨fun ht hbusy => ?_, fun ht hpreload => ?_⟩
  · have hcmd (w : Nat) : (.next ((s.at t).onReg i R.MAPC_OP_CMD (fun u => u.mapcCmd i w)) : Res) = .next ((s.at t).protocol 48 0) :=
      congrArg Host.Outcome.next (State.onReg_mapcCmd_busy ht hbusy w)
    exact ⟨hcmd 1, hcmd 2, hcmd 3, hcmd 4, fun way => hcmd (5 + 16 * way.toNat), fun d =>
      exec_registerWrite_protocol rfl regAt_MAPC_OP_CMD rfl rfl rfl ht (State.mapcCmd_busy hbusy i d.toNat)⟩
  · exact ⟨fun w => congrArg Host.Outcome.next (State.onReg_mapcLock_preloading ht hpreload w.toNat), fun d =>
      exec_registerWrite_protocol rfl regAt_MAPC_LOCK rfl rfl rfl ht (State.mapcLock_preloading hpreload i d.toNat)⟩

end Sys2Proof.Machine
end

section
/-! PROOF. R412: one happening fires every definition that it satisfies, in ascending number, and ONCE clears EN. -/

namespace Sys2Proof.Machine

open Sys2Proof

/-! ### The two parts of a firing: the definition's word 0, and the FIFO -/

/-- Word 0 of a definition after it fires: ONCE clears EN (R412). -/
def firedW0 (w : Nat) : Nat := if bitOf w 3 then putBits w 0 0 0 else w

theorem bitOf_putBits_zero (w k : Nat) : bitOf (putBits w k k 0) k = false := by
  have h := bitsOf_putBits w k k 0
  rw [bitsOf, show k + 1 - k = 1 by omega] at h
  simpa [bitOf] using h

/-- A definition that was enabled stays enabled exactly without ONCE. -/
theorem bitOf_firedW0 {w : Nat} (hen : bitOf w 0 = true) : bitOf (firedW0 w) 0 = !bitOf w 3 := by
  unfold firedW0
  cases bitOf w 3 with
  | true => exact bitOf_putBits_zero w 0
  | false => exact hen

/-- What a firing does to the definition: it clears EN if ONCE is set. -/
def State.flowDisarm (s : State) (d : Nat) : State := if bitOf (s.flowW0 d) 3 then s.setFld (R.FLOW_DEF_W0 d) 0 0 0 else s

/-- What a firing does to the FIFO: the trigger enters it, or is dropped and counted (R413, R417). -/
def State.flowPush (s : State) (x : Trig) : State :=
  if s.flow.fifo.length < 16 then { s with flow := { s.flow with fifo := s.flow.fifo ++ [x] } }
  else { s.bump R.FLOW_CNT_MISSED with flow := { s.flow with missed := satU 16 (s.flow.missed + 1) } }

theorem FLOW_DEF_W0_inj {d e : Nat} : R.FLOW_DEF_W0 d = R.FLOW_DEF_W0 e ↔ d = e := by
  unfold R.FLOW_DEF_W0; omega

section
variable (s : State) (d : Nat) (x : Trig)

@[simp] theorem State.flowDisarm_flow : (s.flowDisarm d).flow = s.flow := by
  unfold State.flowDisarm
  split <;> rfl

theorem State.flowW0_flowDisarm : (s.flowDisarm d).flowW0 d = firedW0 (s.flowW0 d) := by
  unfold State.flowDisarm firedW0
  split
  · have hlt := putBits_lt (s.flowW0 d) 0 0 0 (Nat.le_refl 0) (by decide) (s.reg _).isLt
    exact (s.rd_setReg_same _ _).trans (Nat.mod_eq_of_lt hlt)
  · rfl

theorem State.rd_flowDisarm_ne {a : Nat} (h : a ≠ R.FLOW_DEF_W0 d) : (s.flowDisarm d).rd a = s.rd a := by
  unfold State.flowDisarm
  split
  · exact s.rd_setReg_ne _ _ _ h
  · rfl

theorem State.fifo_flowPush (h : s.flow.fifo.length < 16) : (s.flowPush x).flow.fifo = s.flow.fifo ++ [x] := by
  rw [State.flowPush, if_pos h]

theorem State.rd_flowPush_ne {a : Nat} (h : a ≠ R.FLOW_CNT_MISSED) : (s.flowPush x).rd a = s.rd a := by
  unfold State.flowPush
  split
  · rfl
  · exact s.rd_setReg_ne _ _ _ h

end

/-! ### One trigger -/

section
variable (s : State) (d src g i0 i1 : Nat)

theorem State.flowFire_sealed (h : s.bit R.FLOW_STATUS 2 = true) : s.flowFire d src g i0 i1 = s.bump R.FLOW_CNT_IGNORED :=
  if_pos h

theorem State.flowFire_unsealed (h : s.bit R.FLOW_STATUS 2 = false) :
    s.flowFire d src g i0 i1 = (s.flowDisarm d).flowPush ⟨d, src, g, i0, i1⟩ :=
  if_neg (Bool.eq_false_iff.mp h)

/-- A firing writes the definition's word 0 and two counters, and no other register. -/
theorem State.rd_flowFire_ne {a : Nat} (hd : a ≠ R.FLOW_DEF_W0 d) (hi : a ≠ R.FLOW_CNT_IGNORED) (hm : a ≠ R.FLOW_CNT_MISSED) :
    (s.flowFire d src g i0 i1).rd a = s.rd a := by
  cases h : s.bit R.FLOW_STATUS 2 with
  | true => rw [s.flowFire_sealed d src g i0 i1 h]; exact s.rd_setReg_ne _ _ _ hi
  | false => rw [s.flowFire_unsealed d src g i0 i1 h, State.rd_flowPush_ne _ _ hm, s.rd_flowDisarm_ne d hd]

theorem State.flowW0_flowFire_ne {e : Nat} (h : e ≠ d) : (s.flowFire d src g i0 i1).flowW0 e = s.flowW0 e :=
  s.rd_flowFire_ne d src g i0 i1 (fun heq => h (FLOW_DEF_W0_inj.mp heq)) (by unfold R.FLOW_DEF_W0 R.FLOW_CNT_IGNORED; omega)
    (by unfold R.FLOW_DEF_W0 R.FLOW_CNT_MISSED; omega)

/-- No trigger seals or unseals the recorder. -/
@[simp] theorem State.sealed_flowFire : (s.flowFire d src g i0 i1).bit R.FLOW_STATUS 2 = s.bit R.FLOW_STATUS 2 :=
  congrArg (bitOf · 2) (s.rd_flowFire_ne d src g i0 i1 (by unfold R.FLOW_STATUS R.FLOW_DEF_W0; omega) (by decide) (by decide))

theorem State.flowW0_flowFire_same (h : s.bit R.FLOW_STATUS 2 = false) :
    (s.flowFire d src g i0 i1).flowW0 d = firedW0 (s.flowW0 d) := by
  rw [s.flowFire_unsealed d src g i0 i1 h, ← s.flowW0_flowDisarm d]
  exact State.rd_flowPush_ne _ _ (by unfold R.FLOW_DEF_W0 R.FLOW_CNT_MISSED; omega)

theorem State.fifo_flowFire (h : s.bit R.FLOW_STATUS 2 = false) (hroom : s.flow.fifo.length < 16) :
    (s.flowFire d src g i0 i1).flow.fifo = s.flow.fifo ++ [⟨d, src, g, i0, i1⟩] := by
  rw [s.flowFire_unsealed d src g i0 i1 h, State.fifo_flowPush _ _ (by simpa using hroom), State.flowDisarm_flow]

end

/-! ### Every definition that a happening satisfies -/

/-- A test of definitions that reads nothing but the definition's own word 0, so that no other definition's firing changes its
answer. -/
def ReadsOwnW0 (f : State → Nat → Bool) : Prop := ∀ s s' d, s'.flowW0 d = s.flowW0 d → f s' d = f s d

theorem readsOwnW0_flowTakes (src kind : Nat) : ReadsOwnW0 (fun s d => s.flowTakes src kind d) := by
  intro s s' d h
  simp only [State.flowTakes, State.flowDefOn, h]

theorem readsOwnW0_flowCounts (n : Nat) : ReadsOwnW0 (fun s d => s.flowCounts n d) := by
  intro s s' d h
  simp only [State.flowCounts, State.flowDefOn, h]

section
variable (s : State) {f : State → Nat → Bool} (hf : ReadsOwnW0 f) (src g i0 i1 : Nat)

theorem State.flowFireAll_cons_fires {d : Nat} {r : List Nat} (h : f s d = true) :
    s.flowFireAll f src g i0 i1 (d :: r) = (s.flowFire d src g i0 i1).flowFireAll f src g i0 i1 r := by
  rw [State.flowFireAll, if_pos h]

theorem State.flowFireAll_cons_skips {d : Nat} {r : List Nat} (h : f s d = false) :
    s.flowFireAll f src g i0 i1 (d :: r) = s.flowFireAll f src g i0 i1 r := by
  rw [State.flowFireAll, if_neg (Bool.eq_false_iff.mp h)]

/-- Definitions outside the list keep their word 0. -/
theorem State.flowW0_flowFireAll_of_notMem {e : Nat} (l : List Nat) (he : e ∉ l) :
    (s.flowFireAll f src g i0 i1 l).flowW0 e = s.flowW0 e := by
  induction l generalizing s with
  | nil => rfl
  | cons d r ih =>
    obtain ⟨hed, her⟩ := List.ne_and_not_mem_of_not_mem_cons he
    cases h : f s d with
    | true => rw [s.flowFireAll_cons_fires src g i0 i1 h, ih _ her, s.flowW0_flowFire_ne d src g i0 i1 hed]
    | false => rw [s.flowFireAll_cons_skips src g i0 i1 h, ih _ her]

include hf

/-- A definition's firing leaves the test of every other as it was. -/
theorem ReadsOwnW0.flowFire_ne {d e : Nat} (h : e ≠ d) : f (s.flowFire d src g i0 i1) e = f s e :=
  hf s _ e (s.flowW0_flowFire_ne d src g i0 i1 h)

/-- Each definition of the list that passes the test fires once. -/
theorem State.flowW0_flowFireAll_of_mem {e : Nat} (l : List Nat) (hl : l.Nodup) (he : e ∈ l) (hfe : f s e = true)
    (hs : s.bit R.FLOW_STATUS 2 = false) : (s.flowFireAll f src g i0 i1 l).flowW0 e = firedW0 (s.flowW0 e) := by
  induction l generalizing s with
  | nil => cases he
  | cons d r ih =>
    obtain ⟨hdr, hr⟩ := List.nodup_cons.mp hl
    by_cases hed : e = d
    · subst hed
      rw [s.flowFireAll_cons_fires src g i0 i1 hfe, State.flowW0_flowFireAll_of_notMem _ src g i0 i1 r hdr,
        s.flowW0_flowFire_same e src g i0 i1 hs]
    · have her : e ∈ r := List.mem_of_ne_of_mem hed he
      cases h : f s d with
      | true =>
        rw [s.flowFireAll_cons_fires src g i0 i1 h,
          ih _ hr her ((hf.flowFire_ne s src g i0 i1 hed).trans hfe) (by simpa using hs), s.flowW0_flowFire_ne d src g i0 i1 hed]
      | false => rw [s.flowFireAll_cons_skips src g i0 i1 h, ih s hr her hfe hs]

/-- While the FIFO has room, the definitions that pass the test put their triggers in it in the list's order. -/
theorem State.fifo_flowFireAll (l : List Nat) (hl : l.Nodup) (hs : s.bit R.FLOW_STATUS 2 = false)
    (hroom : s.flow.fifo.length + (l.filter (f s)).length ≤ 16) :
    (s.flowFireAll f src g i0 i1 l).flow.fifo = s.flow.fifo ++ (l.filter (f s)).map (fun d => ⟨d, src, g, i0, i1⟩) := by
  induction l generalizing s with
  | nil => simp [State.flowFireAll]
  | cons d r ih =>
    obtain ⟨hdr, hr⟩ := List.nodup_cons.mp hl
    cases h : f s d with
    | true =>
      have hrest : r.filter (f (s.flowFire d src g i0 i1)) = r.filter (f s) :=
        List.filter_congr fun e he => hf.flowFire_ne s src g i0 i1 (ne_of_mem_of_not_mem he hdr)
      simp only [List.filter_cons_of_pos h, List.length_cons] at hroom ⊢
      have hfifo := s.fifo_flowFire d src g i0 i1 hs (by omega)
      rw [s.flowFireAll_cons_fires src g i0 i1 h, ih _ hr (by simpa using hs), hfifo, hrest]
      · simp
      · rw [hfifo, hrest, List.length_append, List.length_singleton]; omega
    | false =>
      rw [List.filter_cons_of_neg (by simp [h])] at hroom ⊢
      rw [s.flowFireAll_cons_skips src g i0 i1 h, ih s hr hs hroom]

end

/-! ### A message and an overflow -/

section
variable {s : State}

theorem State.flowTakes_enabled {src kind d : Nat} (h : s.flowTakes src kind d = true) : bitOf (s.flowW0 d) 0 = true := by
  simp only [State.flowTakes, State.flowDefOn, Bool.and_eq_true] at h
  obtain ⟨⟨⟨hen, -⟩, -⟩, -⟩ := h
  exact hen

theorem State.flowCounts_enabled {n d : Nat} (h : s.flowCounts n d = true) : bitOf (s.flowW0 d) 0 = true := by
  simp only [State.flowCounts, State.flowDefOn, Bool.and_eq_true] at h
  obtain ⟨⟨hen, -⟩, -⟩ := h
  exact hen

theorem State.flowFault_of_on (h : s.flowOn = true) (src kind addr : Nat) :
    s.flowFault src kind addr = s.flowFireAll (fun s d => s.flowTakes src kind d) 2 s.gtc (addr % 2 ^ 32)
      (addr / 2 ^ 32 % 65536 + kind % 64 * 65536 + src % 1024 * 4194304) (List.range 64) :=
  if_pos h

theorem State.flowCounter_of_on (h : s.flowOn = true) (n : Nat) :
    s.flowCounter n = s.flowFireAll (fun s d => s.flowCounts n d) 3 s.gtc n 0 (List.range 64) :=
  if_pos h

/-- Of the 64 definitions each that is enabled and passes the test keeps EN exactly without ONCE. -/
theorem State.enabled_flowFireAll {f : State → Nat → Bool} (hf : ReadsOwnW0 f) (src g i0 i1 : Nat)
    (hs : s.bit R.FLOW_STATUS 2 = false) {d : Nat} (hd : d < 64) (hfd : f s d = true) (hen : bitOf (s.flowW0 d) 0 = true) :
    (s.flowFireAll f src g i0 i1 (List.range 64)).bit (R.FLOW_DEF_W0 d) 0 = !s.bit (R.FLOW_DEF_W0 d) 3 :=
  (congrArg (bitOf · 0) (s.flowW0_flowFireAll_of_mem hf src g i0 i1 _ List.nodup_range (List.mem_range.mpr hd) hfd hs)).trans
    (bitOf_firedW0 hen)

end

/-- Settles O49: the definitions are tried in ascending number, and none that fires changes the test of a later one. -/
theorem triggerOrder : Obligations.TriggerOrder := by
  intro u hon hs
  refine ⟨fun src kind addr hroom => ?_, fun n hroom => ?_⟩
  · have htest := readsOwnW0_flowTakes src kind
    rw [State.flowFault_of_on hon]
    exact ⟨u.fifo_flowFireAll htest _ _ _ _ _ List.nodup_range hs hroom, fun d hd htakes =>
      State.enabled_flowFireAll htest _ _ _ _ hs hd htakes (State.flowTakes_enabled htakes)⟩
  · have htest := readsOwnW0_flowCounts n
    rw [State.flowCounter_of_on hon]
    exact ⟨u.fifo_flowFireAll htest _ _ _ _ _ List.nodup_range hs hroom, fun d hd hcounts =>
      State.enabled_flowFireAll htest _ _ _ _ hs hd hcounts (State.flowCounts_enabled hcounts)⟩

end Sys2Proof.Machine
end

section
/-! PROOF. R531: the four actuator sections of the M-die window and the sub-blocks of each. -/

namespace Sys2Proof.Machine

open Sys2Proof

/-- Place of offset `p` of actuator section `n` (R531). -/
def sectionPlace (n p : Nat) : Place :=
  if p < 0x40000 then .block .chan n p
  else if p < 0x80000 then .block .atb n (p - 0x40000)
  else if p < 0xC0000 then .block .loop n (p - 0x80000)
  else .block .act n (p - 0xC0000)

/-! ### Offsets of the M-die window -/

/-- The 16 MiB M-die window (R528). -/
theorem placeOf_mWindow {o : Nat} (ho : o < 0x1000000) : placeOf (0x101000000 + o) = placeM o := by
  have hlower (k : Nat) (hk : k ≤ 0x101000000) : ¬ 0x101000000 + o < k := by omega
  have hend : 0x101000000 + o < 0x102000000 := by omega
  unfold placeOf
  simp (disch := decide) only [hlower, hend, if_false, if_true, Nat.add_sub_cancel_left]

/-- The four sections of 1 MiB stand one behind the other from offset 0x20_0000 (R530, R531). -/
theorem placeM_section {n p : Nat} (hn : n < 4) (hp : p < 0x100000) :
    placeM (0x200000 + 0x100000 * n + p) = sectionPlace n p := by
  have hindex : (0x200000 + 0x100000 * n + p - 0x200000) / 0x100000 = n := by omega
  have hoffset : (0x200000 + 0x100000 * n + p) % 0x100000 = p := by omega
  have hstart (k : Nat) (hk : k ≤ 0x200000) : ¬ 0x200000 + 0x100000 * n + p < k := by omega
  have hend : 0x200000 + 0x100000 * n + p < 0x600000 := by omega
  unfold placeM
  rw [if_neg (hstart _ (by decide)), if_neg (hstart _ (by decide)), if_pos hend]
  simp only [hindex, hoffset, sectionPlace]

theorem placeOf_section {n p : Nat} (hn : n < 4) (hp : p < 0x100000) :
    placeOf (0x101200000 + 0x100000 * n + p) = sectionPlace n p :=
  calc placeOf (0x101200000 + 0x100000 * n + p)
    _ = placeOf (0x101000000 + (0x200000 + 0x100000 * n + p)) := congrArg placeOf (by omega)
    _ = placeM (0x200000 + 0x100000 * n + p) := placeOf_mWindow (by omega)
    _ = sectionPlace n p := placeM_section hn hp

/-! ### The sub-blocks of a section -/

section
variable {n o : Nat} (ho : o < 0x40000)
include ho

theorem sectionPlace_chan : sectionPlace n o = .block .chan n o :=
  if_pos ho

theorem sectionPlace_atb : sectionPlace n (0x40000 + o) = .block .atb n o := by
  rw [sectionPlace, if_neg (by omega), if_pos (by omega), Nat.add_sub_cancel_left]

theorem sectionPlace_loop : sectionPlace n (0x80000 + o) = .block .loop n o := by
  rw [sectionPlace, if_neg (by omega), if_neg (by omega), if_pos (by omega), Nat.add_sub_cancel_left]

theorem sectionPlace_act : sectionPlace n (0xC0000 + o) = .block .act n o := by
  rw [sectionPlace, if_neg (by omega), if_neg (by omega), if_neg (by omega), Nat.add_sub_cancel_left]

end

/-- Settles O47: the address gives back the section's number and the offset in the section, and each sub-block takes its 256 KiB. -/
theorem sectionAddresses : Obligations.SectionAddresses := by
  intro n o ho
  refine ⟨?chan, ?atb, ?loop, ?act⟩
  case chan => rw [Nat.add_zero, placeOf_section n.isLt (by omega), sectionPlace_chan ho]
  case atb => rw [Nat.add_assoc _ 0x40000, placeOf_section n.isLt (by omega), sectionPlace_atb ho]
  case loop => rw [Nat.add_assoc _ 0x80000, placeOf_section n.isLt (by omega), sectionPlace_loop ho]
  case act => rw [Nat.add_assoc _ 0xC0000, placeOf_section n.isLt (by omega), sectionPlace_act ho]

end Sys2Proof.Machine
end
